-- ==== Sys2Proof/Word.lean ====
section
/-! DEFINITION. The word types of the model (00_scope.md R11 to R14) and their plainest arithmetic. -/

namespace Sys2Proof

/-- A byte of memory or of an instruction (20_memory.md R81). -/
abbrev Byte := BitVec 8

/-- A byte address, held in 64 bits in both modes (00_scope.md R10). -/
abbrev Addr := BitVec 64

/-- The six exception flags, at the bit positions of MXCSR[5:0] (05_numerics.md R563). -/
abbrev FpFlags := BitVec 6

/-- A register number: one of the sixteen YMM, XMM or general registers (10_state.md R40, R50). -/
abbrev Reg := Fin 16

/-- The 4-bit number that an encoding holds for a register (30_encoding.md R114). -/
def Reg.bits (r : Reg) : BitVec 4 := BitVec.ofFin r

/-- The register a 4-bit field names. -/
def Reg.ofBits (b : BitVec 4) : Reg := b.toFin

@[simp] theorem Reg.ofBits_bits (r : Reg) : Reg.ofBits r.bits = r := rfl

@[simp] theorem Reg.bits_ofBits (b : BitVec 4) : (Reg.ofBits b).bits = b := rfl

end Sys2Proof
end

