-- ==== Sys2Proof/Config.lean ====
section
/-! DEFINITION. What a run of the machine fixes (the parameters of 00_scope.md R10) and the values the spec leaves free. -/

namespace Sys2Proof

/-- The operating mode of the host, fixed for a whole run (00_scope.md R9). -/
inductive Mode where
  | mode32
  | mode64
  deriving DecidableEq, Repr

/-- The number of vector registers a mode can name (00_scope.md R9). -/
def Mode.nreg : Mode → Nat
  | .mode32 => 8
  | .mode64 => 16

/-- The control inputs that the numeric functions take from MXCSR (05_numerics.md R564). -/
structure Ctl where
  /-- Rounding direction: 0 nearest even, 1 down, 2 up, 3 toward zero. -/
  rc : BitVec 2
  /-- Flush a tiny result to zero. -/
  fz : Bool
  /-- Read a denormal operand as zero. -/
  daz : Bool
  deriving DecidableEq, Repr

/-! ### The floating-point record (05_numerics.md R561) -/

/-- The two formats (05_numerics.md R562). -/
inductive Fmt where
  | f32
  | f64
  deriving DecidableEq, Repr

/-- The width of a format in bits. -/
@[reducible] def Fmt.width : Fmt → Nat
  | .f32 => 32
  | .f64 => 64

/-- The record of total functions that the floating-point rules call: every function depends on its arguments alone, and each
gives the masked response with its flags (05_numerics.md R561, R563). -/
structure Numerics where
  fadd (F : Fmt) (c : Ctl) (a b : BitVec F.width) : BitVec F.width × FpFlags
  fsub (F : Fmt) (c : Ctl) (a b : BitVec F.width) : BitVec F.width × FpFlags
  fmul (F : Fmt) (c : Ctl) (a b : BitVec F.width) : BitVec F.width × FpFlags
  fdiv (F : Fmt) (c : Ctl) (a b : BitVec F.width) : BitVec F.width × FpFlags
  fsqrt (F : Fmt) (c : Ctl) (a : BitVec F.width) : BitVec F.width × FpFlags
  fmax (F : Fmt) (c : Ctl) (a b : BitVec F.width) : BitVec F.width × FpFlags
  fmin (F : Fmt) (c : Ctl) (a b : BitVec F.width) : BitVec F.width × FpFlags
  fcmp (F : Fmt) (c : Ctl) (pred : BitVec 5) (a b : BitVec F.width) : Bool × FpFlags
  fround (F : Fmt) (c : Ctl) (imm4 : BitVec 4) (a : BitVec F.width) : BitVec F.width × FpFlags
  /-- From the first format to the second. -/
  cvtFF (F G : Fmt) (c : Ctl) (a : BitVec F.width) : BitVec G.width × FpFlags
  /-- To a signed integer of `ibits` bits. -/
  cvtFI (F : Fmt) (c : Ctl) (ibits : Nat) (trunc : Bool) (a : BitVec F.width) : BitVec ibits × FpFlags
  /-- From a signed integer of `ibits` bits. -/
  cvtIF (F : Fmt) (c : Ctl) {ibits : Nat} (n : BitVec ibits) : BitVec F.width × FpFlags
  ffma (F : Fmt) (c : Ctl) (negp negz : Bool) (x y z : BitVec F.width) : BitVec F.width × FpFlags
  frcp (a : BitVec 32) : BitVec 32
  frsqrt (a : BitVec 32) : BitVec 32
  deriving Inhabited

/-- Which record a run takes for the open parameter `Numerics` (00_scope.md R10, log 9). -/
inductive NumericsChoice where
  /-- The reference instance the spec offers (05_numerics.md R562 to R588). -/
  | reference
  /-- Any other record: `Config.numerics`, of which nothing is known. -/
  | given
  deriving DecidableEq, Repr

namespace Config

/-! The free values. None has a body, so nothing can be proved of the value it takes; log entries 9 to 12. -/

/-- DESIGN CHOICE (log 9). Some record of numeric functions (05_numerics.md R561): a claim about a run with it is true of every
record. -/
opaque numerics : Numerics

/-- DESIGN CHOICE (log 10). What an implementation proposes as the reciprocal of an ordinary operand: one value for one
operand within a run (05_numerics.md R586, 93_implementation_defined.md U1). -/
opaque rcpDraw : BitVec 32 → BitVec 32

/-- DESIGN CHOICE (log 10). The same for the reciprocal square root. -/
opaque rsqrtDraw : BitVec 32 → BitVec 32

/-- DESIGN CHOICE (log 11). Which NaN operand a fused multiply-add delivers, by its place in the list of the NaN operands
(05_numerics.md R578, 93_implementation_defined.md U6). The arguments are those of `ffma`: the width of the format, the
control inputs, the two signs and the three operands. -/
opaque fmaNanDraw : (w : Nat) → Ctl → Bool → Bool → BitVec w → BitVec w → BitVec w → Nat

/-- DESIGN CHOICE (log 12). The NaN that a dot product delivers for one element (05_numerics.md R588,
93_implementation_defined.md U2), by element width, immediate, control inputs, the two 128-bit operand lanes, the number
of the lane and the number of the element in it. -/
opaque dotNanDraw : (w : Nat) → BitVec 8 → Ctl → BitVec 128 → BitVec 128 → Nat → Nat → BitVec w

end Config

end Sys2Proof
end

