-- ==== Sys2Proof/Syntax.lean ====
section
/-! DEFINITION. The instructions: one constructor for each row of spec/opcode_table.json, operands in assembler order,
destination first (30_encoding.md R111, R128, R130). -/

namespace Sys2Proof

/-- The displacement of a memory operand: absent, one byte or four (30_encoding.md R121, R123). -/
inductive Disp where
  | none
  | d8 (d : BitVec 8)
  | d32 (d : BitVec 32)
  deriving DecidableEq, Repr

/-- A memory operand: an effective address as a mnemonic-level term gives it, or an address by its ModRM, SIB and displacement
(30_encoding.md R111, R121, R122). -/
inductive MemOp where
  /-- An effective address, given directly; no encoding denotes one (30_encoding.md R111, 20_memory.md R83). -/
  | direct (a : Addr)
  /-- `pc_next + disp32`, in Mode64 only. -/
  | rip (d : BitVec 32)
  /-- `disp32` alone, in Mode32 only. -/
  | abs (d : BitVec 32)
  /-- A base register, no SIB byte. -/
  | base (b : Reg) (d : Disp)
  /-- A SIB byte with a base register; no index when its field is 4. -/
  | sib (b : Reg) (scale : BitVec 2) (index : Option Reg) (d : Disp)
  /-- A SIB byte without base: `index * 2^scale + disp32`. -/
  | sibNoBase (scale : BitVec 2) (index : Option Reg) (d : BitVec 32)
  deriving DecidableEq, Repr

/-- The operand that ModRM.rm names: a register or memory (30_encoding.md R119). -/
inductive RegMem where
  | reg (r : Reg)
  | mem (m : MemOp)
  deriving DecidableEq, Repr

/-- An instruction. A suffix tells the rows of one mnemonic apart: X and Y the 128- and 256-bit forms, Load and Store the
memory forms of a move, Reg and Reg2 its two register encodings, Imm the form with an immediate, W1 the form whose fourth
operand is ModRM.rm, R32 and R64 the width of the general register. A mnemonic without V is the legacy form. -/
inductive Instr where
  | vmovupsX (d : Reg) (b : RegMem)   -- R232: xmm1, xmm2/m128
  | vmovupsY (d : Reg) (b : RegMem)   -- R232: ymm1, ymm2/m256
  | vmovupdX (d : Reg) (b : RegMem)   -- R231: xmm1, xmm2/m128
  | vmovupdY (d : Reg) (b : RegMem)   -- R231: ymm1, ymm2/m256
  | vmovssReg (d : Reg) (a : Reg) (b : Reg)   -- R298: xmm1, xmm2, xmm3
  | vmovssLoad (d : Reg) (b : MemOp)   -- R298: xmm1, m32
  | vmovsdReg (d : Reg) (a : Reg) (b : Reg)   -- R297: xmm1, xmm2, xmm3
  | vmovsdLoad (d : Reg) (b : MemOp)   -- R297: xmm1, m64
  | vmovupsXStore (d : RegMem) (a : Reg)   -- R232: xmm2/m128, xmm1
  | vmovupsYStore (d : RegMem) (a : Reg)   -- R232: ymm2/m256, ymm1
  | vmovupdXStore (d : RegMem) (a : Reg)   -- R231: xmm2/m128, xmm1
  | vmovupdYStore (d : RegMem) (a : Reg)   -- R231: ymm2/m256, ymm1
  | vmovssStore (d : MemOp) (a : Reg)   -- R298: m32, xmm1
  | vmovssReg2 (d : Reg) (a : Reg) (b : Reg)   -- R298: xmm1, xmm2, xmm3
  | vmovsdStore (d : MemOp) (a : Reg)   -- R297: m64, xmm1
  | vmovsdReg2 (d : Reg) (a : Reg) (b : Reg)   -- R297: xmm1, xmm2, xmm3
  | vmovhlps (d : Reg) (a : Reg) (b : Reg)   -- R329: xmm1, xmm2, xmm3
  | vmovlpsLoad (d : Reg) (a : Reg) (b : MemOp)   -- R334: xmm1, xmm2, m64
  | vmovlpdLoad (d : Reg) (a : Reg) (b : MemOp)   -- R333: xmm1, xmm2, m64
  | vmovsldupX (d : Reg) (b : RegMem)   -- R240: xmm1, xmm2/m128
  | vmovsldupY (d : Reg) (b : RegMem)   -- R240: ymm1, ymm2/m256
  | vmovddupX (d : Reg) (b : RegMem)   -- R236: xmm1, xmm2/m64
  | vmovddupY (d : Reg) (b : RegMem)   -- R236: ymm1, ymm2/m256
  | vmovlpsStore (d : MemOp) (a : Reg)   -- R334: m64, xmm1
  | vmovlpdStore (d : MemOp) (a : Reg)   -- R333: m64, xmm1
  | vunpcklpsX (d : Reg) (a : Reg) (b : RegMem)   -- R253: xmm1, xmm2, xmm3/m128
  | vunpcklpsY (d : Reg) (a : Reg) (b : RegMem)   -- R253: ymm1, ymm2, ymm3/m256
  | vunpcklpdX (d : Reg) (a : Reg) (b : RegMem)   -- R252: xmm1, xmm2, xmm3/m128
  | vunpcklpdY (d : Reg) (a : Reg) (b : RegMem)   -- R252: ymm1, ymm2, ymm3/m256
  | vunpckhpsX (d : Reg) (a : Reg) (b : RegMem)   -- R251: xmm1, xmm2, xmm3/m128
  | vunpckhpsY (d : Reg) (a : Reg) (b : RegMem)   -- R251: ymm1, ymm2, ymm3/m256
  | vunpckhpdX (d : Reg) (a : Reg) (b : RegMem)   -- R250: xmm1, xmm2, xmm3/m128
  | vunpckhpdY (d : Reg) (a : Reg) (b : RegMem)   -- R250: ymm1, ymm2, ymm3/m256
  | vmovlhps (d : Reg) (a : Reg) (b : Reg)   -- R330: xmm1, xmm2, xmm3
  | vmovhpsLoad (d : Reg) (a : Reg) (b : MemOp)   -- R332: xmm1, xmm2, m64
  | vmovhpdLoad (d : Reg) (a : Reg) (b : MemOp)   -- R331: xmm1, xmm2, m64
  | vmovshdupX (d : Reg) (b : RegMem)   -- R239: xmm1, xmm2/m128
  | vmovshdupY (d : Reg) (b : RegMem)   -- R239: ymm1, ymm2/m256
  | vmovhpsStore (d : MemOp) (a : Reg)   -- R332: m64, xmm1
  | vmovhpdStore (d : MemOp) (a : Reg)   -- R331: m64, xmm1
  | vmovapsX (d : Reg) (b : RegMem)   -- R234: xmm1, xmm2/m128
  | vmovapsY (d : Reg) (b : RegMem)   -- R234: ymm1, ymm2/m256
  | vmovapdX (d : Reg) (b : RegMem)   -- R233: xmm1, xmm2/m128
  | vmovapdY (d : Reg) (b : RegMem)   -- R233: ymm1, ymm2/m256
  | vmovapsXStore (d : RegMem) (a : Reg)   -- R234: xmm2/m128, xmm1
  | vmovapsYStore (d : RegMem) (a : Reg)   -- R234: ymm2/m256, ymm1
  | vmovapdXStore (d : RegMem) (a : Reg)   -- R233: xmm2/m128, xmm1
  | vmovapdYStore (d : RegMem) (a : Reg)   -- R233: ymm2/m256, ymm1
  | vcvtsi2ssR32 (d : Reg) (a : Reg) (b : RegMem)   -- R481: xmm1, xmm2, r/m32
  | vcvtsi2ssR64 (d : Reg) (a : Reg) (b : RegMem)   -- R481: xmm1, xmm2, r/m64
  | vcvtsi2sdR32 (d : Reg) (a : Reg) (b : RegMem)   -- R478: xmm1, xmm2, r/m32
  | vcvtsi2sdR64 (d : Reg) (a : Reg) (b : RegMem)   -- R478: xmm1, xmm2, r/m64
  | vcvttss2siR32 (d : Reg) (b : RegMem)   -- R480: r32, xmm1/m32
  | vcvttss2siR64 (d : Reg) (b : RegMem)   -- R480: r64, xmm1/m32
  | vcvttsd2siR32 (d : Reg) (b : RegMem)   -- R477: r32, xmm1/m64
  | vcvttsd2siR64 (d : Reg) (b : RegMem)   -- R477: r64, xmm1/m64
  | vcvtss2siR32 (d : Reg) (b : RegMem)   -- R479: r32, xmm1/m32
  | vcvtss2siR64 (d : Reg) (b : RegMem)   -- R479: r64, xmm1/m32
  | vcvtsd2siR32 (d : Reg) (b : RegMem)   -- R476: r32, xmm1/m64
  | vcvtsd2siR64 (d : Reg) (b : RegMem)   -- R476: r64, xmm1/m64
  | vmovmskpsX (d : Reg) (b : Reg)   -- R238: reg, xmm2
  | vmovmskpsY (d : Reg) (b : Reg)   -- R238: reg, ymm2
  | vmovmskpdX (d : Reg) (b : Reg)   -- R237: reg, xmm2
  | vmovmskpdY (d : Reg) (b : Reg)   -- R237: reg, ymm2
  | vsqrtpsX (d : Reg) (b : RegMem)   -- R249: xmm1, xmm2/m128
  | vsqrtpsY (d : Reg) (b : RegMem)   -- R249: ymm1, ymm2/m256
  | vsqrtpdX (d : Reg) (b : RegMem)   -- R248: xmm1, xmm2/m128
  | vsqrtpdY (d : Reg) (b : RegMem)   -- R248: ymm1, ymm2/m256
  | vsqrtss (d : Reg) (a : Reg) (b : RegMem)   -- R304: xmm1, xmm2, xmm3/m32
  | vsqrtsd (d : Reg) (a : Reg) (b : RegMem)   -- R303: xmm1, xmm2, xmm3/m64
  | vrsqrtpsX (d : Reg) (b : RegMem)   -- R243: xmm1, xmm2/m128
  | vrsqrtpsY (d : Reg) (b : RegMem)   -- R243: ymm1, ymm2/m256
  | vrsqrtss (d : Reg) (a : Reg) (b : RegMem)   -- R300: xmm1, xmm2, xmm3/m32
  | vrcppsX (d : Reg) (b : RegMem)   -- R242: xmm1, xmm2/m128
  | vrcppsY (d : Reg) (b : RegMem)   -- R242: ymm1, ymm2/m256
  | vrcpss (d : Reg) (a : Reg) (b : RegMem)   -- R299: xmm1, xmm2, xmm3/m32
  | vandpsX (d : Reg) (a : Reg) (b : RegMem)   -- R284: xmm1, xmm2, xmm3/m128
  | vandpsY (d : Reg) (a : Reg) (b : RegMem)   -- R284: ymm1, ymm2, ymm3/m256
  | vandpdX (d : Reg) (a : Reg) (b : RegMem)   -- R283: xmm1, xmm2, xmm3/m128
  | vandpdY (d : Reg) (a : Reg) (b : RegMem)   -- R283: ymm1, ymm2, ymm3/m256
  | vandnpsX (d : Reg) (a : Reg) (b : RegMem)   -- R286: xmm1, xmm2, xmm3/m128
  | vandnpsY (d : Reg) (a : Reg) (b : RegMem)   -- R286: ymm1, ymm2, ymm3/m256
  | vandnpdX (d : Reg) (a : Reg) (b : RegMem)   -- R285: xmm1, xmm2, xmm3/m128
  | vandnpdY (d : Reg) (a : Reg) (b : RegMem)   -- R285: ymm1, ymm2, ymm3/m256
  | vorpsX (d : Reg) (a : Reg) (b : RegMem)   -- R288: xmm1, xmm2, xmm3/m128
  | vorpsY (d : Reg) (a : Reg) (b : RegMem)   -- R288: ymm1, ymm2, ymm3/m256
  | vorpdX (d : Reg) (a : Reg) (b : RegMem)   -- R287: xmm1, xmm2, xmm3/m128
  | vorpdY (d : Reg) (a : Reg) (b : RegMem)   -- R287: ymm1, ymm2, ymm3/m256
  | vxorpsX (d : Reg) (a : Reg) (b : RegMem)   -- R290: xmm1, xmm2, xmm3/m128
  | vxorpsY (d : Reg) (a : Reg) (b : RegMem)   -- R290: ymm1, ymm2, ymm3/m256
  | vxorpdX (d : Reg) (a : Reg) (b : RegMem)   -- R289: xmm1, xmm2, xmm3/m128
  | vxorpdY (d : Reg) (a : Reg) (b : RegMem)   -- R289: ymm1, ymm2, ymm3/m256
  | vaddpsX (d : Reg) (a : Reg) (b : RegMem)   -- R262: xmm1, xmm2, xmm3/m128
  | vaddpsY (d : Reg) (a : Reg) (b : RegMem)   -- R262: ymm1, ymm2, ymm3/m256
  | vaddpdX (d : Reg) (a : Reg) (b : RegMem)   -- R261: xmm1, xmm2, xmm3/m128
  | vaddpdY (d : Reg) (a : Reg) (b : RegMem)   -- R261: ymm1, ymm2, ymm3/m256
  | vaddss (d : Reg) (a : Reg) (b : RegMem)   -- R322: xmm1, xmm2, xmm3/m32
  | vaddsd (d : Reg) (a : Reg) (b : RegMem)   -- R321: xmm1, xmm2, xmm3/m64
  | vmulpsX (d : Reg) (a : Reg) (b : RegMem)   -- R266: xmm1, xmm2, xmm3/m128
  | vmulpsY (d : Reg) (a : Reg) (b : RegMem)   -- R266: ymm1, ymm2, ymm3/m256
  | vmulpdX (d : Reg) (a : Reg) (b : RegMem)   -- R265: xmm1, xmm2, xmm3/m128
  | vmulpdY (d : Reg) (a : Reg) (b : RegMem)   -- R265: ymm1, ymm2, ymm3/m256
  | vmulss (d : Reg) (a : Reg) (b : RegMem)   -- R268: xmm1, xmm2, xmm3/m32
  | vmulsd (d : Reg) (a : Reg) (b : RegMem)   -- R267: xmm1, xmm2, xmm3/m64
  | vcvtps2pdX (d : Reg) (b : RegMem)   -- R228: xmm1, xmm2/m64
  | vcvtps2pdY (d : Reg) (b : RegMem)   -- R228: ymm1, xmm2/m128
  | vcvtpd2psX (d : Reg) (b : RegMem)   -- R227: xmm1, xmm2/m128
  | vcvtpd2psY (d : Reg) (b : RegMem)   -- R227: xmm1, ymm2/m256
  | vcvtss2sd (d : Reg) (a : Reg) (b : RegMem)   -- R296: xmm1, xmm2, xmm3/m32
  | vcvtsd2ss (d : Reg) (a : Reg) (b : RegMem)   -- R295: xmm1, xmm2, xmm3/m64
  | vcvtdq2psX (d : Reg) (b : RegMem)   -- R222: xmm1, xmm2/m128
  | vcvtdq2psY (d : Reg) (b : RegMem)   -- R222: ymm1, ymm2/m256
  | vcvtps2dqX (d : Reg) (b : RegMem)   -- R225: xmm1, xmm2/m128
  | vcvtps2dqY (d : Reg) (b : RegMem)   -- R225: ymm1, ymm2/m256
  | vcvttps2dqX (d : Reg) (b : RegMem)   -- R226: xmm1, xmm2/m128
  | vcvttps2dqY (d : Reg) (b : RegMem)   -- R226: ymm1, ymm2/m256
  | vsubpsX (d : Reg) (a : Reg) (b : RegMem)   -- R264: xmm1, xmm2, xmm3/m128
  | vsubpsY (d : Reg) (a : Reg) (b : RegMem)   -- R264: ymm1, ymm2, ymm3/m256
  | vsubpdX (d : Reg) (a : Reg) (b : RegMem)   -- R263: xmm1, xmm2, xmm3/m128
  | vsubpdY (d : Reg) (a : Reg) (b : RegMem)   -- R263: ymm1, ymm2, ymm3/m256
  | vsubss (d : Reg) (a : Reg) (b : RegMem)   -- R324: xmm1, xmm2, xmm3/m32
  | vsubsd (d : Reg) (a : Reg) (b : RegMem)   -- R323: xmm1, xmm2, xmm3/m64
  | vminpsX (d : Reg) (a : Reg) (b : RegMem)   -- R282: xmm1, xmm2, xmm3/m128
  | vminpsY (d : Reg) (a : Reg) (b : RegMem)   -- R282: ymm1, ymm2, ymm3/m256
  | vminpdX (d : Reg) (a : Reg) (b : RegMem)   -- R281: xmm1, xmm2, xmm3/m128
  | vminpdY (d : Reg) (a : Reg) (b : RegMem)   -- R281: ymm1, ymm2, ymm3/m256
  | vminss (d : Reg) (a : Reg) (b : RegMem)   -- R328: xmm1, xmm2, xmm3/m32
  | vminsd (d : Reg) (a : Reg) (b : RegMem)   -- R327: xmm1, xmm2, xmm3/m64
  | vdivpsX (d : Reg) (a : Reg) (b : RegMem)   -- R270: xmm1, xmm2, xmm3/m128
  | vdivpsY (d : Reg) (a : Reg) (b : RegMem)   -- R270: ymm1, ymm2, ymm3/m256
  | vdivpdX (d : Reg) (a : Reg) (b : RegMem)   -- R269: xmm1, xmm2, xmm3/m128
  | vdivpdY (d : Reg) (a : Reg) (b : RegMem)   -- R269: ymm1, ymm2, ymm3/m256
  | vdivss (d : Reg) (a : Reg) (b : RegMem)   -- R272: xmm1, xmm2, xmm3/m32
  | vdivsd (d : Reg) (a : Reg) (b : RegMem)   -- R271: xmm1, xmm2, xmm3/m64
  | vmaxpsX (d : Reg) (a : Reg) (b : RegMem)   -- R280: xmm1, xmm2, xmm3/m128
  | vmaxpsY (d : Reg) (a : Reg) (b : RegMem)   -- R280: ymm1, ymm2, ymm3/m256
  | vmaxpdX (d : Reg) (a : Reg) (b : RegMem)   -- R279: xmm1, xmm2, xmm3/m128
  | vmaxpdY (d : Reg) (a : Reg) (b : RegMem)   -- R279: ymm1, ymm2, ymm3/m256
  | vmaxss (d : Reg) (a : Reg) (b : RegMem)   -- R326: xmm1, xmm2, xmm3/m32
  | vmaxsd (d : Reg) (a : Reg) (b : RegMem)   -- R325: xmm1, xmm2, xmm3/m64
  | vpunpcklbw (d : Reg) (a : Reg) (b : RegMem)   -- R440: xmm1, xmm2, xmm3/m128
  | vpunpcklwd (d : Reg) (a : Reg) (b : RegMem)   -- R441: xmm1, xmm2, xmm3/m128
  | vpunpckldq (d : Reg) (a : Reg) (b : RegMem)   -- R442: xmm1, xmm2, xmm3/m128
  | vpacksswb (d : Reg) (a : Reg) (b : RegMem)   -- R306: xmm1, xmm2, xmm3/m128
  | vpcmpgtb (d : Reg) (a : Reg) (b : RegMem)   -- R375: xmm1, xmm2, xmm3/m128
  | vpcmpgtw (d : Reg) (a : Reg) (b : RegMem)   -- R376: xmm1, xmm2, xmm3/m128
  | vpcmpgtd (d : Reg) (a : Reg) (b : RegMem)   -- R377: xmm1, xmm2, xmm3/m128
  | vpackuswb (d : Reg) (a : Reg) (b : RegMem)   -- R308: xmm1, xmm2, xmm3/m128
  | vpunpckhbw (d : Reg) (a : Reg) (b : RegMem)   -- R444: xmm1, xmm2, xmm3/m128
  | vpunpckhwd (d : Reg) (a : Reg) (b : RegMem)   -- R445: xmm1, xmm2, xmm3/m128
  | vpunpckhdq (d : Reg) (a : Reg) (b : RegMem)   -- R446: xmm1, xmm2, xmm3/m128
  | vpackssdw (d : Reg) (a : Reg) (b : RegMem)   -- R305: xmm1, xmm2, xmm3/m128
  | vpunpcklqdq (d : Reg) (a : Reg) (b : RegMem)   -- R443: xmm1, xmm2, xmm3/m128
  | vpunpckhqdq (d : Reg) (a : Reg) (b : RegMem)   -- R447: xmm1, xmm2, xmm3/m128
  | vmovdqaX (d : Reg) (b : RegMem)   -- R235: xmm1, xmm2/m128
  | vmovdqaY (d : Reg) (b : RegMem)   -- R235: ymm1, ymm2/m256
  | vmovdquX (d : Reg) (b : RegMem)   -- R230: xmm1, xmm2/m128
  | vmovdquY (d : Reg) (b : RegMem)   -- R230: ymm1, ymm2/m256
  | vpshufd (d : Reg) (b : RegMem) (imm : BitVec 8)   -- R424: xmm1, xmm2/m128, imm8
  | vpshufhw (d : Reg) (b : RegMem) (imm : BitVec 8)   -- R425: xmm1, xmm2/m128, imm8
  | vpshuflw (d : Reg) (b : RegMem) (imm : BitVec 8)   -- R426: xmm1, xmm2/m128, imm8
  | vpsrlwImm (d : Reg) (a : Reg) (imm : BitVec 8)   -- R437: xmm1, xmm2, imm8
  | vpsrawImm (d : Reg) (a : Reg) (imm : BitVec 8)   -- R435: xmm1, xmm2, imm8
  | vpsllwImm (d : Reg) (a : Reg) (imm : BitVec 8)   -- R432: xmm1, xmm2, imm8
  | vpsrldImm (d : Reg) (a : Reg) (imm : BitVec 8)   -- R438: xmm1, xmm2, imm8
  | vpsradImm (d : Reg) (a : Reg) (imm : BitVec 8)   -- R436: xmm1, xmm2, imm8
  | vpslldImm (d : Reg) (a : Reg) (imm : BitVec 8)   -- R433: xmm1, xmm2, imm8
  | vpsrlqImm (d : Reg) (a : Reg) (imm : BitVec 8)   -- R439: xmm1, xmm2, imm8
  | vpsrldq (d : Reg) (a : Reg) (imm : BitVec 8)   -- R431: xmm1, xmm2, imm8
  | vpsllqImm (d : Reg) (a : Reg) (imm : BitVec 8)   -- R434: xmm1, xmm2, imm8
  | vpslldq (d : Reg) (a : Reg) (imm : BitVec 8)   -- R430: xmm1, xmm2, imm8
  | vpcmpeqb (d : Reg) (a : Reg) (b : RegMem)   -- R371: xmm1, xmm2, xmm3/m128
  | vpcmpeqw (d : Reg) (a : Reg) (b : RegMem)   -- R372: xmm1, xmm2, xmm3/m128
  | vpcmpeqd (d : Reg) (a : Reg) (b : RegMem)   -- R373: xmm1, xmm2, xmm3/m128
  | vzeroupper   -- R167: no operands
  | vzeroall   -- R166: no operands
  | vhaddpdX (d : Reg) (a : Reg) (b : RegMem)   -- R275: xmm1, xmm2, xmm3/m128
  | vhaddpdY (d : Reg) (a : Reg) (b : RegMem)   -- R275: ymm1, ymm2, ymm3/m256
  | vhaddpsX (d : Reg) (a : Reg) (b : RegMem)   -- R276: xmm1, xmm2, xmm3/m128
  | vhaddpsY (d : Reg) (a : Reg) (b : RegMem)   -- R276: ymm1, ymm2, ymm3/m256
  | vhsubpdX (d : Reg) (a : Reg) (b : RegMem)   -- R277: xmm1, xmm2, xmm3/m128
  | vhsubpdY (d : Reg) (a : Reg) (b : RegMem)   -- R277: ymm1, ymm2, ymm3/m256
  | vhsubpsX (d : Reg) (a : Reg) (b : RegMem)   -- R278: xmm1, xmm2, xmm3/m128
  | vhsubpsY (d : Reg) (a : Reg) (b : RegMem)   -- R278: ymm1, ymm2, ymm3/m256
  | vmovdqaXStore (d : RegMem) (a : Reg)   -- R235: xmm2/m128, xmm1
  | vmovdqaYStore (d : RegMem) (a : Reg)   -- R235: ymm2/m256, ymm1
  | vmovdquXStore (d : RegMem) (a : Reg)   -- R230: xmm2/m128, xmm1
  | vmovdquYStore (d : RegMem) (a : Reg)   -- R230: ymm2/m256, ymm1
  | vldmxcsr (m : MemOp)   -- R168: m32
  | vstmxcsr (m : MemOp)   -- R169: m32
  | vcmppsX (d : Reg) (a : Reg) (b : RegMem) (imm : BitVec 8)   -- R292: xmm1, xmm2, xmm3/m128, imm8
  | vcmppsY (d : Reg) (a : Reg) (b : RegMem) (imm : BitVec 8)   -- R292: ymm1, ymm2, ymm3/m256, imm8
  | vcmppdX (d : Reg) (a : Reg) (b : RegMem) (imm : BitVec 8)   -- R291: xmm1, xmm2, xmm3/m128, imm8
  | vcmppdY (d : Reg) (a : Reg) (b : RegMem) (imm : BitVec 8)   -- R291: ymm1, ymm2, ymm3/m256, imm8
  | vcmpss (d : Reg) (a : Reg) (b : RegMem) (imm : BitVec 8)   -- R294: xmm1, xmm2, xmm3/m32, imm8
  | vcmpsd (d : Reg) (a : Reg) (b : RegMem) (imm : BitVec 8)   -- R293: xmm1, xmm2, xmm3/m64, imm8
  | vpinsrw (d : Reg) (a : Reg) (b : RegMem) (imm : BitVec 8)   -- R380: xmm1, xmm2, r32/m16, imm8
  | vshufpsX (d : Reg) (a : Reg) (b : RegMem) (imm : BitVec 8)   -- R247: xmm1, xmm2, xmm3/m128, imm8
  | vshufpsY (d : Reg) (a : Reg) (b : RegMem) (imm : BitVec 8)   -- R247: ymm1, ymm2, ymm3/m256, imm8
  | vshufpdX (d : Reg) (a : Reg) (b : RegMem) (imm : BitVec 8)   -- R246: xmm1, xmm2, xmm3/m128, imm8
  | vshufpdY (d : Reg) (a : Reg) (b : RegMem) (imm : BitVec 8)   -- R246: ymm1, ymm2, ymm3/m256, imm8
  | vaddsubpdX (d : Reg) (a : Reg) (b : RegMem)   -- R273: xmm1, xmm2, xmm3/m128
  | vaddsubpdY (d : Reg) (a : Reg) (b : RegMem)   -- R273: ymm1, ymm2, ymm3/m256
  | vaddsubpsX (d : Reg) (a : Reg) (b : RegMem)   -- R274: xmm1, xmm2, xmm3/m128
  | vaddsubpsY (d : Reg) (a : Reg) (b : RegMem)   -- R274: ymm1, ymm2, ymm3/m256
  | vpsrlw (d : Reg) (a : Reg) (b : RegMem)   -- R437: xmm1, xmm2, xmm3/m128
  | vpsrld (d : Reg) (a : Reg) (b : RegMem)   -- R438: xmm1, xmm2, xmm3/m128
  | vpsrlq (d : Reg) (a : Reg) (b : RegMem)   -- R439: xmm1, xmm2, xmm3/m128
  | vpaddq (d : Reg) (a : Reg) (b : RegMem)   -- R345: xmm1, xmm2, xmm3/m128
  | vpmullw (d : Reg) (a : Reg) (b : RegMem)   -- R418: xmm1, xmm2, xmm3/m128
  | vpsubusb (d : Reg) (a : Reg) (b : RegMem)   -- R354: xmm1, xmm2, xmm3/m128
  | vpsubusw (d : Reg) (a : Reg) (b : RegMem)   -- R355: xmm1, xmm2, xmm3/m128
  | vpminub (d : Reg) (a : Reg) (b : RegMem)   -- R410: xmm1, xmm2, xmm3/m128
  | vpand (d : Reg) (a : Reg) (b : RegMem)   -- R365: xmm1, xmm2, xmm3/m128
  | vpaddusb (d : Reg) (a : Reg) (b : RegMem)   -- R362: xmm1, xmm2, xmm3/m128
  | vpaddusw (d : Reg) (a : Reg) (b : RegMem)   -- R363: xmm1, xmm2, xmm3/m128
  | vpmaxub (d : Reg) (a : Reg) (b : RegMem)   -- R409: xmm1, xmm2, xmm3/m128
  | vpandn (d : Reg) (a : Reg) (b : RegMem)   -- R368: xmm1, xmm2, xmm3/m128
  | vpavgb (d : Reg) (a : Reg) (b : RegMem)   -- R369: xmm1, xmm2, xmm3/m128
  | vpsraw (d : Reg) (a : Reg) (b : RegMem)   -- R435: xmm1, xmm2, xmm3/m128
  | vpsrad (d : Reg) (a : Reg) (b : RegMem)   -- R436: xmm1, xmm2, xmm3/m128
  | vpavgw (d : Reg) (a : Reg) (b : RegMem)   -- R370: xmm1, xmm2, xmm3/m128
  | vpmulhuw (d : Reg) (a : Reg) (b : RegMem)   -- R415: xmm1, xmm2, xmm3/m128
  | vpmulhw (d : Reg) (a : Reg) (b : RegMem)   -- R416: xmm1, xmm2, xmm3/m128
  | vcvttpd2dqX (d : Reg) (b : RegMem)   -- R224: xmm1, xmm2/m128
  | vcvttpd2dqY (d : Reg) (b : RegMem)   -- R224: xmm1, ymm2/m256
  | vcvtdq2pdX (d : Reg) (b : RegMem)   -- R221: xmm1, xmm2/m64
  | vcvtdq2pdY (d : Reg) (b : RegMem)   -- R221: ymm1, xmm2/m128
  | vcvtpd2dqX (d : Reg) (b : RegMem)   -- R223: xmm1, xmm2/m128
  | vcvtpd2dqY (d : Reg) (b : RegMem)   -- R223: xmm1, ymm2/m256
  | vpsubsb (d : Reg) (a : Reg) (b : RegMem)   -- R352: xmm1, xmm2, xmm3/m128
  | vpsubsw (d : Reg) (a : Reg) (b : RegMem)   -- R353: xmm1, xmm2, xmm3/m128
  | vpminsw (d : Reg) (a : Reg) (b : RegMem)   -- R406: xmm1, xmm2, xmm3/m128
  | vpor (d : Reg) (a : Reg) (b : RegMem)   -- R366: xmm1, xmm2, xmm3/m128
  | vpaddsb (d : Reg) (a : Reg) (b : RegMem)   -- R350: xmm1, xmm2, xmm3/m128
  | vpaddsw (d : Reg) (a : Reg) (b : RegMem)   -- R351: xmm1, xmm2, xmm3/m128
  | vpmaxsw (d : Reg) (a : Reg) (b : RegMem)   -- R405: xmm1, xmm2, xmm3/m128
  | vpxor (d : Reg) (a : Reg) (b : RegMem)   -- R367: xmm1, xmm2, xmm3/m128
  | vlddquX (d : Reg) (b : MemOp)   -- R229: xmm1, m128
  | vlddquY (d : Reg) (b : MemOp)   -- R229: ymm1, m256
  | vpsllw (d : Reg) (a : Reg) (b : RegMem)   -- R432: xmm1, xmm2, xmm3/m128
  | vpslld (d : Reg) (a : Reg) (b : RegMem)   -- R433: xmm1, xmm2, xmm3/m128
  | vpsllq (d : Reg) (a : Reg) (b : RegMem)   -- R434: xmm1, xmm2, xmm3/m128
  | vpmuludq (d : Reg) (a : Reg) (b : RegMem)   -- R421: xmm1, xmm2, xmm3/m128
  | vpmaddwd (d : Reg) (a : Reg) (b : RegMem)   -- R401: xmm1, xmm2, xmm3/m128
  | vpsadbw (d : Reg) (a : Reg) (b : RegMem)   -- R422: xmm1, xmm2, xmm3/m128
  | vpsubb (d : Reg) (a : Reg) (b : RegMem)   -- R346: xmm1, xmm2, xmm3/m128
  | vpsubw (d : Reg) (a : Reg) (b : RegMem)   -- R347: xmm1, xmm2, xmm3/m128
  | vpsubd (d : Reg) (a : Reg) (b : RegMem)   -- R348: xmm1, xmm2, xmm3/m128
  | vpsubq (d : Reg) (a : Reg) (b : RegMem)   -- R349: xmm1, xmm2, xmm3/m128
  | vpaddb (d : Reg) (a : Reg) (b : RegMem)   -- R342: xmm1, xmm2, xmm3/m128
  | vpaddw (d : Reg) (a : Reg) (b : RegMem)   -- R343: xmm1, xmm2, xmm3/m128
  | vpaddd (d : Reg) (a : Reg) (b : RegMem)   -- R344: xmm1, xmm2, xmm3/m128
  | vpshufb (d : Reg) (a : Reg) (b : RegMem)   -- R423: xmm1, xmm2, xmm3/m128
  | vphaddw (d : Reg) (a : Reg) (b : RegMem)   -- R356: xmm1, xmm2, xmm3/m128
  | vphaddd (d : Reg) (a : Reg) (b : RegMem)   -- R357: xmm1, xmm2, xmm3/m128
  | vphaddsw (d : Reg) (a : Reg) (b : RegMem)   -- R360: xmm1, xmm2, xmm3/m128
  | vpmaddubsw (d : Reg) (a : Reg) (b : RegMem)   -- R402: xmm1, xmm2, xmm3/m128
  | vphsubw (d : Reg) (a : Reg) (b : RegMem)   -- R358: xmm1, xmm2, xmm3/m128
  | vphsubd (d : Reg) (a : Reg) (b : RegMem)   -- R359: xmm1, xmm2, xmm3/m128
  | vphsubsw (d : Reg) (a : Reg) (b : RegMem)   -- R361: xmm1, xmm2, xmm3/m128
  | vpsignb (d : Reg) (a : Reg) (b : RegMem)   -- R427: xmm1, xmm2, xmm3/m128
  | vpsignw (d : Reg) (a : Reg) (b : RegMem)   -- R428: xmm1, xmm2, xmm3/m128
  | vpsignd (d : Reg) (a : Reg) (b : RegMem)   -- R429: xmm1, xmm2, xmm3/m128
  | vpmulhrsw (d : Reg) (a : Reg) (b : RegMem)   -- R417: xmm1, xmm2, xmm3/m128
  | vpermilpsX (d : Reg) (a : Reg) (b : RegMem)   -- R159: xmm1, xmm2, xmm3/m128
  | vpermilpsY (d : Reg) (a : Reg) (b : RegMem)   -- R159: ymm1, ymm2, ymm3/m256
  | vpermilpdX (d : Reg) (a : Reg) (b : RegMem)   -- R158: xmm1, xmm2, xmm3/m128
  | vpermilpdY (d : Reg) (a : Reg) (b : RegMem)   -- R158: ymm1, ymm2, ymm3/m256
  | vtestpsX (a : Reg) (b : RegMem)   -- R164: xmm1, xmm2/m128
  | vtestpsY (a : Reg) (b : RegMem)   -- R164: ymm1, ymm2/m256
  | vtestpdX (a : Reg) (b : RegMem)   -- R165: xmm1, xmm2/m128
  | vtestpdY (a : Reg) (b : RegMem)   -- R165: ymm1, ymm2/m256
  | vptestX (a : Reg) (b : RegMem)   -- R241: xmm1, xmm2/m128
  | vptestY (a : Reg) (b : RegMem)   -- R241: ymm1, ymm2/m256
  | vbroadcastssX (d : Reg) (b : MemOp)   -- R151: xmm1, m32
  | vbroadcastssY (d : Reg) (b : MemOp)   -- R151: ymm1, m32
  | vbroadcastsd (d : Reg) (b : MemOp)   -- R152: ymm1, m64
  | vbroadcastf128 (d : Reg) (b : MemOp)   -- R153: ymm1, m128
  | vpmuldq (d : Reg) (a : Reg) (b : RegMem)   -- R420: xmm1, xmm2, xmm3/m128
  | vpcmpeqq (d : Reg) (a : Reg) (b : RegMem)   -- R374: xmm1, xmm2, xmm3/m128
  | vpackusdw (d : Reg) (a : Reg) (b : RegMem)   -- R307: xmm1, xmm2, xmm3/m128
  | vmaskmovpsXLoad (d : Reg) (a : Reg) (b : MemOp)   -- R156: xmm1, xmm2, m128
  | vmaskmovpsYLoad (d : Reg) (a : Reg) (b : MemOp)   -- R156: ymm1, ymm2, m256
  | vmaskmovpdXLoad (d : Reg) (a : Reg) (b : MemOp)   -- R157: xmm1, xmm2, m128
  | vmaskmovpdYLoad (d : Reg) (a : Reg) (b : MemOp)   -- R157: ymm1, ymm2, m256
  | vmaskmovpsXStore (d : MemOp) (a : Reg) (b : Reg)   -- R156: m128, xmm1, xmm2
  | vmaskmovpsYStore (d : MemOp) (a : Reg) (b : Reg)   -- R156: m256, ymm1, ymm2
  | vmaskmovpdXStore (d : MemOp) (a : Reg) (b : Reg)   -- R157: m128, xmm1, xmm2
  | vmaskmovpdYStore (d : MemOp) (a : Reg) (b : Reg)   -- R157: m256, ymm1, ymm2
  | vpcmpgtq (d : Reg) (a : Reg) (b : RegMem)   -- R378: xmm1, xmm2, xmm3/m128
  | vpminsb (d : Reg) (a : Reg) (b : RegMem)   -- R404: xmm1, xmm2, xmm3/m128
  | vpminsd (d : Reg) (a : Reg) (b : RegMem)   -- R408: xmm1, xmm2, xmm3/m128
  | vpminuw (d : Reg) (a : Reg) (b : RegMem)   -- R412: xmm1, xmm2, xmm3/m128
  | vpminud (d : Reg) (a : Reg) (b : RegMem)   -- R414: xmm1, xmm2, xmm3/m128
  | vpmaxsb (d : Reg) (a : Reg) (b : RegMem)   -- R403: xmm1, xmm2, xmm3/m128
  | vpmaxsd (d : Reg) (a : Reg) (b : RegMem)   -- R407: xmm1, xmm2, xmm3/m128
  | vpmaxuw (d : Reg) (a : Reg) (b : RegMem)   -- R411: xmm1, xmm2, xmm3/m128
  | vpmaxud (d : Reg) (a : Reg) (b : RegMem)   -- R413: xmm1, xmm2, xmm3/m128
  | vpmulld (d : Reg) (a : Reg) (b : RegMem)   -- R419: xmm1, xmm2, xmm3/m128
  | aesimc (d : Reg) (b : RegMem)   -- R215: xmm1, xmm2/m128
  | vaesimc (d : Reg) (b : RegMem)   -- R215: xmm1, xmm2/m128
  | aesenc (d : Reg) (b : RegMem)   -- R213: xmm1, xmm2/m128
  | vaesenc (d : Reg) (a : Reg) (b : RegMem)   -- R213: xmm1, xmm2, xmm3/m128
  | aesenclast (d : Reg) (b : RegMem)   -- R214: xmm1, xmm2/m128
  | vaesenclast (d : Reg) (a : Reg) (b : RegMem)   -- R214: xmm1, xmm2, xmm3/m128
  | aesdec (d : Reg) (b : RegMem)   -- R211: xmm1, xmm2/m128
  | vaesdec (d : Reg) (a : Reg) (b : RegMem)   -- R211: xmm1, xmm2, xmm3/m128
  | aesdeclast (d : Reg) (b : RegMem)   -- R212: xmm1, xmm2/m128
  | vaesdeclast (d : Reg) (a : Reg) (b : RegMem)   -- R212: xmm1, xmm2, xmm3/m128
  | vpermilpsXImm (d : Reg) (b : RegMem) (imm : BitVec 8)   -- R159: xmm1, xmm2/m128, imm8
  | vpermilpsYImm (d : Reg) (b : RegMem) (imm : BitVec 8)   -- R159: ymm1, ymm2/m256, imm8
  | vpermilpdXImm (d : Reg) (b : RegMem) (imm : BitVec 8)   -- R158: xmm1, xmm2/m128, imm8
  | vpermilpdYImm (d : Reg) (b : RegMem) (imm : BitVec 8)   -- R158: ymm1, ymm2/m256, imm8
  | vperm2f128 (d : Reg) (a : Reg) (b : RegMem) (imm : BitVec 8)   -- R162: ymm1, ymm2, ymm3/m256, imm8
  | vroundpsX (d : Reg) (b : RegMem) (imm : BitVec 8)   -- R245: xmm1, xmm2/m128, imm8
  | vroundpsY (d : Reg) (b : RegMem) (imm : BitVec 8)   -- R245: ymm1, ymm2/m256, imm8
  | vroundpdX (d : Reg) (b : RegMem) (imm : BitVec 8)   -- R244: xmm1, xmm2/m128, imm8
  | vroundpdY (d : Reg) (b : RegMem) (imm : BitVec 8)   -- R244: ymm1, ymm2/m256, imm8
  | vroundss (d : Reg) (a : Reg) (b : RegMem) (imm : BitVec 8)   -- R302: xmm1, xmm2, xmm3/m32, imm8
  | vroundsd (d : Reg) (a : Reg) (b : RegMem) (imm : BitVec 8)   -- R301: xmm1, xmm2, xmm3/m64, imm8
  | vblendpsX (d : Reg) (a : Reg) (b : RegMem) (imm : BitVec 8)   -- R462: xmm1, xmm2, xmm3/m128, imm8
  | vblendpsY (d : Reg) (a : Reg) (b : RegMem) (imm : BitVec 8)   -- R462: ymm1, ymm2, ymm3/m256, imm8
  | vblendpdX (d : Reg) (a : Reg) (b : RegMem) (imm : BitVec 8)   -- R461: xmm1, xmm2, xmm3/m128, imm8
  | vblendpdY (d : Reg) (a : Reg) (b : RegMem) (imm : BitVec 8)   -- R461: ymm1, ymm2, ymm3/m256, imm8
  | vpblendw (d : Reg) (a : Reg) (b : RegMem) (imm : BitVec 8)   -- R467: xmm1, xmm2, xmm3/m128, imm8
  | vpalignr (d : Reg) (a : Reg) (b : RegMem) (imm : BitVec 8)   -- R364: xmm1, xmm2, xmm3/m128, imm8
  | vinsertf128 (d : Reg) (a : Reg) (b : RegMem) (imm : BitVec 8)   -- R155: ymm1, ymm2, xmm3/m128, imm8
  | vextractf128 (d : RegMem) (a : Reg) (imm : BitVec 8)   -- R154: xmm1/m128, ymm2, imm8
  | vpinsrb (d : Reg) (a : Reg) (b : RegMem) (imm : BitVec 8)   -- R379: xmm1, xmm2, r32/m8, imm8
  | vinsertps (d : Reg) (a : Reg) (b : RegMem) (imm : BitVec 8)   -- R469: xmm1, xmm2, xmm3/m32, imm8
  | vpinsrd (d : Reg) (a : Reg) (b : RegMem) (imm : BitVec 8)   -- R381: xmm1, xmm2, r32/m32, imm8
  | vpinsrq (d : Reg) (a : Reg) (b : RegMem) (imm : BitVec 8)   -- R382: xmm1, xmm2, r64/m64, imm8
  | vdppsX (d : Reg) (a : Reg) (b : RegMem) (imm : BitVec 8)   -- R465: xmm1, xmm2, xmm3/m128, imm8
  | vdppsY (d : Reg) (a : Reg) (b : RegMem) (imm : BitVec 8)   -- R465: ymm1, ymm2, ymm3/m256, imm8
  | vdppd (d : Reg) (a : Reg) (b : RegMem) (imm : BitVec 8)   -- R468: xmm1, xmm2, xmm3/m128, imm8
  | vmpsadbw (d : Reg) (a : Reg) (b : RegMem) (imm : BitVec 8)   -- R341: xmm1, xmm2, xmm3/m128, imm8
  | pclmulqdq (d : Reg) (b : RegMem) (imm : BitVec 8)   -- R163: xmm1, xmm2/m128, imm8
  | vpclmulqdq (d : Reg) (a : Reg) (b : RegMem) (imm : BitVec 8)   -- R163: xmm1, xmm2, xmm3/m128, imm8
  | vpermil2psX (d : Reg) (a : Reg) (b : RegMem) (c : Reg) (imm : BitVec 2)   -- R161: xmm1, xmm2, xmm3/m128, xmm4, imm2
  | vpermil2psXW1 (d : Reg) (a : Reg) (c : Reg) (b : RegMem) (imm : BitVec 2)   -- R161: xmm1, xmm2, xmm3, xmm4/m128, imm2
  | vpermil2psY (d : Reg) (a : Reg) (b : RegMem) (c : Reg) (imm : BitVec 2)   -- R161: ymm1, ymm2, ymm3/m256, ymm4, imm2
  | vpermil2psYW1 (d : Reg) (a : Reg) (c : Reg) (b : RegMem) (imm : BitVec 2)   -- R161: ymm1, ymm2, ymm3, ymm4/m256, imm2
  | vpermil2pdX (d : Reg) (a : Reg) (b : RegMem) (c : Reg) (imm : BitVec 2)   -- R160: xmm1, xmm2, xmm3/m128, xmm4, imm2
  | vpermil2pdXW1 (d : Reg) (a : Reg) (c : Reg) (b : RegMem) (imm : BitVec 2)   -- R160: xmm1, xmm2, xmm3, xmm4/m128, imm2
  | vpermil2pdY (d : Reg) (a : Reg) (b : RegMem) (c : Reg) (imm : BitVec 2)   -- R160: ymm1, ymm2, ymm3/m256, ymm4, imm2
  | vpermil2pdYW1 (d : Reg) (a : Reg) (c : Reg) (b : RegMem) (imm : BitVec 2)   -- R160: ymm1, ymm2, ymm3, ymm4/m256, imm2
  | vblendvpsX (d : Reg) (a : Reg) (b : RegMem) (c : Reg)   -- R464: xmm1, xmm2, xmm3/m128, xmm4
  | vblendvpsY (d : Reg) (a : Reg) (b : RegMem) (c : Reg)   -- R464: ymm1, ymm2, ymm3/m256, ymm4
  | vblendvpdX (d : Reg) (a : Reg) (b : RegMem) (c : Reg)   -- R463: xmm1, xmm2, xmm3/m128, xmm4
  | vblendvpdY (d : Reg) (a : Reg) (b : RegMem) (c : Reg)   -- R463: ymm1, ymm2, ymm3/m256, ymm4
  | vpblendvb (d : Reg) (a : Reg) (b : RegMem) (c : Reg)   -- R466: xmm1, xmm2, xmm3/m128, xmm4
  | vfmaddsubpsX (d : Reg) (a : Reg) (b : RegMem) (c : Reg)   -- R198: xmm1, xmm2, xmm3/m128, xmm4
  | vfmaddsubpsXW1 (d : Reg) (a : Reg) (c : Reg) (b : RegMem)   -- R198: xmm1, xmm2, xmm3, xmm4/m128
  | vfmaddsubpsY (d : Reg) (a : Reg) (b : RegMem) (c : Reg)   -- R198: ymm1, ymm2, ymm3/m256, ymm4
  | vfmaddsubpsYW1 (d : Reg) (a : Reg) (c : Reg) (b : RegMem)   -- R198: ymm1, ymm2, ymm3, ymm4/m256
  | vfmaddsubpdX (d : Reg) (a : Reg) (b : RegMem) (c : Reg)   -- R197: xmm1, xmm2, xmm3/m128, xmm4
  | vfmaddsubpdXW1 (d : Reg) (a : Reg) (c : Reg) (b : RegMem)   -- R197: xmm1, xmm2, xmm3, xmm4/m128
  | vfmaddsubpdY (d : Reg) (a : Reg) (b : RegMem) (c : Reg)   -- R197: ymm1, ymm2, ymm3/m256, ymm4
  | vfmaddsubpdYW1 (d : Reg) (a : Reg) (c : Reg) (b : RegMem)   -- R197: ymm1, ymm2, ymm3, ymm4/m256
  | vfmsubaddpsX (d : Reg) (a : Reg) (b : RegMem) (c : Reg)   -- R200: xmm1, xmm2, xmm3/m128, xmm4
  | vfmsubaddpsXW1 (d : Reg) (a : Reg) (c : Reg) (b : RegMem)   -- R200: xmm1, xmm2, xmm3, xmm4/m128
  | vfmsubaddpsY (d : Reg) (a : Reg) (b : RegMem) (c : Reg)   -- R200: ymm1, ymm2, ymm3/m256, ymm4
  | vfmsubaddpsYW1 (d : Reg) (a : Reg) (c : Reg) (b : RegMem)   -- R200: ymm1, ymm2, ymm3, ymm4/m256
  | vfmsubaddpdX (d : Reg) (a : Reg) (b : RegMem) (c : Reg)   -- R199: xmm1, xmm2, xmm3/m128, xmm4
  | vfmsubaddpdXW1 (d : Reg) (a : Reg) (c : Reg) (b : RegMem)   -- R199: xmm1, xmm2, xmm3, xmm4/m128
  | vfmsubaddpdY (d : Reg) (a : Reg) (b : RegMem) (c : Reg)   -- R199: ymm1, ymm2, ymm3/m256, ymm4
  | vfmsubaddpdYW1 (d : Reg) (a : Reg) (c : Reg) (b : RegMem)   -- R199: ymm1, ymm2, ymm3, ymm4/m256
  | vfmaddpsX (d : Reg) (a : Reg) (b : RegMem) (c : Reg)   -- R182: xmm1, xmm2, xmm3/m128, xmm4
  | vfmaddpsXW1 (d : Reg) (a : Reg) (c : Reg) (b : RegMem)   -- R182: xmm1, xmm2, xmm3, xmm4/m128
  | vfmaddpsY (d : Reg) (a : Reg) (b : RegMem) (c : Reg)   -- R182: ymm1, ymm2, ymm3/m256, ymm4
  | vfmaddpsYW1 (d : Reg) (a : Reg) (c : Reg) (b : RegMem)   -- R182: ymm1, ymm2, ymm3, ymm4/m256
  | vfmaddpdX (d : Reg) (a : Reg) (b : RegMem) (c : Reg)   -- R181: xmm1, xmm2, xmm3/m128, xmm4
  | vfmaddpdXW1 (d : Reg) (a : Reg) (c : Reg) (b : RegMem)   -- R181: xmm1, xmm2, xmm3, xmm4/m128
  | vfmaddpdY (d : Reg) (a : Reg) (b : RegMem) (c : Reg)   -- R181: ymm1, ymm2, ymm3/m256, ymm4
  | vfmaddpdYW1 (d : Reg) (a : Reg) (c : Reg) (b : RegMem)   -- R181: ymm1, ymm2, ymm3, ymm4/m256
  | vfmaddss (d : Reg) (a : Reg) (b : RegMem) (c : Reg)   -- R184: xmm1, xmm2, xmm3/m32, xmm4
  | vfmaddssW1 (d : Reg) (a : Reg) (c : Reg) (b : RegMem)   -- R184: xmm1, xmm2, xmm3, xmm4/m32
  | vfmaddsd (d : Reg) (a : Reg) (b : RegMem) (c : Reg)   -- R183: xmm1, xmm2, xmm3/m64, xmm4
  | vfmaddsdW1 (d : Reg) (a : Reg) (c : Reg) (b : RegMem)   -- R183: xmm1, xmm2, xmm3, xmm4/m64
  | vfmsubpsX (d : Reg) (a : Reg) (b : RegMem) (c : Reg)   -- R186: xmm1, xmm2, xmm3/m128, xmm4
  | vfmsubpsXW1 (d : Reg) (a : Reg) (c : Reg) (b : RegMem)   -- R186: xmm1, xmm2, xmm3, xmm4/m128
  | vfmsubpsY (d : Reg) (a : Reg) (b : RegMem) (c : Reg)   -- R186: ymm1, ymm2, ymm3/m256, ymm4
  | vfmsubpsYW1 (d : Reg) (a : Reg) (c : Reg) (b : RegMem)   -- R186: ymm1, ymm2, ymm3, ymm4/m256
  | vfmsubpdX (d : Reg) (a : Reg) (b : RegMem) (c : Reg)   -- R185: xmm1, xmm2, xmm3/m128, xmm4
  | vfmsubpdXW1 (d : Reg) (a : Reg) (c : Reg) (b : RegMem)   -- R185: xmm1, xmm2, xmm3, xmm4/m128
  | vfmsubpdY (d : Reg) (a : Reg) (b : RegMem) (c : Reg)   -- R185: ymm1, ymm2, ymm3/m256, ymm4
  | vfmsubpdYW1 (d : Reg) (a : Reg) (c : Reg) (b : RegMem)   -- R185: ymm1, ymm2, ymm3, ymm4/m256
  | vfmsubss (d : Reg) (a : Reg) (b : RegMem) (c : Reg)   -- R188: xmm1, xmm2, xmm3/m32, xmm4
  | vfmsubssW1 (d : Reg) (a : Reg) (c : Reg) (b : RegMem)   -- R188: xmm1, xmm2, xmm3, xmm4/m32
  | vfmsubsd (d : Reg) (a : Reg) (b : RegMem) (c : Reg)   -- R187: xmm1, xmm2, xmm3/m64, xmm4
  | vfmsubsdW1 (d : Reg) (a : Reg) (c : Reg) (b : RegMem)   -- R187: xmm1, xmm2, xmm3, xmm4/m64
  | vfnmaddpsX (d : Reg) (a : Reg) (b : RegMem) (c : Reg)   -- R190: xmm1, xmm2, xmm3/m128, xmm4
  | vfnmaddpsXW1 (d : Reg) (a : Reg) (c : Reg) (b : RegMem)   -- R190: xmm1, xmm2, xmm3, xmm4/m128
  | vfnmaddpsY (d : Reg) (a : Reg) (b : RegMem) (c : Reg)   -- R190: ymm1, ymm2, ymm3/m256, ymm4
  | vfnmaddpsYW1 (d : Reg) (a : Reg) (c : Reg) (b : RegMem)   -- R190: ymm1, ymm2, ymm3, ymm4/m256
  | vfnmaddpdX (d : Reg) (a : Reg) (b : RegMem) (c : Reg)   -- R189: xmm1, xmm2, xmm3/m128, xmm4
  | vfnmaddpdXW1 (d : Reg) (a : Reg) (c : Reg) (b : RegMem)   -- R189: xmm1, xmm2, xmm3, xmm4/m128
  | vfnmaddpdY (d : Reg) (a : Reg) (b : RegMem) (c : Reg)   -- R189: ymm1, ymm2, ymm3/m256, ymm4
  | vfnmaddpdYW1 (d : Reg) (a : Reg) (c : Reg) (b : RegMem)   -- R189: ymm1, ymm2, ymm3, ymm4/m256
  | vfnmaddss (d : Reg) (a : Reg) (b : RegMem) (c : Reg)   -- R192: xmm1, xmm2, xmm3/m32, xmm4
  | vfnmaddssW1 (d : Reg) (a : Reg) (c : Reg) (b : RegMem)   -- R192: xmm1, xmm2, xmm3, xmm4/m32
  | vfnmaddsd (d : Reg) (a : Reg) (b : RegMem) (c : Reg)   -- R191: xmm1, xmm2, xmm3/m64, xmm4
  | vfnmaddsdW1 (d : Reg) (a : Reg) (c : Reg) (b : RegMem)   -- R191: xmm1, xmm2, xmm3, xmm4/m64
  | vfnmsubpsX (d : Reg) (a : Reg) (b : RegMem) (c : Reg)   -- R194: xmm1, xmm2, xmm3/m128, xmm4
  | vfnmsubpsXW1 (d : Reg) (a : Reg) (c : Reg) (b : RegMem)   -- R194: xmm1, xmm2, xmm3, xmm4/m128
  | vfnmsubpsY (d : Reg) (a : Reg) (b : RegMem) (c : Reg)   -- R194: ymm1, ymm2, ymm3/m256, ymm4
  | vfnmsubpsYW1 (d : Reg) (a : Reg) (c : Reg) (b : RegMem)   -- R194: ymm1, ymm2, ymm3, ymm4/m256
  | vfnmsubpdX (d : Reg) (a : Reg) (b : RegMem) (c : Reg)   -- R193: xmm1, xmm2, xmm3/m128, xmm4
  | vfnmsubpdXW1 (d : Reg) (a : Reg) (c : Reg) (b : RegMem)   -- R193: xmm1, xmm2, xmm3, xmm4/m128
  | vfnmsubpdY (d : Reg) (a : Reg) (b : RegMem) (c : Reg)   -- R193: ymm1, ymm2, ymm3/m256, ymm4
  | vfnmsubpdYW1 (d : Reg) (a : Reg) (c : Reg) (b : RegMem)   -- R193: ymm1, ymm2, ymm3, ymm4/m256
  | vfnmsubss (d : Reg) (a : Reg) (b : RegMem) (c : Reg)   -- R196: xmm1, xmm2, xmm3/m32, xmm4
  | vfnmsubssW1 (d : Reg) (a : Reg) (c : Reg) (b : RegMem)   -- R196: xmm1, xmm2, xmm3, xmm4/m32
  | vfnmsubsd (d : Reg) (a : Reg) (b : RegMem) (c : Reg)   -- R195: xmm1, xmm2, xmm3/m64, xmm4
  | vfnmsubsdW1 (d : Reg) (a : Reg) (c : Reg) (b : RegMem)   -- R195: xmm1, xmm2, xmm3, xmm4/m64
  | aeskeygenassist (d : Reg) (b : RegMem) (imm : BitVec 8)   -- R216: xmm1, xmm2/m128, imm8
  | vaeskeygenassist (d : Reg) (b : RegMem) (imm : BitVec 8)   -- R216: xmm1, xmm2/m128, imm8
  deriving DecidableEq, Repr

/-- The operands of an instruction by the field that carries each (30_encoding.md R119); a field an instruction does not
use holds 0. -/
structure Operands where
  /-- ModRM.reg with R. -/
  reg : Reg := 0
  /-- VEX.vvvv. -/
  v : Reg := 0
  /-- ModRM.rm. -/
  rm : RegMem := .reg 0
  /-- Bits 7:4 of a trailing `is4` byte. -/
  is4 : Reg := 0
  /-- The immediate byte; for the `is4` forms only its bits 1:0, the fifth operand. -/
  imm : BitVec 8 := 0
  /-- The form names a 64-bit general register (10_state.md R50, 49_conversions.md R475). -/
  wide : Bool := false
  deriving DecidableEq, Repr

/-- The register of an operand that can only be a register. -/
def RegMem.theReg : RegMem → Reg
  | .reg r => r
  | .mem _ => 0

/-- The memory operand of an operand that can only be memory. -/
def RegMem.theMem : RegMem → MemOp
  | .reg _ => .abs 0
  | .mem m => m

/-- The operands of each instruction by field. -/
def Instr.operands : Instr → Operands
  | .vmovupsX d b => { reg := d, rm := b }
  | .vmovupsY d b => { reg := d, rm := b }
  | .vmovupdX d b => { reg := d, rm := b }
  | .vmovupdY d b => { reg := d, rm := b }
  | .vmovssReg d a b => { reg := d, v := a, rm := .reg b }
  | .vmovssLoad d b => { reg := d, rm := .mem b }
  | .vmovsdReg d a b => { reg := d, v := a, rm := .reg b }
  | .vmovsdLoad d b => { reg := d, rm := .mem b }
  | .vmovupsXStore d a => { rm := d, reg := a }
  | .vmovupsYStore d a => { rm := d, reg := a }
  | .vmovupdXStore d a => { rm := d, reg := a }
  | .vmovupdYStore d a => { rm := d, reg := a }
  | .vmovssStore d a => { rm := .mem d, reg := a }
  | .vmovssReg2 d a b => { rm := .reg d, v := a, reg := b }
  | .vmovsdStore d a => { rm := .mem d, reg := a }
  | .vmovsdReg2 d a b => { rm := .reg d, v := a, reg := b }
  | .vmovhlps d a b => { reg := d, v := a, rm := .reg b }
  | .vmovlpsLoad d a b => { reg := d, v := a, rm := .mem b }
  | .vmovlpdLoad d a b => { reg := d, v := a, rm := .mem b }
  | .vmovsldupX d b => { reg := d, rm := b }
  | .vmovsldupY d b => { reg := d, rm := b }
  | .vmovddupX d b => { reg := d, rm := b }
  | .vmovddupY d b => { reg := d, rm := b }
  | .vmovlpsStore d a => { rm := .mem d, reg := a }
  | .vmovlpdStore d a => { rm := .mem d, reg := a }
  | .vunpcklpsX d a b => { reg := d, v := a, rm := b }
  | .vunpcklpsY d a b => { reg := d, v := a, rm := b }
  | .vunpcklpdX d a b => { reg := d, v := a, rm := b }
  | .vunpcklpdY d a b => { reg := d, v := a, rm := b }
  | .vunpckhpsX d a b => { reg := d, v := a, rm := b }
  | .vunpckhpsY d a b => { reg := d, v := a, rm := b }
  | .vunpckhpdX d a b => { reg := d, v := a, rm := b }
  | .vunpckhpdY d a b => { reg := d, v := a, rm := b }
  | .vmovlhps d a b => { reg := d, v := a, rm := .reg b }
  | .vmovhpsLoad d a b => { reg := d, v := a, rm := .mem b }
  | .vmovhpdLoad d a b => { reg := d, v := a, rm := .mem b }
  | .vmovshdupX d b => { reg := d, rm := b }
  | .vmovshdupY d b => { reg := d, rm := b }
  | .vmovhpsStore d a => { rm := .mem d, reg := a }
  | .vmovhpdStore d a => { rm := .mem d, reg := a }
  | .vmovapsX d b => { reg := d, rm := b }
  | .vmovapsY d b => { reg := d, rm := b }
  | .vmovapdX d b => { reg := d, rm := b }
  | .vmovapdY d b => { reg := d, rm := b }
  | .vmovapsXStore d a => { rm := d, reg := a }
  | .vmovapsYStore d a => { rm := d, reg := a }
  | .vmovapdXStore d a => { rm := d, reg := a }
  | .vmovapdYStore d a => { rm := d, reg := a }
  | .vcvtsi2ssR32 d a b => { reg := d, v := a, rm := b }
  | .vcvtsi2ssR64 d a b => { reg := d, v := a, rm := b, wide := true }
  | .vcvtsi2sdR32 d a b => { reg := d, v := a, rm := b }
  | .vcvtsi2sdR64 d a b => { reg := d, v := a, rm := b, wide := true }
  | .vcvttss2siR32 d b => { reg := d, rm := b }
  | .vcvttss2siR64 d b => { reg := d, rm := b, wide := true }
  | .vcvttsd2siR32 d b => { reg := d, rm := b }
  | .vcvttsd2siR64 d b => { reg := d, rm := b, wide := true }
  | .vcvtss2siR32 d b => { reg := d, rm := b }
  | .vcvtss2siR64 d b => { reg := d, rm := b, wide := true }
  | .vcvtsd2siR32 d b => { reg := d, rm := b }
  | .vcvtsd2siR64 d b => { reg := d, rm := b, wide := true }
  | .vmovmskpsX d b => { reg := d, rm := .reg b }
  | .vmovmskpsY d b => { reg := d, rm := .reg b }
  | .vmovmskpdX d b => { reg := d, rm := .reg b }
  | .vmovmskpdY d b => { reg := d, rm := .reg b }
  | .vsqrtpsX d b => { reg := d, rm := b }
  | .vsqrtpsY d b => { reg := d, rm := b }
  | .vsqrtpdX d b => { reg := d, rm := b }
  | .vsqrtpdY d b => { reg := d, rm := b }
  | .vsqrtss d a b => { reg := d, v := a, rm := b }
  | .vsqrtsd d a b => { reg := d, v := a, rm := b }
  | .vrsqrtpsX d b => { reg := d, rm := b }
  | .vrsqrtpsY d b => { reg := d, rm := b }
  | .vrsqrtss d a b => { reg := d, v := a, rm := b }
  | .vrcppsX d b => { reg := d, rm := b }
  | .vrcppsY d b => { reg := d, rm := b }
  | .vrcpss d a b => { reg := d, v := a, rm := b }
  | .vandpsX d a b => { reg := d, v := a, rm := b }
  | .vandpsY d a b => { reg := d, v := a, rm := b }
  | .vandpdX d a b => { reg := d, v := a, rm := b }
  | .vandpdY d a b => { reg := d, v := a, rm := b }
  | .vandnpsX d a b => { reg := d, v := a, rm := b }
  | .vandnpsY d a b => { reg := d, v := a, rm := b }
  | .vandnpdX d a b => { reg := d, v := a, rm := b }
  | .vandnpdY d a b => { reg := d, v := a, rm := b }
  | .vorpsX d a b => { reg := d, v := a, rm := b }
  | .vorpsY d a b => { reg := d, v := a, rm := b }
  | .vorpdX d a b => { reg := d, v := a, rm := b }
  | .vorpdY d a b => { reg := d, v := a, rm := b }
  | .vxorpsX d a b => { reg := d, v := a, rm := b }
  | .vxorpsY d a b => { reg := d, v := a, rm := b }
  | .vxorpdX d a b => { reg := d, v := a, rm := b }
  | .vxorpdY d a b => { reg := d, v := a, rm := b }
  | .vaddpsX d a b => { reg := d, v := a, rm := b }
  | .vaddpsY d a b => { reg := d, v := a, rm := b }
  | .vaddpdX d a b => { reg := d, v := a, rm := b }
  | .vaddpdY d a b => { reg := d, v := a, rm := b }
  | .vaddss d a b => { reg := d, v := a, rm := b }
  | .vaddsd d a b => { reg := d, v := a, rm := b }
  | .vmulpsX d a b => { reg := d, v := a, rm := b }
  | .vmulpsY d a b => { reg := d, v := a, rm := b }
  | .vmulpdX d a b => { reg := d, v := a, rm := b }
  | .vmulpdY d a b => { reg := d, v := a, rm := b }
  | .vmulss d a b => { reg := d, v := a, rm := b }
  | .vmulsd d a b => { reg := d, v := a, rm := b }
  | .vcvtps2pdX d b => { reg := d, rm := b }
  | .vcvtps2pdY d b => { reg := d, rm := b }
  | .vcvtpd2psX d b => { reg := d, rm := b }
  | .vcvtpd2psY d b => { reg := d, rm := b }
  | .vcvtss2sd d a b => { reg := d, v := a, rm := b }
  | .vcvtsd2ss d a b => { reg := d, v := a, rm := b }
  | .vcvtdq2psX d b => { reg := d, rm := b }
  | .vcvtdq2psY d b => { reg := d, rm := b }
  | .vcvtps2dqX d b => { reg := d, rm := b }
  | .vcvtps2dqY d b => { reg := d, rm := b }
  | .vcvttps2dqX d b => { reg := d, rm := b }
  | .vcvttps2dqY d b => { reg := d, rm := b }
  | .vsubpsX d a b => { reg := d, v := a, rm := b }
  | .vsubpsY d a b => { reg := d, v := a, rm := b }
  | .vsubpdX d a b => { reg := d, v := a, rm := b }
  | .vsubpdY d a b => { reg := d, v := a, rm := b }
  | .vsubss d a b => { reg := d, v := a, rm := b }
  | .vsubsd d a b => { reg := d, v := a, rm := b }
  | .vminpsX d a b => { reg := d, v := a, rm := b }
  | .vminpsY d a b => { reg := d, v := a, rm := b }
  | .vminpdX d a b => { reg := d, v := a, rm := b }
  | .vminpdY d a b => { reg := d, v := a, rm := b }
  | .vminss d a b => { reg := d, v := a, rm := b }
  | .vminsd d a b => { reg := d, v := a, rm := b }
  | .vdivpsX d a b => { reg := d, v := a, rm := b }
  | .vdivpsY d a b => { reg := d, v := a, rm := b }
  | .vdivpdX d a b => { reg := d, v := a, rm := b }
  | .vdivpdY d a b => { reg := d, v := a, rm := b }
  | .vdivss d a b => { reg := d, v := a, rm := b }
  | .vdivsd d a b => { reg := d, v := a, rm := b }
  | .vmaxpsX d a b => { reg := d, v := a, rm := b }
  | .vmaxpsY d a b => { reg := d, v := a, rm := b }
  | .vmaxpdX d a b => { reg := d, v := a, rm := b }
  | .vmaxpdY d a b => { reg := d, v := a, rm := b }
  | .vmaxss d a b => { reg := d, v := a, rm := b }
  | .vmaxsd d a b => { reg := d, v := a, rm := b }
  | .vpunpcklbw d a b => { reg := d, v := a, rm := b }
  | .vpunpcklwd d a b => { reg := d, v := a, rm := b }
  | .vpunpckldq d a b => { reg := d, v := a, rm := b }
  | .vpacksswb d a b => { reg := d, v := a, rm := b }
  | .vpcmpgtb d a b => { reg := d, v := a, rm := b }
  | .vpcmpgtw d a b => { reg := d, v := a, rm := b }
  | .vpcmpgtd d a b => { reg := d, v := a, rm := b }
  | .vpackuswb d a b => { reg := d, v := a, rm := b }
  | .vpunpckhbw d a b => { reg := d, v := a, rm := b }
  | .vpunpckhwd d a b => { reg := d, v := a, rm := b }
  | .vpunpckhdq d a b => { reg := d, v := a, rm := b }
  | .vpackssdw d a b => { reg := d, v := a, rm := b }
  | .vpunpcklqdq d a b => { reg := d, v := a, rm := b }
  | .vpunpckhqdq d a b => { reg := d, v := a, rm := b }
  | .vmovdqaX d b => { reg := d, rm := b }
  | .vmovdqaY d b => { reg := d, rm := b }
  | .vmovdquX d b => { reg := d, rm := b }
  | .vmovdquY d b => { reg := d, rm := b }
  | .vpshufd d b imm => { reg := d, rm := b, imm := imm }
  | .vpshufhw d b imm => { reg := d, rm := b, imm := imm }
  | .vpshuflw d b imm => { reg := d, rm := b, imm := imm }
  | .vpsrlwImm d a imm => { v := d, rm := .reg a, imm := imm }
  | .vpsrawImm d a imm => { v := d, rm := .reg a, imm := imm }
  | .vpsllwImm d a imm => { v := d, rm := .reg a, imm := imm }
  | .vpsrldImm d a imm => { v := d, rm := .reg a, imm := imm }
  | .vpsradImm d a imm => { v := d, rm := .reg a, imm := imm }
  | .vpslldImm d a imm => { v := d, rm := .reg a, imm := imm }
  | .vpsrlqImm d a imm => { v := d, rm := .reg a, imm := imm }
  | .vpsrldq d a imm => { v := d, rm := .reg a, imm := imm }
  | .vpsllqImm d a imm => { v := d, rm := .reg a, imm := imm }
  | .vpslldq d a imm => { v := d, rm := .reg a, imm := imm }
  | .vpcmpeqb d a b => { reg := d, v := a, rm := b }
  | .vpcmpeqw d a b => { reg := d, v := a, rm := b }
  | .vpcmpeqd d a b => { reg := d, v := a, rm := b }
  | .vzeroupper => {}
  | .vzeroall => {}
  | .vhaddpdX d a b => { reg := d, v := a, rm := b }
  | .vhaddpdY d a b => { reg := d, v := a, rm := b }
  | .vhaddpsX d a b => { reg := d, v := a, rm := b }
  | .vhaddpsY d a b => { reg := d, v := a, rm := b }
  | .vhsubpdX d a b => { reg := d, v := a, rm := b }
  | .vhsubpdY d a b => { reg := d, v := a, rm := b }
  | .vhsubpsX d a b => { reg := d, v := a, rm := b }
  | .vhsubpsY d a b => { reg := d, v := a, rm := b }
  | .vmovdqaXStore d a => { rm := d, reg := a }
  | .vmovdqaYStore d a => { rm := d, reg := a }
  | .vmovdquXStore d a => { rm := d, reg := a }
  | .vmovdquYStore d a => { rm := d, reg := a }
  | .vldmxcsr m => { rm := .mem m }
  | .vstmxcsr m => { rm := .mem m }
  | .vcmppsX d a b imm => { reg := d, v := a, rm := b, imm := imm }
  | .vcmppsY d a b imm => { reg := d, v := a, rm := b, imm := imm }
  | .vcmppdX d a b imm => { reg := d, v := a, rm := b, imm := imm }
  | .vcmppdY d a b imm => { reg := d, v := a, rm := b, imm := imm }
  | .vcmpss d a b imm => { reg := d, v := a, rm := b, imm := imm }
  | .vcmpsd d a b imm => { reg := d, v := a, rm := b, imm := imm }
  | .vpinsrw d a b imm => { reg := d, v := a, rm := b, imm := imm }
  | .vshufpsX d a b imm => { reg := d, v := a, rm := b, imm := imm }
  | .vshufpsY d a b imm => { reg := d, v := a, rm := b, imm := imm }
  | .vshufpdX d a b imm => { reg := d, v := a, rm := b, imm := imm }
  | .vshufpdY d a b imm => { reg := d, v := a, rm := b, imm := imm }
  | .vaddsubpdX d a b => { reg := d, v := a, rm := b }
  | .vaddsubpdY d a b => { reg := d, v := a, rm := b }
  | .vaddsubpsX d a b => { reg := d, v := a, rm := b }
  | .vaddsubpsY d a b => { reg := d, v := a, rm := b }
  | .vpsrlw d a b => { reg := d, v := a, rm := b }
  | .vpsrld d a b => { reg := d, v := a, rm := b }
  | .vpsrlq d a b => { reg := d, v := a, rm := b }
  | .vpaddq d a b => { reg := d, v := a, rm := b }
  | .vpmullw d a b => { reg := d, v := a, rm := b }
  | .vpsubusb d a b => { reg := d, v := a, rm := b }
  | .vpsubusw d a b => { reg := d, v := a, rm := b }
  | .vpminub d a b => { reg := d, v := a, rm := b }
  | .vpand d a b => { reg := d, v := a, rm := b }
  | .vpaddusb d a b => { reg := d, v := a, rm := b }
  | .vpaddusw d a b => { reg := d, v := a, rm := b }
  | .vpmaxub d a b => { reg := d, v := a, rm := b }
  | .vpandn d a b => { reg := d, v := a, rm := b }
  | .vpavgb d a b => { reg := d, v := a, rm := b }
  | .vpsraw d a b => { reg := d, v := a, rm := b }
  | .vpsrad d a b => { reg := d, v := a, rm := b }
  | .vpavgw d a b => { reg := d, v := a, rm := b }
  | .vpmulhuw d a b => { reg := d, v := a, rm := b }
  | .vpmulhw d a b => { reg := d, v := a, rm := b }
  | .vcvttpd2dqX d b => { reg := d, rm := b }
  | .vcvttpd2dqY d b => { reg := d, rm := b }
  | .vcvtdq2pdX d b => { reg := d, rm := b }
  | .vcvtdq2pdY d b => { reg := d, rm := b }
  | .vcvtpd2dqX d b => { reg := d, rm := b }
  | .vcvtpd2dqY d b => { reg := d, rm := b }
  | .vpsubsb d a b => { reg := d, v := a, rm := b }
  | .vpsubsw d a b => { reg := d, v := a, rm := b }
  | .vpminsw d a b => { reg := d, v := a, rm := b }
  | .vpor d a b => { reg := d, v := a, rm := b }
  | .vpaddsb d a b => { reg := d, v := a, rm := b }
  | .vpaddsw d a b => { reg := d, v := a, rm := b }
  | .vpmaxsw d a b => { reg := d, v := a, rm := b }
  | .vpxor d a b => { reg := d, v := a, rm := b }
  | .vlddquX d b => { reg := d, rm := .mem b }
  | .vlddquY d b => { reg := d, rm := .mem b }
  | .vpsllw d a b => { reg := d, v := a, rm := b }
  | .vpslld d a b => { reg := d, v := a, rm := b }
  | .vpsllq d a b => { reg := d, v := a, rm := b }
  | .vpmuludq d a b => { reg := d, v := a, rm := b }
  | .vpmaddwd d a b => { reg := d, v := a, rm := b }
  | .vpsadbw d a b => { reg := d, v := a, rm := b }
  | .vpsubb d a b => { reg := d, v := a, rm := b }
  | .vpsubw d a b => { reg := d, v := a, rm := b }
  | .vpsubd d a b => { reg := d, v := a, rm := b }
  | .vpsubq d a b => { reg := d, v := a, rm := b }
  | .vpaddb d a b => { reg := d, v := a, rm := b }
  | .vpaddw d a b => { reg := d, v := a, rm := b }
  | .vpaddd d a b => { reg := d, v := a, rm := b }
  | .vpshufb d a b => { reg := d, v := a, rm := b }
  | .vphaddw d a b => { reg := d, v := a, rm := b }
  | .vphaddd d a b => { reg := d, v := a, rm := b }
  | .vphaddsw d a b => { reg := d, v := a, rm := b }
  | .vpmaddubsw d a b => { reg := d, v := a, rm := b }
  | .vphsubw d a b => { reg := d, v := a, rm := b }
  | .vphsubd d a b => { reg := d, v := a, rm := b }
  | .vphsubsw d a b => { reg := d, v := a, rm := b }
  | .vpsignb d a b => { reg := d, v := a, rm := b }
  | .vpsignw d a b => { reg := d, v := a, rm := b }
  | .vpsignd d a b => { reg := d, v := a, rm := b }
  | .vpmulhrsw d a b => { reg := d, v := a, rm := b }
  | .vpermilpsX d a b => { reg := d, v := a, rm := b }
  | .vpermilpsY d a b => { reg := d, v := a, rm := b }
  | .vpermilpdX d a b => { reg := d, v := a, rm := b }
  | .vpermilpdY d a b => { reg := d, v := a, rm := b }
  | .vtestpsX a b => { reg := a, rm := b }
  | .vtestpsY a b => { reg := a, rm := b }
  | .vtestpdX a b => { reg := a, rm := b }
  | .vtestpdY a b => { reg := a, rm := b }
  | .vptestX a b => { reg := a, rm := b }
  | .vptestY a b => { reg := a, rm := b }
  | .vbroadcastssX d b => { reg := d, rm := .mem b }
  | .vbroadcastssY d b => { reg := d, rm := .mem b }
  | .vbroadcastsd d b => { reg := d, rm := .mem b }
  | .vbroadcastf128 d b => { reg := d, rm := .mem b }
  | .vpmuldq d a b => { reg := d, v := a, rm := b }
  | .vpcmpeqq d a b => { reg := d, v := a, rm := b }
  | .vpackusdw d a b => { reg := d, v := a, rm := b }
  | .vmaskmovpsXLoad d a b => { reg := d, v := a, rm := .mem b }
  | .vmaskmovpsYLoad d a b => { reg := d, v := a, rm := .mem b }
  | .vmaskmovpdXLoad d a b => { reg := d, v := a, rm := .mem b }
  | .vmaskmovpdYLoad d a b => { reg := d, v := a, rm := .mem b }
  | .vmaskmovpsXStore d a b => { rm := .mem d, v := a, reg := b }
  | .vmaskmovpsYStore d a b => { rm := .mem d, v := a, reg := b }
  | .vmaskmovpdXStore d a b => { rm := .mem d, v := a, reg := b }
  | .vmaskmovpdYStore d a b => { rm := .mem d, v := a, reg := b }
  | .vpcmpgtq d a b => { reg := d, v := a, rm := b }
  | .vpminsb d a b => { reg := d, v := a, rm := b }
  | .vpminsd d a b => { reg := d, v := a, rm := b }
  | .vpminuw d a b => { reg := d, v := a, rm := b }
  | .vpminud d a b => { reg := d, v := a, rm := b }
  | .vpmaxsb d a b => { reg := d, v := a, rm := b }
  | .vpmaxsd d a b => { reg := d, v := a, rm := b }
  | .vpmaxuw d a b => { reg := d, v := a, rm := b }
  | .vpmaxud d a b => { reg := d, v := a, rm := b }
  | .vpmulld d a b => { reg := d, v := a, rm := b }
  | .aesimc d b => { reg := d, rm := b }
  | .vaesimc d b => { reg := d, rm := b }
  | .aesenc d b => { reg := d, rm := b }
  | .vaesenc d a b => { reg := d, v := a, rm := b }
  | .aesenclast d b => { reg := d, rm := b }
  | .vaesenclast d a b => { reg := d, v := a, rm := b }
  | .aesdec d b => { reg := d, rm := b }
  | .vaesdec d a b => { reg := d, v := a, rm := b }
  | .aesdeclast d b => { reg := d, rm := b }
  | .vaesdeclast d a b => { reg := d, v := a, rm := b }
  | .vpermilpsXImm d b imm => { reg := d, rm := b, imm := imm }
  | .vpermilpsYImm d b imm => { reg := d, rm := b, imm := imm }
  | .vpermilpdXImm d b imm => { reg := d, rm := b, imm := imm }
  | .vpermilpdYImm d b imm => { reg := d, rm := b, imm := imm }
  | .vperm2f128 d a b imm => { reg := d, v := a, rm := b, imm := imm }
  | .vroundpsX d b imm => { reg := d, rm := b, imm := imm }
  | .vroundpsY d b imm => { reg := d, rm := b, imm := imm }
  | .vroundpdX d b imm => { reg := d, rm := b, imm := imm }
  | .vroundpdY d b imm => { reg := d, rm := b, imm := imm }
  | .vroundss d a b imm => { reg := d, v := a, rm := b, imm := imm }
  | .vroundsd d a b imm => { reg := d, v := a, rm := b, imm := imm }
  | .vblendpsX d a b imm => { reg := d, v := a, rm := b, imm := imm }
  | .vblendpsY d a b imm => { reg := d, v := a, rm := b, imm := imm }
  | .vblendpdX d a b imm => { reg := d, v := a, rm := b, imm := imm }
  | .vblendpdY d a b imm => { reg := d, v := a, rm := b, imm := imm }
  | .vpblendw d a b imm => { reg := d, v := a, rm := b, imm := imm }
  | .vpalignr d a b imm => { reg := d, v := a, rm := b, imm := imm }
  | .vinsertf128 d a b imm => { reg := d, v := a, rm := b, imm := imm }
  | .vextractf128 d a imm => { rm := d, reg := a, imm := imm }
  | .vpinsrb d a b imm => { reg := d, v := a, rm := b, imm := imm }
  | .vinsertps d a b imm => { reg := d, v := a, rm := b, imm := imm }
  | .vpinsrd d a b imm => { reg := d, v := a, rm := b, imm := imm }
  | .vpinsrq d a b imm => { reg := d, v := a, rm := b, imm := imm, wide := true }
  | .vdppsX d a b imm => { reg := d, v := a, rm := b, imm := imm }
  | .vdppsY d a b imm => { reg := d, v := a, rm := b, imm := imm }
  | .vdppd d a b imm => { reg := d, v := a, rm := b, imm := imm }
  | .vmpsadbw d a b imm => { reg := d, v := a, rm := b, imm := imm }
  | .pclmulqdq d b imm => { reg := d, rm := b, imm := imm }
  | .vpclmulqdq d a b imm => { reg := d, v := a, rm := b, imm := imm }
  | .vpermil2psX d a b c imm => { reg := d, v := a, rm := b, is4 := c, imm := imm.setWidth 8 }
  | .vpermil2psXW1 d a c b imm => { reg := d, v := a, is4 := c, rm := b, imm := imm.setWidth 8 }
  | .vpermil2psY d a b c imm => { reg := d, v := a, rm := b, is4 := c, imm := imm.setWidth 8 }
  | .vpermil2psYW1 d a c b imm => { reg := d, v := a, is4 := c, rm := b, imm := imm.setWidth 8 }
  | .vpermil2pdX d a b c imm => { reg := d, v := a, rm := b, is4 := c, imm := imm.setWidth 8 }
  | .vpermil2pdXW1 d a c b imm => { reg := d, v := a, is4 := c, rm := b, imm := imm.setWidth 8 }
  | .vpermil2pdY d a b c imm => { reg := d, v := a, rm := b, is4 := c, imm := imm.setWidth 8 }
  | .vpermil2pdYW1 d a c b imm => { reg := d, v := a, is4 := c, rm := b, imm := imm.setWidth 8 }
  | .vblendvpsX d a b c => { reg := d, v := a, rm := b, is4 := c }
  | .vblendvpsY d a b c => { reg := d, v := a, rm := b, is4 := c }
  | .vblendvpdX d a b c => { reg := d, v := a, rm := b, is4 := c }
  | .vblendvpdY d a b c => { reg := d, v := a, rm := b, is4 := c }
  | .vpblendvb d a b c => { reg := d, v := a, rm := b, is4 := c }
  | .vfmaddsubpsX d a b c => { reg := d, v := a, rm := b, is4 := c }
  | .vfmaddsubpsXW1 d a c b => { reg := d, v := a, is4 := c, rm := b }
  | .vfmaddsubpsY d a b c => { reg := d, v := a, rm := b, is4 := c }
  | .vfmaddsubpsYW1 d a c b => { reg := d, v := a, is4 := c, rm := b }
  | .vfmaddsubpdX d a b c => { reg := d, v := a, rm := b, is4 := c }
  | .vfmaddsubpdXW1 d a c b => { reg := d, v := a, is4 := c, rm := b }
  | .vfmaddsubpdY d a b c => { reg := d, v := a, rm := b, is4 := c }
  | .vfmaddsubpdYW1 d a c b => { reg := d, v := a, is4 := c, rm := b }
  | .vfmsubaddpsX d a b c => { reg := d, v := a, rm := b, is4 := c }
  | .vfmsubaddpsXW1 d a c b => { reg := d, v := a, is4 := c, rm := b }
  | .vfmsubaddpsY d a b c => { reg := d, v := a, rm := b, is4 := c }
  | .vfmsubaddpsYW1 d a c b => { reg := d, v := a, is4 := c, rm := b }
  | .vfmsubaddpdX d a b c => { reg := d, v := a, rm := b, is4 := c }
  | .vfmsubaddpdXW1 d a c b => { reg := d, v := a, is4 := c, rm := b }
  | .vfmsubaddpdY d a b c => { reg := d, v := a, rm := b, is4 := c }
  | .vfmsubaddpdYW1 d a c b => { reg := d, v := a, is4 := c, rm := b }
  | .vfmaddpsX d a b c => { reg := d, v := a, rm := b, is4 := c }
  | .vfmaddpsXW1 d a c b => { reg := d, v := a, is4 := c, rm := b }
  | .vfmaddpsY d a b c => { reg := d, v := a, rm := b, is4 := c }
  | .vfmaddpsYW1 d a c b => { reg := d, v := a, is4 := c, rm := b }
  | .vfmaddpdX d a b c => { reg := d, v := a, rm := b, is4 := c }
  | .vfmaddpdXW1 d a c b => { reg := d, v := a, is4 := c, rm := b }
  | .vfmaddpdY d a b c => { reg := d, v := a, rm := b, is4 := c }
  | .vfmaddpdYW1 d a c b => { reg := d, v := a, is4 := c, rm := b }
  | .vfmaddss d a b c => { reg := d, v := a, rm := b, is4 := c }
  | .vfmaddssW1 d a c b => { reg := d, v := a, is4 := c, rm := b }
  | .vfmaddsd d a b c => { reg := d, v := a, rm := b, is4 := c }
  | .vfmaddsdW1 d a c b => { reg := d, v := a, is4 := c, rm := b }
  | .vfmsubpsX d a b c => { reg := d, v := a, rm := b, is4 := c }
  | .vfmsubpsXW1 d a c b => { reg := d, v := a, is4 := c, rm := b }
  | .vfmsubpsY d a b c => { reg := d, v := a, rm := b, is4 := c }
  | .vfmsubpsYW1 d a c b => { reg := d, v := a, is4 := c, rm := b }
  | .vfmsubpdX d a b c => { reg := d, v := a, rm := b, is4 := c }
  | .vfmsubpdXW1 d a c b => { reg := d, v := a, is4 := c, rm := b }
  | .vfmsubpdY d a b c => { reg := d, v := a, rm := b, is4 := c }
  | .vfmsubpdYW1 d a c b => { reg := d, v := a, is4 := c, rm := b }
  | .vfmsubss d a b c => { reg := d, v := a, rm := b, is4 := c }
  | .vfmsubssW1 d a c b => { reg := d, v := a, is4 := c, rm := b }
  | .vfmsubsd d a b c => { reg := d, v := a, rm := b, is4 := c }
  | .vfmsubsdW1 d a c b => { reg := d, v := a, is4 := c, rm := b }
  | .vfnmaddpsX d a b c => { reg := d, v := a, rm := b, is4 := c }
  | .vfnmaddpsXW1 d a c b => { reg := d, v := a, is4 := c, rm := b }
  | .vfnmaddpsY d a b c => { reg := d, v := a, rm := b, is4 := c }
  | .vfnmaddpsYW1 d a c b => { reg := d, v := a, is4 := c, rm := b }
  | .vfnmaddpdX d a b c => { reg := d, v := a, rm := b, is4 := c }
  | .vfnmaddpdXW1 d a c b => { reg := d, v := a, is4 := c, rm := b }
  | .vfnmaddpdY d a b c => { reg := d, v := a, rm := b, is4 := c }
  | .vfnmaddpdYW1 d a c b => { reg := d, v := a, is4 := c, rm := b }
  | .vfnmaddss d a b c => { reg := d, v := a, rm := b, is4 := c }
  | .vfnmaddssW1 d a c b => { reg := d, v := a, is4 := c, rm := b }
  | .vfnmaddsd d a b c => { reg := d, v := a, rm := b, is4 := c }
  | .vfnmaddsdW1 d a c b => { reg := d, v := a, is4 := c, rm := b }
  | .vfnmsubpsX d a b c => { reg := d, v := a, rm := b, is4 := c }
  | .vfnmsubpsXW1 d a c b => { reg := d, v := a, is4 := c, rm := b }
  | .vfnmsubpsY d a b c => { reg := d, v := a, rm := b, is4 := c }
  | .vfnmsubpsYW1 d a c b => { reg := d, v := a, is4 := c, rm := b }
  | .vfnmsubpdX d a b c => { reg := d, v := a, rm := b, is4 := c }
  | .vfnmsubpdXW1 d a c b => { reg := d, v := a, is4 := c, rm := b }
  | .vfnmsubpdY d a b c => { reg := d, v := a, rm := b, is4 := c }
  | .vfnmsubpdYW1 d a c b => { reg := d, v := a, is4 := c, rm := b }
  | .vfnmsubss d a b c => { reg := d, v := a, rm := b, is4 := c }
  | .vfnmsubssW1 d a c b => { reg := d, v := a, is4 := c, rm := b }
  | .vfnmsubsd d a b c => { reg := d, v := a, rm := b, is4 := c }
  | .vfnmsubsdW1 d a c b => { reg := d, v := a, is4 := c, rm := b }
  | .aeskeygenassist d b imm => { reg := d, rm := b, imm := imm }
  | .vaeskeygenassist d b imm => { reg := d, rm := b, imm := imm }

end Sys2Proof
end

