-- ==== Sys2Proof/WellFormed.lean ====
section
/-! DEFINITION. Which instruction terms a mode can encode (10_state.md R41, R50; 30_encoding.md R118, R121, R122). -/

namespace Sys2Proof

/-- A mode can name this register (10_state.md R41, R50). -/
def Mode.names (m : Mode) (r : Reg) : Bool := decide (r.val < m.nreg)

/-- No displacement is written in the encoding. -/
def Disp.absent : Disp → Bool
  | .none => true
  | .d8 _ => false
  | .d32 _ => false

/-- A SIB index: register 4 cannot be one (30_encoding.md R122). -/
def indexWf (m : Mode) : Option Reg → Bool
  | none => true
  | some i => m.names i && i != 4

/-- A memory operand that ModRM and SIB can encode in a mode: a base numbered 4 modulo 8 needs a SIB byte, and one numbered
5 modulo 8 a displacement; RIP-relative is Mode64 only and a plain disp32 Mode32 only (30_encoding.md R121, R122). An address given directly has no
encoding. -/
def MemOp.wf (m : Mode) : MemOp → Bool
  | .direct _ => false
  | .rip _ => m == .mode64
  | .abs _ => m == .mode32
  | .base b d => m.names b && b.val % 8 != 4 && (!d.absent || b.val % 8 != 5)
  | .sib b _ i d => m.names b && indexWf m i && (!d.absent || b.val % 8 != 5)
  | .sibNoBase _ i _ => indexWf m i

/-- A register or memory operand that a mode can encode. -/
def RegMem.wf (m : Mode) : RegMem → Bool
  | .reg r => m.names r
  | .mem a => a.wf m

/-- An instruction term that a mode can encode: every register it names exists in the mode, its memory operand can be
written, and a 64-bit general register occurs in Mode64 only (30_encoding.md R118). -/
def Instr.wf (m : Mode) (i : Instr) : Bool :=
  m.names i.operands.reg && m.names i.operands.v && i.operands.rm.wf m && m.names i.operands.is4 &&
    (!i.operands.wide || m == .mode64)

/-- A memory operand that a mnemonic-level term may have: any but the RIP-relative one, whose address is counted from the bytes
of the instruction (30_encoding.md R111, 20_memory.md R83; log 29). -/
def RegMem.termOk : RegMem → Bool
  | .reg _ => true
  | .mem (.rip _) => false
  | .mem (.direct _) | .mem (.abs _) | .mem (.base _ _) | .mem (.sib _ _ _ _) | .mem (.sibNoBase _ _ _) => true

/-- An instruction term that a mnemonic-level program may hold (30_encoding.md R111). -/
def Instr.termOk (i : Instr) : Bool := i.operands.rm.termOk

end Sys2Proof
end

