-- ==== Sys2Proof/Decode.lean ====
section
/-! DEFINITION. The decoder of 30_encoding.md R113 to R127 over the opcode table R130, total on any bytes, rejecting by
name; after it the encoder written from the same table, and the words the host asks about. -/

namespace Sys2Proof

/-- The rows of spec/opcode_table.json, one name each: the constructors of `Instr` without their operands. -/
inductive Form where
  | vmovupsX
  | vmovupsY
  | vmovupdX
  | vmovupdY
  | vmovssReg
  | vmovssLoad
  | vmovsdReg
  | vmovsdLoad
  | vmovupsXStore
  | vmovupsYStore
  | vmovupdXStore
  | vmovupdYStore
  | vmovssStore
  | vmovssReg2
  | vmovsdStore
  | vmovsdReg2
  | vmovhlps
  | vmovlpsLoad
  | vmovlpdLoad
  | vmovsldupX
  | vmovsldupY
  | vmovddupX
  | vmovddupY
  | vmovlpsStore
  | vmovlpdStore
  | vunpcklpsX
  | vunpcklpsY
  | vunpcklpdX
  | vunpcklpdY
  | vunpckhpsX
  | vunpckhpsY
  | vunpckhpdX
  | vunpckhpdY
  | vmovlhps
  | vmovhpsLoad
  | vmovhpdLoad
  | vmovshdupX
  | vmovshdupY
  | vmovhpsStore
  | vmovhpdStore
  | vmovapsX
  | vmovapsY
  | vmovapdX
  | vmovapdY
  | vmovapsXStore
  | vmovapsYStore
  | vmovapdXStore
  | vmovapdYStore
  | vcvtsi2ssR32
  | vcvtsi2ssR64
  | vcvtsi2sdR32
  | vcvtsi2sdR64
  | vcvttss2siR32
  | vcvttss2siR64
  | vcvttsd2siR32
  | vcvttsd2siR64
  | vcvtss2siR32
  | vcvtss2siR64
  | vcvtsd2siR32
  | vcvtsd2siR64
  | vmovmskpsX
  | vmovmskpsY
  | vmovmskpdX
  | vmovmskpdY
  | vsqrtpsX
  | vsqrtpsY
  | vsqrtpdX
  | vsqrtpdY
  | vsqrtss
  | vsqrtsd
  | vrsqrtpsX
  | vrsqrtpsY
  | vrsqrtss
  | vrcppsX
  | vrcppsY
  | vrcpss
  | vandpsX
  | vandpsY
  | vandpdX
  | vandpdY
  | vandnpsX
  | vandnpsY
  | vandnpdX
  | vandnpdY
  | vorpsX
  | vorpsY
  | vorpdX
  | vorpdY
  | vxorpsX
  | vxorpsY
  | vxorpdX
  | vxorpdY
  | vaddpsX
  | vaddpsY
  | vaddpdX
  | vaddpdY
  | vaddss
  | vaddsd
  | vmulpsX
  | vmulpsY
  | vmulpdX
  | vmulpdY
  | vmulss
  | vmulsd
  | vcvtps2pdX
  | vcvtps2pdY
  | vcvtpd2psX
  | vcvtpd2psY
  | vcvtss2sd
  | vcvtsd2ss
  | vcvtdq2psX
  | vcvtdq2psY
  | vcvtps2dqX
  | vcvtps2dqY
  | vcvttps2dqX
  | vcvttps2dqY
  | vsubpsX
  | vsubpsY
  | vsubpdX
  | vsubpdY
  | vsubss
  | vsubsd
  | vminpsX
  | vminpsY
  | vminpdX
  | vminpdY
  | vminss
  | vminsd
  | vdivpsX
  | vdivpsY
  | vdivpdX
  | vdivpdY
  | vdivss
  | vdivsd
  | vmaxpsX
  | vmaxpsY
  | vmaxpdX
  | vmaxpdY
  | vmaxss
  | vmaxsd
  | vpunpcklbw
  | vpunpcklwd
  | vpunpckldq
  | vpacksswb
  | vpcmpgtb
  | vpcmpgtw
  | vpcmpgtd
  | vpackuswb
  | vpunpckhbw
  | vpunpckhwd
  | vpunpckhdq
  | vpackssdw
  | vpunpcklqdq
  | vpunpckhqdq
  | vmovdqaX
  | vmovdqaY
  | vmovdquX
  | vmovdquY
  | vpshufd
  | vpshufhw
  | vpshuflw
  | vpsrlwImm
  | vpsrawImm
  | vpsllwImm
  | vpsrldImm
  | vpsradImm
  | vpslldImm
  | vpsrlqImm
  | vpsrldq
  | vpsllqImm
  | vpslldq
  | vpcmpeqb
  | vpcmpeqw
  | vpcmpeqd
  | vzeroupper
  | vzeroall
  | vhaddpdX
  | vhaddpdY
  | vhaddpsX
  | vhaddpsY
  | vhsubpdX
  | vhsubpdY
  | vhsubpsX
  | vhsubpsY
  | vmovdqaXStore
  | vmovdqaYStore
  | vmovdquXStore
  | vmovdquYStore
  | vldmxcsr
  | vstmxcsr
  | vcmppsX
  | vcmppsY
  | vcmppdX
  | vcmppdY
  | vcmpss
  | vcmpsd
  | vpinsrw
  | vshufpsX
  | vshufpsY
  | vshufpdX
  | vshufpdY
  | vaddsubpdX
  | vaddsubpdY
  | vaddsubpsX
  | vaddsubpsY
  | vpsrlw
  | vpsrld
  | vpsrlq
  | vpaddq
  | vpmullw
  | vpsubusb
  | vpsubusw
  | vpminub
  | vpand
  | vpaddusb
  | vpaddusw
  | vpmaxub
  | vpandn
  | vpavgb
  | vpsraw
  | vpsrad
  | vpavgw
  | vpmulhuw
  | vpmulhw
  | vcvttpd2dqX
  | vcvttpd2dqY
  | vcvtdq2pdX
  | vcvtdq2pdY
  | vcvtpd2dqX
  | vcvtpd2dqY
  | vpsubsb
  | vpsubsw
  | vpminsw
  | vpor
  | vpaddsb
  | vpaddsw
  | vpmaxsw
  | vpxor
  | vlddquX
  | vlddquY
  | vpsllw
  | vpslld
  | vpsllq
  | vpmuludq
  | vpmaddwd
  | vpsadbw
  | vpsubb
  | vpsubw
  | vpsubd
  | vpsubq
  | vpaddb
  | vpaddw
  | vpaddd
  | vpshufb
  | vphaddw
  | vphaddd
  | vphaddsw
  | vpmaddubsw
  | vphsubw
  | vphsubd
  | vphsubsw
  | vpsignb
  | vpsignw
  | vpsignd
  | vpmulhrsw
  | vpermilpsX
  | vpermilpsY
  | vpermilpdX
  | vpermilpdY
  | vtestpsX
  | vtestpsY
  | vtestpdX
  | vtestpdY
  | vptestX
  | vptestY
  | vbroadcastssX
  | vbroadcastssY
  | vbroadcastsd
  | vbroadcastf128
  | vpmuldq
  | vpcmpeqq
  | vpackusdw
  | vmaskmovpsXLoad
  | vmaskmovpsYLoad
  | vmaskmovpdXLoad
  | vmaskmovpdYLoad
  | vmaskmovpsXStore
  | vmaskmovpsYStore
  | vmaskmovpdXStore
  | vmaskmovpdYStore
  | vpcmpgtq
  | vpminsb
  | vpminsd
  | vpminuw
  | vpminud
  | vpmaxsb
  | vpmaxsd
  | vpmaxuw
  | vpmaxud
  | vpmulld
  | aesimc
  | vaesimc
  | aesenc
  | vaesenc
  | aesenclast
  | vaesenclast
  | aesdec
  | vaesdec
  | aesdeclast
  | vaesdeclast
  | vpermilpsXImm
  | vpermilpsYImm
  | vpermilpdXImm
  | vpermilpdYImm
  | vperm2f128
  | vroundpsX
  | vroundpsY
  | vroundpdX
  | vroundpdY
  | vroundss
  | vroundsd
  | vblendpsX
  | vblendpsY
  | vblendpdX
  | vblendpdY
  | vpblendw
  | vpalignr
  | vinsertf128
  | vextractf128
  | vpinsrb
  | vinsertps
  | vpinsrd
  | vpinsrq
  | vdppsX
  | vdppsY
  | vdppd
  | vmpsadbw
  | pclmulqdq
  | vpclmulqdq
  | vpermil2psX
  | vpermil2psXW1
  | vpermil2psY
  | vpermil2psYW1
  | vpermil2pdX
  | vpermil2pdXW1
  | vpermil2pdY
  | vpermil2pdYW1
  | vblendvpsX
  | vblendvpsY
  | vblendvpdX
  | vblendvpdY
  | vpblendvb
  | vfmaddsubpsX
  | vfmaddsubpsXW1
  | vfmaddsubpsY
  | vfmaddsubpsYW1
  | vfmaddsubpdX
  | vfmaddsubpdXW1
  | vfmaddsubpdY
  | vfmaddsubpdYW1
  | vfmsubaddpsX
  | vfmsubaddpsXW1
  | vfmsubaddpsY
  | vfmsubaddpsYW1
  | vfmsubaddpdX
  | vfmsubaddpdXW1
  | vfmsubaddpdY
  | vfmsubaddpdYW1
  | vfmaddpsX
  | vfmaddpsXW1
  | vfmaddpsY
  | vfmaddpsYW1
  | vfmaddpdX
  | vfmaddpdXW1
  | vfmaddpdY
  | vfmaddpdYW1
  | vfmaddss
  | vfmaddssW1
  | vfmaddsd
  | vfmaddsdW1
  | vfmsubpsX
  | vfmsubpsXW1
  | vfmsubpsY
  | vfmsubpsYW1
  | vfmsubpdX
  | vfmsubpdXW1
  | vfmsubpdY
  | vfmsubpdYW1
  | vfmsubss
  | vfmsubssW1
  | vfmsubsd
  | vfmsubsdW1
  | vfnmaddpsX
  | vfnmaddpsXW1
  | vfnmaddpsY
  | vfnmaddpsYW1
  | vfnmaddpdX
  | vfnmaddpdXW1
  | vfnmaddpdY
  | vfnmaddpdYW1
  | vfnmaddss
  | vfnmaddssW1
  | vfnmaddsd
  | vfnmaddsdW1
  | vfnmsubpsX
  | vfnmsubpsXW1
  | vfnmsubpsY
  | vfnmsubpsYW1
  | vfnmsubpdX
  | vfnmsubpdXW1
  | vfnmsubpdY
  | vfnmsubpdYW1
  | vfnmsubss
  | vfnmsubssW1
  | vfnmsubsd
  | vfnmsubsdW1
  | aeskeygenassist
  | vaeskeygenassist
  deriving DecidableEq, Repr

/-- The opcode map a row stands in (30_encoding.md R114). -/
inductive OpMap where
  | m0F
  | m0F38
  | m0F3A
  deriving DecidableEq, Repr

/-- The legacy prefix that `pp` stands for (30_encoding.md R114). -/
inductive Pp where
  | np
  | p66
  | pF3
  | pF2
  deriving DecidableEq, Repr

/-- What a row asks of VEX.L; `leg` marks the legacy rows (30_encoding.md R114, R130). -/
inductive LenReq where
  | l128
  | l256
  | lig
  | lz
  | leg
  deriving DecidableEq, Repr

/-- What a row asks of VEX.W (30_encoding.md R114). -/
inductive WReq where
  | wig
  | w0
  | w1
  deriving DecidableEq, Repr

/-- The operand encodings (30_encoding.md R119). -/
inductive OpEnc where
  | rm
  | mr
  | rmi
  | mri
  | rvm
  | rvmi
  | mvr
  | vmi
  | rvmr
  | rvrm
  | rvmr5
  | rvrm5
  | m
  | none
  | legRm
  | legRmi
  deriving DecidableEq, Repr

/-- Which kinds of ModRM.rm operand a row admits (30_encoding.md R119). -/
inductive ModReq where
  | any
  | regOnly
  | memOnly
  deriving DecidableEq, Repr

/-- The trailing byte of a row (30_encoding.md R123, R124). -/
inductive ImmReq where
  | none
  | ib
  | is4
  deriving DecidableEq, Repr

/-- One row of the opcode table (30_encoding.md R130). -/
structure Row where
  map : OpMap
  op : BitVec 8
  pp : Pp
  len : LenReq
  w : WReq
  enc : OpEnc
  mod : ModReq
  /-- The opcode extension `/n` in ModRM.reg. -/
  ext : Option (BitVec 3)
  imm : ImmReq
  /-- Admitted only under `EncFMA4` (30_encoding.md R131). -/
  gated : Bool
  /-- A general-register operand is 64 bits wide, so that the row exists in Mode64 only (30_encoding.md R118). -/
  wide : Bool
  deriving DecidableEq, Repr

/-- The operand encoding has an operand in VEX.vvvv (30_encoding.md R126 b). -/
def OpEnc.usesV : OpEnc → Bool
  | .rm | .mr | .rmi | .mri | .m | .none | .legRm | .legRmi => false
  | .rvm | .rvmi | .mvr | .vmi | .rvmr | .rvrm | .rvmr5 | .rvrm5 => true

/-- The opcode table (30_encoding.md R130): map, opcode, pp, L, W, operand encoding, kind of ModRM.rm, `/n`, trailing byte,
whether `EncFMA4` gates the row, whether it names a 64-bit general register. -/
def Form.row : Form → Row
  | .vmovupsX => ⟨.m0F, 0x10, .np, .l128, .wig, .rm, .any, none, .none, false, false⟩
  | .vmovupsY => ⟨.m0F, 0x10, .np, .l256, .wig, .rm, .any, none, .none, false, false⟩
  | .vmovupdX => ⟨.m0F, 0x10, .p66, .l128, .wig, .rm, .any, none, .none, false, false⟩
  | .vmovupdY => ⟨.m0F, 0x10, .p66, .l256, .wig, .rm, .any, none, .none, false, false⟩
  | .vmovssReg => ⟨.m0F, 0x10, .pF3, .lig, .wig, .rvm, .regOnly, none, .none, false, false⟩
  | .vmovssLoad => ⟨.m0F, 0x10, .pF3, .lig, .wig, .rm, .memOnly, none, .none, false, false⟩
  | .vmovsdReg => ⟨.m0F, 0x10, .pF2, .lig, .wig, .rvm, .regOnly, none, .none, false, false⟩
  | .vmovsdLoad => ⟨.m0F, 0x10, .pF2, .lig, .wig, .rm, .memOnly, none, .none, false, false⟩
  | .vmovupsXStore => ⟨.m0F, 0x11, .np, .l128, .wig, .mr, .any, none, .none, false, false⟩
  | .vmovupsYStore => ⟨.m0F, 0x11, .np, .l256, .wig, .mr, .any, none, .none, false, false⟩
  | .vmovupdXStore => ⟨.m0F, 0x11, .p66, .l128, .wig, .mr, .any, none, .none, false, false⟩
  | .vmovupdYStore => ⟨.m0F, 0x11, .p66, .l256, .wig, .mr, .any, none, .none, false, false⟩
  | .vmovssStore => ⟨.m0F, 0x11, .pF3, .lig, .wig, .mr, .memOnly, none, .none, false, false⟩
  | .vmovssReg2 => ⟨.m0F, 0x11, .pF3, .lig, .wig, .mvr, .regOnly, none, .none, false, false⟩
  | .vmovsdStore => ⟨.m0F, 0x11, .pF2, .lig, .wig, .mr, .memOnly, none, .none, false, false⟩
  | .vmovsdReg2 => ⟨.m0F, 0x11, .pF2, .lig, .wig, .mvr, .regOnly, none, .none, false, false⟩
  | .vmovhlps => ⟨.m0F, 0x12, .np, .l128, .wig, .rvm, .regOnly, none, .none, false, false⟩
  | .vmovlpsLoad => ⟨.m0F, 0x12, .np, .l128, .wig, .rvm, .memOnly, none, .none, false, false⟩
  | .vmovlpdLoad => ⟨.m0F, 0x12, .p66, .l128, .wig, .rvm, .memOnly, none, .none, false, false⟩
  | .vmovsldupX => ⟨.m0F, 0x12, .pF3, .l128, .wig, .rm, .any, none, .none, false, false⟩
  | .vmovsldupY => ⟨.m0F, 0x12, .pF3, .l256, .wig, .rm, .any, none, .none, false, false⟩
  | .vmovddupX => ⟨.m0F, 0x12, .pF2, .l128, .wig, .rm, .any, none, .none, false, false⟩
  | .vmovddupY => ⟨.m0F, 0x12, .pF2, .l256, .wig, .rm, .any, none, .none, false, false⟩
  | .vmovlpsStore => ⟨.m0F, 0x13, .np, .l128, .wig, .mr, .memOnly, none, .none, false, false⟩
  | .vmovlpdStore => ⟨.m0F, 0x13, .p66, .l128, .wig, .mr, .memOnly, none, .none, false, false⟩
  | .vunpcklpsX => ⟨.m0F, 0x14, .np, .l128, .wig, .rvm, .any, none, .none, false, false⟩
  | .vunpcklpsY => ⟨.m0F, 0x14, .np, .l256, .wig, .rvm, .any, none, .none, false, false⟩
  | .vunpcklpdX => ⟨.m0F, 0x14, .p66, .l128, .wig, .rvm, .any, none, .none, false, false⟩
  | .vunpcklpdY => ⟨.m0F, 0x14, .p66, .l256, .wig, .rvm, .any, none, .none, false, false⟩
  | .vunpckhpsX => ⟨.m0F, 0x15, .np, .l128, .wig, .rvm, .any, none, .none, false, false⟩
  | .vunpckhpsY => ⟨.m0F, 0x15, .np, .l256, .wig, .rvm, .any, none, .none, false, false⟩
  | .vunpckhpdX => ⟨.m0F, 0x15, .p66, .l128, .wig, .rvm, .any, none, .none, false, false⟩
  | .vunpckhpdY => ⟨.m0F, 0x15, .p66, .l256, .wig, .rvm, .any, none, .none, false, false⟩
  | .vmovlhps => ⟨.m0F, 0x16, .np, .l128, .wig, .rvm, .regOnly, none, .none, false, false⟩
  | .vmovhpsLoad => ⟨.m0F, 0x16, .np, .l128, .wig, .rvm, .memOnly, none, .none, false, false⟩
  | .vmovhpdLoad => ⟨.m0F, 0x16, .p66, .l128, .wig, .rvm, .memOnly, none, .none, false, false⟩
  | .vmovshdupX => ⟨.m0F, 0x16, .pF3, .l128, .wig, .rm, .any, none, .none, false, false⟩
  | .vmovshdupY => ⟨.m0F, 0x16, .pF3, .l256, .wig, .rm, .any, none, .none, false, false⟩
  | .vmovhpsStore => ⟨.m0F, 0x17, .np, .l128, .wig, .mr, .memOnly, none, .none, false, false⟩
  | .vmovhpdStore => ⟨.m0F, 0x17, .p66, .l128, .wig, .mr, .memOnly, none, .none, false, false⟩
  | .vmovapsX => ⟨.m0F, 0x28, .np, .l128, .wig, .rm, .any, none, .none, false, false⟩
  | .vmovapsY => ⟨.m0F, 0x28, .np, .l256, .wig, .rm, .any, none, .none, false, false⟩
  | .vmovapdX => ⟨.m0F, 0x28, .p66, .l128, .wig, .rm, .any, none, .none, false, false⟩
  | .vmovapdY => ⟨.m0F, 0x28, .p66, .l256, .wig, .rm, .any, none, .none, false, false⟩
  | .vmovapsXStore => ⟨.m0F, 0x29, .np, .l128, .wig, .mr, .any, none, .none, false, false⟩
  | .vmovapsYStore => ⟨.m0F, 0x29, .np, .l256, .wig, .mr, .any, none, .none, false, false⟩
  | .vmovapdXStore => ⟨.m0F, 0x29, .p66, .l128, .wig, .mr, .any, none, .none, false, false⟩
  | .vmovapdYStore => ⟨.m0F, 0x29, .p66, .l256, .wig, .mr, .any, none, .none, false, false⟩
  | .vcvtsi2ssR32 => ⟨.m0F, 0x2A, .pF3, .lig, .w0, .rvm, .any, none, .none, false, false⟩
  | .vcvtsi2ssR64 => ⟨.m0F, 0x2A, .pF3, .lig, .w1, .rvm, .any, none, .none, false, true⟩
  | .vcvtsi2sdR32 => ⟨.m0F, 0x2A, .pF2, .lig, .w0, .rvm, .any, none, .none, false, false⟩
  | .vcvtsi2sdR64 => ⟨.m0F, 0x2A, .pF2, .lig, .w1, .rvm, .any, none, .none, false, true⟩
  | .vcvttss2siR32 => ⟨.m0F, 0x2C, .pF3, .lig, .w0, .rm, .any, none, .none, false, false⟩
  | .vcvttss2siR64 => ⟨.m0F, 0x2C, .pF3, .lig, .w1, .rm, .any, none, .none, false, true⟩
  | .vcvttsd2siR32 => ⟨.m0F, 0x2C, .pF2, .lig, .w0, .rm, .any, none, .none, false, false⟩
  | .vcvttsd2siR64 => ⟨.m0F, 0x2C, .pF2, .lig, .w1, .rm, .any, none, .none, false, true⟩
  | .vcvtss2siR32 => ⟨.m0F, 0x2D, .pF3, .lig, .w0, .rm, .any, none, .none, false, false⟩
  | .vcvtss2siR64 => ⟨.m0F, 0x2D, .pF3, .lig, .w1, .rm, .any, none, .none, false, true⟩
  | .vcvtsd2siR32 => ⟨.m0F, 0x2D, .pF2, .lig, .w0, .rm, .any, none, .none, false, false⟩
  | .vcvtsd2siR64 => ⟨.m0F, 0x2D, .pF2, .lig, .w1, .rm, .any, none, .none, false, true⟩
  | .vmovmskpsX => ⟨.m0F, 0x50, .np, .l128, .wig, .rm, .regOnly, none, .none, false, false⟩
  | .vmovmskpsY => ⟨.m0F, 0x50, .np, .l256, .wig, .rm, .regOnly, none, .none, false, false⟩
  | .vmovmskpdX => ⟨.m0F, 0x50, .p66, .l128, .wig, .rm, .regOnly, none, .none, false, false⟩
  | .vmovmskpdY => ⟨.m0F, 0x50, .p66, .l256, .wig, .rm, .regOnly, none, .none, false, false⟩
  | .vsqrtpsX => ⟨.m0F, 0x51, .np, .l128, .wig, .rm, .any, none, .none, false, false⟩
  | .vsqrtpsY => ⟨.m0F, 0x51, .np, .l256, .wig, .rm, .any, none, .none, false, false⟩
  | .vsqrtpdX => ⟨.m0F, 0x51, .p66, .l128, .wig, .rm, .any, none, .none, false, false⟩
  | .vsqrtpdY => ⟨.m0F, 0x51, .p66, .l256, .wig, .rm, .any, none, .none, false, false⟩
  | .vsqrtss => ⟨.m0F, 0x51, .pF3, .lig, .wig, .rvm, .any, none, .none, false, false⟩
  | .vsqrtsd => ⟨.m0F, 0x51, .pF2, .lig, .wig, .rvm, .any, none, .none, false, false⟩
  | .vrsqrtpsX => ⟨.m0F, 0x52, .np, .l128, .wig, .rm, .any, none, .none, false, false⟩
  | .vrsqrtpsY => ⟨.m0F, 0x52, .np, .l256, .wig, .rm, .any, none, .none, false, false⟩
  | .vrsqrtss => ⟨.m0F, 0x52, .pF3, .lig, .wig, .rvm, .any, none, .none, false, false⟩
  | .vrcppsX => ⟨.m0F, 0x53, .np, .l128, .wig, .rm, .any, none, .none, false, false⟩
  | .vrcppsY => ⟨.m0F, 0x53, .np, .l256, .wig, .rm, .any, none, .none, false, false⟩
  | .vrcpss => ⟨.m0F, 0x53, .pF3, .lig, .wig, .rvm, .any, none, .none, false, false⟩
  | .vandpsX => ⟨.m0F, 0x54, .np, .l128, .wig, .rvm, .any, none, .none, false, false⟩
  | .vandpsY => ⟨.m0F, 0x54, .np, .l256, .wig, .rvm, .any, none, .none, false, false⟩
  | .vandpdX => ⟨.m0F, 0x54, .p66, .l128, .wig, .rvm, .any, none, .none, false, false⟩
  | .vandpdY => ⟨.m0F, 0x54, .p66, .l256, .wig, .rvm, .any, none, .none, false, false⟩
  | .vandnpsX => ⟨.m0F, 0x55, .np, .l128, .wig, .rvm, .any, none, .none, false, false⟩
  | .vandnpsY => ⟨.m0F, 0x55, .np, .l256, .wig, .rvm, .any, none, .none, false, false⟩
  | .vandnpdX => ⟨.m0F, 0x55, .p66, .l128, .wig, .rvm, .any, none, .none, false, false⟩
  | .vandnpdY => ⟨.m0F, 0x55, .p66, .l256, .wig, .rvm, .any, none, .none, false, false⟩
  | .vorpsX => ⟨.m0F, 0x56, .np, .l128, .wig, .rvm, .any, none, .none, false, false⟩
  | .vorpsY => ⟨.m0F, 0x56, .np, .l256, .wig, .rvm, .any, none, .none, false, false⟩
  | .vorpdX => ⟨.m0F, 0x56, .p66, .l128, .wig, .rvm, .any, none, .none, false, false⟩
  | .vorpdY => ⟨.m0F, 0x56, .p66, .l256, .wig, .rvm, .any, none, .none, false, false⟩
  | .vxorpsX => ⟨.m0F, 0x57, .np, .l128, .wig, .rvm, .any, none, .none, false, false⟩
  | .vxorpsY => ⟨.m0F, 0x57, .np, .l256, .wig, .rvm, .any, none, .none, false, false⟩
  | .vxorpdX => ⟨.m0F, 0x57, .p66, .l128, .wig, .rvm, .any, none, .none, false, false⟩
  | .vxorpdY => ⟨.m0F, 0x57, .p66, .l256, .wig, .rvm, .any, none, .none, false, false⟩
  | .vaddpsX => ⟨.m0F, 0x58, .np, .l128, .wig, .rvm, .any, none, .none, false, false⟩
  | .vaddpsY => ⟨.m0F, 0x58, .np, .l256, .wig, .rvm, .any, none, .none, false, false⟩
  | .vaddpdX => ⟨.m0F, 0x58, .p66, .l128, .wig, .rvm, .any, none, .none, false, false⟩
  | .vaddpdY => ⟨.m0F, 0x58, .p66, .l256, .wig, .rvm, .any, none, .none, false, false⟩
  | .vaddss => ⟨.m0F, 0x58, .pF3, .lig, .wig, .rvm, .any, none, .none, false, false⟩
  | .vaddsd => ⟨.m0F, 0x58, .pF2, .lig, .wig, .rvm, .any, none, .none, false, false⟩
  | .vmulpsX => ⟨.m0F, 0x59, .np, .l128, .wig, .rvm, .any, none, .none, false, false⟩
  | .vmulpsY => ⟨.m0F, 0x59, .np, .l256, .wig, .rvm, .any, none, .none, false, false⟩
  | .vmulpdX => ⟨.m0F, 0x59, .p66, .l128, .wig, .rvm, .any, none, .none, false, false⟩
  | .vmulpdY => ⟨.m0F, 0x59, .p66, .l256, .wig, .rvm, .any, none, .none, false, false⟩
  | .vmulss => ⟨.m0F, 0x59, .pF3, .lig, .wig, .rvm, .any, none, .none, false, false⟩
  | .vmulsd => ⟨.m0F, 0x59, .pF2, .lig, .wig, .rvm, .any, none, .none, false, false⟩
  | .vcvtps2pdX => ⟨.m0F, 0x5A, .np, .l128, .wig, .rm, .any, none, .none, false, false⟩
  | .vcvtps2pdY => ⟨.m0F, 0x5A, .np, .l256, .wig, .rm, .any, none, .none, false, false⟩
  | .vcvtpd2psX => ⟨.m0F, 0x5A, .p66, .l128, .wig, .rm, .any, none, .none, false, false⟩
  | .vcvtpd2psY => ⟨.m0F, 0x5A, .p66, .l256, .wig, .rm, .any, none, .none, false, false⟩
  | .vcvtss2sd => ⟨.m0F, 0x5A, .pF3, .lig, .wig, .rvm, .any, none, .none, false, false⟩
  | .vcvtsd2ss => ⟨.m0F, 0x5A, .pF2, .lig, .wig, .rvm, .any, none, .none, false, false⟩
  | .vcvtdq2psX => ⟨.m0F, 0x5B, .np, .l128, .wig, .rm, .any, none, .none, false, false⟩
  | .vcvtdq2psY => ⟨.m0F, 0x5B, .np, .l256, .wig, .rm, .any, none, .none, false, false⟩
  | .vcvtps2dqX => ⟨.m0F, 0x5B, .p66, .l128, .wig, .rm, .any, none, .none, false, false⟩
  | .vcvtps2dqY => ⟨.m0F, 0x5B, .p66, .l256, .wig, .rm, .any, none, .none, false, false⟩
  | .vcvttps2dqX => ⟨.m0F, 0x5B, .pF3, .l128, .wig, .rm, .any, none, .none, false, false⟩
  | .vcvttps2dqY => ⟨.m0F, 0x5B, .pF3, .l256, .wig, .rm, .any, none, .none, false, false⟩
  | .vsubpsX => ⟨.m0F, 0x5C, .np, .l128, .wig, .rvm, .any, none, .none, false, false⟩
  | .vsubpsY => ⟨.m0F, 0x5C, .np, .l256, .wig, .rvm, .any, none, .none, false, false⟩
  | .vsubpdX => ⟨.m0F, 0x5C, .p66, .l128, .wig, .rvm, .any, none, .none, false, false⟩
  | .vsubpdY => ⟨.m0F, 0x5C, .p66, .l256, .wig, .rvm, .any, none, .none, false, false⟩
  | .vsubss => ⟨.m0F, 0x5C, .pF3, .lig, .wig, .rvm, .any, none, .none, false, false⟩
  | .vsubsd => ⟨.m0F, 0x5C, .pF2, .lig, .wig, .rvm, .any, none, .none, false, false⟩
  | .vminpsX => ⟨.m0F, 0x5D, .np, .l128, .wig, .rvm, .any, none, .none, false, false⟩
  | .vminpsY => ⟨.m0F, 0x5D, .np, .l256, .wig, .rvm, .any, none, .none, false, false⟩
  | .vminpdX => ⟨.m0F, 0x5D, .p66, .l128, .wig, .rvm, .any, none, .none, false, false⟩
  | .vminpdY => ⟨.m0F, 0x5D, .p66, .l256, .wig, .rvm, .any, none, .none, false, false⟩
  | .vminss => ⟨.m0F, 0x5D, .pF3, .lig, .wig, .rvm, .any, none, .none, false, false⟩
  | .vminsd => ⟨.m0F, 0x5D, .pF2, .lig, .wig, .rvm, .any, none, .none, false, false⟩
  | .vdivpsX => ⟨.m0F, 0x5E, .np, .l128, .wig, .rvm, .any, none, .none, false, false⟩
  | .vdivpsY => ⟨.m0F, 0x5E, .np, .l256, .wig, .rvm, .any, none, .none, false, false⟩
  | .vdivpdX => ⟨.m0F, 0x5E, .p66, .l128, .wig, .rvm, .any, none, .none, false, false⟩
  | .vdivpdY => ⟨.m0F, 0x5E, .p66, .l256, .wig, .rvm, .any, none, .none, false, false⟩
  | .vdivss => ⟨.m0F, 0x5E, .pF3, .lig, .wig, .rvm, .any, none, .none, false, false⟩
  | .vdivsd => ⟨.m0F, 0x5E, .pF2, .lig, .wig, .rvm, .any, none, .none, false, false⟩
  | .vmaxpsX => ⟨.m0F, 0x5F, .np, .l128, .wig, .rvm, .any, none, .none, false, false⟩
  | .vmaxpsY => ⟨.m0F, 0x5F, .np, .l256, .wig, .rvm, .any, none, .none, false, false⟩
  | .vmaxpdX => ⟨.m0F, 0x5F, .p66, .l128, .wig, .rvm, .any, none, .none, false, false⟩
  | .vmaxpdY => ⟨.m0F, 0x5F, .p66, .l256, .wig, .rvm, .any, none, .none, false, false⟩
  | .vmaxss => ⟨.m0F, 0x5F, .pF3, .lig, .wig, .rvm, .any, none, .none, false, false⟩
  | .vmaxsd => ⟨.m0F, 0x5F, .pF2, .lig, .wig, .rvm, .any, none, .none, false, false⟩
  | .vpunpcklbw => ⟨.m0F, 0x60, .p66, .l128, .wig, .rvm, .any, none, .none, false, false⟩
  | .vpunpcklwd => ⟨.m0F, 0x61, .p66, .l128, .wig, .rvm, .any, none, .none, false, false⟩
  | .vpunpckldq => ⟨.m0F, 0x62, .p66, .l128, .wig, .rvm, .any, none, .none, false, false⟩
  | .vpacksswb => ⟨.m0F, 0x63, .p66, .l128, .wig, .rvm, .any, none, .none, false, false⟩
  | .vpcmpgtb => ⟨.m0F, 0x64, .p66, .l128, .wig, .rvm, .any, none, .none, false, false⟩
  | .vpcmpgtw => ⟨.m0F, 0x65, .p66, .l128, .wig, .rvm, .any, none, .none, false, false⟩
  | .vpcmpgtd => ⟨.m0F, 0x66, .p66, .l128, .wig, .rvm, .any, none, .none, false, false⟩
  | .vpackuswb => ⟨.m0F, 0x67, .p66, .l128, .wig, .rvm, .any, none, .none, false, false⟩
  | .vpunpckhbw => ⟨.m0F, 0x68, .p66, .l128, .wig, .rvm, .any, none, .none, false, false⟩
  | .vpunpckhwd => ⟨.m0F, 0x69, .p66, .l128, .wig, .rvm, .any, none, .none, false, false⟩
  | .vpunpckhdq => ⟨.m0F, 0x6A, .p66, .l128, .wig, .rvm, .any, none, .none, false, false⟩
  | .vpackssdw => ⟨.m0F, 0x6B, .p66, .l128, .wig, .rvm, .any, none, .none, false, false⟩
  | .vpunpcklqdq => ⟨.m0F, 0x6C, .p66, .l128, .wig, .rvm, .any, none, .none, false, false⟩
  | .vpunpckhqdq => ⟨.m0F, 0x6D, .p66, .l128, .wig, .rvm, .any, none, .none, false, false⟩
  | .vmovdqaX => ⟨.m0F, 0x6F, .p66, .l128, .wig, .rm, .any, none, .none, false, false⟩
  | .vmovdqaY => ⟨.m0F, 0x6F, .p66, .l256, .wig, .rm, .any, none, .none, false, false⟩
  | .vmovdquX => ⟨.m0F, 0x6F, .pF3, .l128, .wig, .rm, .any, none, .none, false, false⟩
  | .vmovdquY => ⟨.m0F, 0x6F, .pF3, .l256, .wig, .rm, .any, none, .none, false, false⟩
  | .vpshufd => ⟨.m0F, 0x70, .p66, .l128, .wig, .rmi, .any, none, .ib, false, false⟩
  | .vpshufhw => ⟨.m0F, 0x70, .pF3, .l128, .wig, .rmi, .any, none, .ib, false, false⟩
  | .vpshuflw => ⟨.m0F, 0x70, .pF2, .l128, .wig, .rmi, .any, none, .ib, false, false⟩
  | .vpsrlwImm => ⟨.m0F, 0x71, .p66, .l128, .wig, .vmi, .regOnly, (some 2), .ib, false, false⟩
  | .vpsrawImm => ⟨.m0F, 0x71, .p66, .l128, .wig, .vmi, .regOnly, (some 4), .ib, false, false⟩
  | .vpsllwImm => ⟨.m0F, 0x71, .p66, .l128, .wig, .vmi, .regOnly, (some 6), .ib, false, false⟩
  | .vpsrldImm => ⟨.m0F, 0x72, .p66, .l128, .wig, .vmi, .regOnly, (some 2), .ib, false, false⟩
  | .vpsradImm => ⟨.m0F, 0x72, .p66, .l128, .wig, .vmi, .regOnly, (some 4), .ib, false, false⟩
  | .vpslldImm => ⟨.m0F, 0x72, .p66, .l128, .wig, .vmi, .regOnly, (some 6), .ib, false, false⟩
  | .vpsrlqImm => ⟨.m0F, 0x73, .p66, .l128, .wig, .vmi, .regOnly, (some 2), .ib, false, false⟩
  | .vpsrldq => ⟨.m0F, 0x73, .p66, .l128, .wig, .vmi, .regOnly, (some 3), .ib, false, false⟩
  | .vpsllqImm => ⟨.m0F, 0x73, .p66, .l128, .wig, .vmi, .regOnly, (some 6), .ib, false, false⟩
  | .vpslldq => ⟨.m0F, 0x73, .p66, .l128, .wig, .vmi, .regOnly, (some 7), .ib, false, false⟩
  | .vpcmpeqb => ⟨.m0F, 0x74, .p66, .l128, .wig, .rvm, .any, none, .none, false, false⟩
  | .vpcmpeqw => ⟨.m0F, 0x75, .p66, .l128, .wig, .rvm, .any, none, .none, false, false⟩
  | .vpcmpeqd => ⟨.m0F, 0x76, .p66, .l128, .wig, .rvm, .any, none, .none, false, false⟩
  | .vzeroupper => ⟨.m0F, 0x77, .np, .l128, .wig, .none, .any, none, .none, false, false⟩
  | .vzeroall => ⟨.m0F, 0x77, .np, .l256, .wig, .none, .any, none, .none, false, false⟩
  | .vhaddpdX => ⟨.m0F, 0x7C, .p66, .l128, .wig, .rvm, .any, none, .none, false, false⟩
  | .vhaddpdY => ⟨.m0F, 0x7C, .p66, .l256, .wig, .rvm, .any, none, .none, false, false⟩
  | .vhaddpsX => ⟨.m0F, 0x7C, .pF2, .l128, .wig, .rvm, .any, none, .none, false, false⟩
  | .vhaddpsY => ⟨.m0F, 0x7C, .pF2, .l256, .wig, .rvm, .any, none, .none, false, false⟩
  | .vhsubpdX => ⟨.m0F, 0x7D, .p66, .l128, .wig, .rvm, .any, none, .none, false, false⟩
  | .vhsubpdY => ⟨.m0F, 0x7D, .p66, .l256, .wig, .rvm, .any, none, .none, false, false⟩
  | .vhsubpsX => ⟨.m0F, 0x7D, .pF2, .l128, .wig, .rvm, .any, none, .none, false, false⟩
  | .vhsubpsY => ⟨.m0F, 0x7D, .pF2, .l256, .wig, .rvm, .any, none, .none, false, false⟩
  | .vmovdqaXStore => ⟨.m0F, 0x7F, .p66, .l128, .wig, .mr, .any, none, .none, false, false⟩
  | .vmovdqaYStore => ⟨.m0F, 0x7F, .p66, .l256, .wig, .mr, .any, none, .none, false, false⟩
  | .vmovdquXStore => ⟨.m0F, 0x7F, .pF3, .l128, .wig, .mr, .any, none, .none, false, false⟩
  | .vmovdquYStore => ⟨.m0F, 0x7F, .pF3, .l256, .wig, .mr, .any, none, .none, false, false⟩
  | .vldmxcsr => ⟨.m0F, 0xAE, .np, .lz, .wig, .m, .memOnly, (some 2), .none, false, false⟩
  | .vstmxcsr => ⟨.m0F, 0xAE, .np, .lz, .wig, .m, .memOnly, (some 3), .none, false, false⟩
  | .vcmppsX => ⟨.m0F, 0xC2, .np, .l128, .wig, .rvmi, .any, none, .ib, false, false⟩
  | .vcmppsY => ⟨.m0F, 0xC2, .np, .l256, .wig, .rvmi, .any, none, .ib, false, false⟩
  | .vcmppdX => ⟨.m0F, 0xC2, .p66, .l128, .wig, .rvmi, .any, none, .ib, false, false⟩
  | .vcmppdY => ⟨.m0F, 0xC2, .p66, .l256, .wig, .rvmi, .any, none, .ib, false, false⟩
  | .vcmpss => ⟨.m0F, 0xC2, .pF3, .lig, .wig, .rvmi, .any, none, .ib, false, false⟩
  | .vcmpsd => ⟨.m0F, 0xC2, .pF2, .lig, .wig, .rvmi, .any, none, .ib, false, false⟩
  | .vpinsrw => ⟨.m0F, 0xC4, .p66, .l128, .w0, .rvmi, .any, none, .ib, false, false⟩
  | .vshufpsX => ⟨.m0F, 0xC6, .np, .l128, .wig, .rvmi, .any, none, .ib, false, false⟩
  | .vshufpsY => ⟨.m0F, 0xC6, .np, .l256, .wig, .rvmi, .any, none, .ib, false, false⟩
  | .vshufpdX => ⟨.m0F, 0xC6, .p66, .l128, .wig, .rvmi, .any, none, .ib, false, false⟩
  | .vshufpdY => ⟨.m0F, 0xC6, .p66, .l256, .wig, .rvmi, .any, none, .ib, false, false⟩
  | .vaddsubpdX => ⟨.m0F, 0xD0, .p66, .l128, .wig, .rvm, .any, none, .none, false, false⟩
  | .vaddsubpdY => ⟨.m0F, 0xD0, .p66, .l256, .wig, .rvm, .any, none, .none, false, false⟩
  | .vaddsubpsX => ⟨.m0F, 0xD0, .pF2, .l128, .wig, .rvm, .any, none, .none, false, false⟩
  | .vaddsubpsY => ⟨.m0F, 0xD0, .pF2, .l256, .wig, .rvm, .any, none, .none, false, false⟩
  | .vpsrlw => ⟨.m0F, 0xD1, .p66, .l128, .wig, .rvm, .any, none, .none, false, false⟩
  | .vpsrld => ⟨.m0F, 0xD2, .p66, .l128, .wig, .rvm, .any, none, .none, false, false⟩
  | .vpsrlq => ⟨.m0F, 0xD3, .p66, .l128, .wig, .rvm, .any, none, .none, false, false⟩
  | .vpaddq => ⟨.m0F, 0xD4, .p66, .l128, .wig, .rvm, .any, none, .none, false, false⟩
  | .vpmullw => ⟨.m0F, 0xD5, .p66, .l128, .wig, .rvm, .any, none, .none, false, false⟩
  | .vpsubusb => ⟨.m0F, 0xD8, .p66, .l128, .wig, .rvm, .any, none, .none, false, false⟩
  | .vpsubusw => ⟨.m0F, 0xD9, .p66, .l128, .wig, .rvm, .any, none, .none, false, false⟩
  | .vpminub => ⟨.m0F, 0xDA, .p66, .l128, .wig, .rvm, .any, none, .none, false, false⟩
  | .vpand => ⟨.m0F, 0xDB, .p66, .l128, .wig, .rvm, .any, none, .none, false, false⟩
  | .vpaddusb => ⟨.m0F, 0xDC, .p66, .l128, .wig, .rvm, .any, none, .none, false, false⟩
  | .vpaddusw => ⟨.m0F, 0xDD, .p66, .l128, .wig, .rvm, .any, none, .none, false, false⟩
  | .vpmaxub => ⟨.m0F, 0xDE, .p66, .l128, .wig, .rvm, .any, none, .none, false, false⟩
  | .vpandn => ⟨.m0F, 0xDF, .p66, .l128, .wig, .rvm, .any, none, .none, false, false⟩
  | .vpavgb => ⟨.m0F, 0xE0, .p66, .l128, .wig, .rvm, .any, none, .none, false, false⟩
  | .vpsraw => ⟨.m0F, 0xE1, .p66, .l128, .wig, .rvm, .any, none, .none, false, false⟩
  | .vpsrad => ⟨.m0F, 0xE2, .p66, .l128, .wig, .rvm, .any, none, .none, false, false⟩
  | .vpavgw => ⟨.m0F, 0xE3, .p66, .l128, .wig, .rvm, .any, none, .none, false, false⟩
  | .vpmulhuw => ⟨.m0F, 0xE4, .p66, .l128, .wig, .rvm, .any, none, .none, false, false⟩
  | .vpmulhw => ⟨.m0F, 0xE5, .p66, .l128, .wig, .rvm, .any, none, .none, false, false⟩
  | .vcvttpd2dqX => ⟨.m0F, 0xE6, .p66, .l128, .wig, .rm, .any, none, .none, false, false⟩
  | .vcvttpd2dqY => ⟨.m0F, 0xE6, .p66, .l256, .wig, .rm, .any, none, .none, false, false⟩
  | .vcvtdq2pdX => ⟨.m0F, 0xE6, .pF3, .l128, .wig, .rm, .any, none, .none, false, false⟩
  | .vcvtdq2pdY => ⟨.m0F, 0xE6, .pF3, .l256, .wig, .rm, .any, none, .none, false, false⟩
  | .vcvtpd2dqX => ⟨.m0F, 0xE6, .pF2, .l128, .wig, .rm, .any, none, .none, false, false⟩
  | .vcvtpd2dqY => ⟨.m0F, 0xE6, .pF2, .l256, .wig, .rm, .any, none, .none, false, false⟩
  | .vpsubsb => ⟨.m0F, 0xE8, .p66, .l128, .wig, .rvm, .any, none, .none, false, false⟩
  | .vpsubsw => ⟨.m0F, 0xE9, .p66, .l128, .wig, .rvm, .any, none, .none, false, false⟩
  | .vpminsw => ⟨.m0F, 0xEA, .p66, .l128, .wig, .rvm, .any, none, .none, false, false⟩
  | .vpor => ⟨.m0F, 0xEB, .p66, .l128, .wig, .rvm, .any, none, .none, false, false⟩
  | .vpaddsb => ⟨.m0F, 0xEC, .p66, .l128, .wig, .rvm, .any, none, .none, false, false⟩
  | .vpaddsw => ⟨.m0F, 0xED, .p66, .l128, .wig, .rvm, .any, none, .none, false, false⟩
  | .vpmaxsw => ⟨.m0F, 0xEE, .p66, .l128, .wig, .rvm, .any, none, .none, false, false⟩
  | .vpxor => ⟨.m0F, 0xEF, .p66, .l128, .wig, .rvm, .any, none, .none, false, false⟩
  | .vlddquX => ⟨.m0F, 0xF0, .pF2, .l128, .wig, .rm, .memOnly, none, .none, false, false⟩
  | .vlddquY => ⟨.m0F, 0xF0, .pF2, .l256, .wig, .rm, .memOnly, none, .none, false, false⟩
  | .vpsllw => ⟨.m0F, 0xF1, .p66, .l128, .wig, .rvm, .any, none, .none, false, false⟩
  | .vpslld => ⟨.m0F, 0xF2, .p66, .l128, .wig, .rvm, .any, none, .none, false, false⟩
  | .vpsllq => ⟨.m0F, 0xF3, .p66, .l128, .wig, .rvm, .any, none, .none, false, false⟩
  | .vpmuludq => ⟨.m0F, 0xF4, .p66, .l128, .wig, .rvm, .any, none, .none, false, false⟩
  | .vpmaddwd => ⟨.m0F, 0xF5, .p66, .l128, .wig, .rvm, .any, none, .none, false, false⟩
  | .vpsadbw => ⟨.m0F, 0xF6, .p66, .l128, .wig, .rvm, .any, none, .none, false, false⟩
  | .vpsubb => ⟨.m0F, 0xF8, .p66, .l128, .wig, .rvm, .any, none, .none, false, false⟩
  | .vpsubw => ⟨.m0F, 0xF9, .p66, .l128, .wig, .rvm, .any, none, .none, false, false⟩
  | .vpsubd => ⟨.m0F, 0xFA, .p66, .l128, .wig, .rvm, .any, none, .none, false, false⟩
  | .vpsubq => ⟨.m0F, 0xFB, .p66, .l128, .wig, .rvm, .any, none, .none, false, false⟩
  | .vpaddb => ⟨.m0F, 0xFC, .p66, .l128, .wig, .rvm, .any, none, .none, false, false⟩
  | .vpaddw => ⟨.m0F, 0xFD, .p66, .l128, .wig, .rvm, .any, none, .none, false, false⟩
  | .vpaddd => ⟨.m0F, 0xFE, .p66, .l128, .wig, .rvm, .any, none, .none, false, false⟩
  | .vpshufb => ⟨.m0F38, 0x00, .p66, .l128, .wig, .rvm, .any, none, .none, false, false⟩
  | .vphaddw => ⟨.m0F38, 0x01, .p66, .l128, .wig, .rvm, .any, none, .none, false, false⟩
  | .vphaddd => ⟨.m0F38, 0x02, .p66, .l128, .wig, .rvm, .any, none, .none, false, false⟩
  | .vphaddsw => ⟨.m0F38, 0x03, .p66, .l128, .wig, .rvm, .any, none, .none, false, false⟩
  | .vpmaddubsw => ⟨.m0F38, 0x04, .p66, .l128, .wig, .rvm, .any, none, .none, false, false⟩
  | .vphsubw => ⟨.m0F38, 0x05, .p66, .l128, .wig, .rvm, .any, none, .none, false, false⟩
  | .vphsubd => ⟨.m0F38, 0x06, .p66, .l128, .wig, .rvm, .any, none, .none, false, false⟩
  | .vphsubsw => ⟨.m0F38, 0x07, .p66, .l128, .wig, .rvm, .any, none, .none, false, false⟩
  | .vpsignb => ⟨.m0F38, 0x08, .p66, .l128, .wig, .rvm, .any, none, .none, false, false⟩
  | .vpsignw => ⟨.m0F38, 0x09, .p66, .l128, .wig, .rvm, .any, none, .none, false, false⟩
  | .vpsignd => ⟨.m0F38, 0x0A, .p66, .l128, .wig, .rvm, .any, none, .none, false, false⟩
  | .vpmulhrsw => ⟨.m0F38, 0x0B, .p66, .l128, .wig, .rvm, .any, none, .none, false, false⟩
  | .vpermilpsX => ⟨.m0F38, 0x0C, .p66, .l128, .w0, .rvm, .any, none, .none, false, false⟩
  | .vpermilpsY => ⟨.m0F38, 0x0C, .p66, .l256, .w0, .rvm, .any, none, .none, false, false⟩
  | .vpermilpdX => ⟨.m0F38, 0x0D, .p66, .l128, .w0, .rvm, .any, none, .none, false, false⟩
  | .vpermilpdY => ⟨.m0F38, 0x0D, .p66, .l256, .w0, .rvm, .any, none, .none, false, false⟩
  | .vtestpsX => ⟨.m0F38, 0x0E, .p66, .l128, .w0, .rm, .any, none, .none, false, false⟩
  | .vtestpsY => ⟨.m0F38, 0x0E, .p66, .l256, .w0, .rm, .any, none, .none, false, false⟩
  | .vtestpdX => ⟨.m0F38, 0x0F, .p66, .l128, .w0, .rm, .any, none, .none, false, false⟩
  | .vtestpdY => ⟨.m0F38, 0x0F, .p66, .l256, .w0, .rm, .any, none, .none, false, false⟩
  | .vptestX => ⟨.m0F38, 0x17, .p66, .l128, .wig, .rm, .any, none, .none, false, false⟩
  | .vptestY => ⟨.m0F38, 0x17, .p66, .l256, .wig, .rm, .any, none, .none, false, false⟩
  | .vbroadcastssX => ⟨.m0F38, 0x18, .p66, .l128, .w0, .rm, .memOnly, none, .none, false, false⟩
  | .vbroadcastssY => ⟨.m0F38, 0x18, .p66, .l256, .w0, .rm, .memOnly, none, .none, false, false⟩
  | .vbroadcastsd => ⟨.m0F38, 0x19, .p66, .l256, .w0, .rm, .memOnly, none, .none, false, false⟩
  | .vbroadcastf128 => ⟨.m0F38, 0x1A, .p66, .l256, .w0, .rm, .memOnly, none, .none, false, false⟩
  | .vpmuldq => ⟨.m0F38, 0x28, .p66, .l128, .wig, .rvm, .any, none, .none, false, false⟩
  | .vpcmpeqq => ⟨.m0F38, 0x29, .p66, .l128, .wig, .rvm, .any, none, .none, false, false⟩
  | .vpackusdw => ⟨.m0F38, 0x2B, .p66, .l128, .wig, .rvm, .any, none, .none, false, false⟩
  | .vmaskmovpsXLoad => ⟨.m0F38, 0x2C, .p66, .l128, .w0, .rvm, .memOnly, none, .none, false, false⟩
  | .vmaskmovpsYLoad => ⟨.m0F38, 0x2C, .p66, .l256, .w0, .rvm, .memOnly, none, .none, false, false⟩
  | .vmaskmovpdXLoad => ⟨.m0F38, 0x2D, .p66, .l128, .w0, .rvm, .memOnly, none, .none, false, false⟩
  | .vmaskmovpdYLoad => ⟨.m0F38, 0x2D, .p66, .l256, .w0, .rvm, .memOnly, none, .none, false, false⟩
  | .vmaskmovpsXStore => ⟨.m0F38, 0x2E, .p66, .l128, .w0, .mvr, .memOnly, none, .none, false, false⟩
  | .vmaskmovpsYStore => ⟨.m0F38, 0x2E, .p66, .l256, .w0, .mvr, .memOnly, none, .none, false, false⟩
  | .vmaskmovpdXStore => ⟨.m0F38, 0x2F, .p66, .l128, .w0, .mvr, .memOnly, none, .none, false, false⟩
  | .vmaskmovpdYStore => ⟨.m0F38, 0x2F, .p66, .l256, .w0, .mvr, .memOnly, none, .none, false, false⟩
  | .vpcmpgtq => ⟨.m0F38, 0x37, .p66, .l128, .wig, .rvm, .any, none, .none, false, false⟩
  | .vpminsb => ⟨.m0F38, 0x38, .p66, .l128, .wig, .rvm, .any, none, .none, false, false⟩
  | .vpminsd => ⟨.m0F38, 0x39, .p66, .l128, .wig, .rvm, .any, none, .none, false, false⟩
  | .vpminuw => ⟨.m0F38, 0x3A, .p66, .l128, .wig, .rvm, .any, none, .none, false, false⟩
  | .vpminud => ⟨.m0F38, 0x3B, .p66, .l128, .wig, .rvm, .any, none, .none, false, false⟩
  | .vpmaxsb => ⟨.m0F38, 0x3C, .p66, .l128, .wig, .rvm, .any, none, .none, false, false⟩
  | .vpmaxsd => ⟨.m0F38, 0x3D, .p66, .l128, .wig, .rvm, .any, none, .none, false, false⟩
  | .vpmaxuw => ⟨.m0F38, 0x3E, .p66, .l128, .wig, .rvm, .any, none, .none, false, false⟩
  | .vpmaxud => ⟨.m0F38, 0x3F, .p66, .l128, .wig, .rvm, .any, none, .none, false, false⟩
  | .vpmulld => ⟨.m0F38, 0x40, .p66, .l128, .wig, .rvm, .any, none, .none, false, false⟩
  | .aesimc => ⟨.m0F38, 0xDB, .p66, .leg, .wig, .legRm, .any, none, .none, false, false⟩
  | .vaesimc => ⟨.m0F38, 0xDB, .p66, .l128, .wig, .rm, .any, none, .none, false, false⟩
  | .aesenc => ⟨.m0F38, 0xDC, .p66, .leg, .wig, .legRm, .any, none, .none, false, false⟩
  | .vaesenc => ⟨.m0F38, 0xDC, .p66, .l128, .wig, .rvm, .any, none, .none, false, false⟩
  | .aesenclast => ⟨.m0F38, 0xDD, .p66, .leg, .wig, .legRm, .any, none, .none, false, false⟩
  | .vaesenclast => ⟨.m0F38, 0xDD, .p66, .l128, .wig, .rvm, .any, none, .none, false, false⟩
  | .aesdec => ⟨.m0F38, 0xDE, .p66, .leg, .wig, .legRm, .any, none, .none, false, false⟩
  | .vaesdec => ⟨.m0F38, 0xDE, .p66, .l128, .wig, .rvm, .any, none, .none, false, false⟩
  | .aesdeclast => ⟨.m0F38, 0xDF, .p66, .leg, .wig, .legRm, .any, none, .none, false, false⟩
  | .vaesdeclast => ⟨.m0F38, 0xDF, .p66, .l128, .wig, .rvm, .any, none, .none, false, false⟩
  | .vpermilpsXImm => ⟨.m0F3A, 0x04, .p66, .l128, .w0, .rmi, .any, none, .ib, false, false⟩
  | .vpermilpsYImm => ⟨.m0F3A, 0x04, .p66, .l256, .w0, .rmi, .any, none, .ib, false, false⟩
  | .vpermilpdXImm => ⟨.m0F3A, 0x05, .p66, .l128, .w0, .rmi, .any, none, .ib, false, false⟩
  | .vpermilpdYImm => ⟨.m0F3A, 0x05, .p66, .l256, .w0, .rmi, .any, none, .ib, false, false⟩
  | .vperm2f128 => ⟨.m0F3A, 0x06, .p66, .l256, .w0, .rvmi, .any, none, .ib, false, false⟩
  | .vroundpsX => ⟨.m0F3A, 0x08, .p66, .l128, .wig, .rmi, .any, none, .ib, false, false⟩
  | .vroundpsY => ⟨.m0F3A, 0x08, .p66, .l256, .wig, .rmi, .any, none, .ib, false, false⟩
  | .vroundpdX => ⟨.m0F3A, 0x09, .p66, .l128, .wig, .rmi, .any, none, .ib, false, false⟩
  | .vroundpdY => ⟨.m0F3A, 0x09, .p66, .l256, .wig, .rmi, .any, none, .ib, false, false⟩
  | .vroundss => ⟨.m0F3A, 0x0A, .p66, .lig, .wig, .rvmi, .any, none, .ib, false, false⟩
  | .vroundsd => ⟨.m0F3A, 0x0B, .p66, .lig, .wig, .rvmi, .any, none, .ib, false, false⟩
  | .vblendpsX => ⟨.m0F3A, 0x0C, .p66, .l128, .wig, .rvmi, .any, none, .ib, false, false⟩
  | .vblendpsY => ⟨.m0F3A, 0x0C, .p66, .l256, .wig, .rvmi, .any, none, .ib, false, false⟩
  | .vblendpdX => ⟨.m0F3A, 0x0D, .p66, .l128, .wig, .rvmi, .any, none, .ib, false, false⟩
  | .vblendpdY => ⟨.m0F3A, 0x0D, .p66, .l256, .wig, .rvmi, .any, none, .ib, false, false⟩
  | .vpblendw => ⟨.m0F3A, 0x0E, .p66, .l128, .wig, .rvmi, .any, none, .ib, false, false⟩
  | .vpalignr => ⟨.m0F3A, 0x0F, .p66, .l128, .wig, .rvmi, .any, none, .ib, false, false⟩
  | .vinsertf128 => ⟨.m0F3A, 0x18, .p66, .l256, .w0, .rvmi, .any, none, .ib, false, false⟩
  | .vextractf128 => ⟨.m0F3A, 0x19, .p66, .l256, .w0, .mri, .any, none, .ib, false, false⟩
  | .vpinsrb => ⟨.m0F3A, 0x20, .p66, .l128, .w0, .rvmi, .any, none, .ib, false, false⟩
  | .vinsertps => ⟨.m0F3A, 0x21, .p66, .l128, .wig, .rvmi, .any, none, .ib, false, false⟩
  | .vpinsrd => ⟨.m0F3A, 0x22, .p66, .l128, .w0, .rvmi, .any, none, .ib, false, false⟩
  | .vpinsrq => ⟨.m0F3A, 0x22, .p66, .l128, .w1, .rvmi, .any, none, .ib, false, true⟩
  | .vdppsX => ⟨.m0F3A, 0x40, .p66, .l128, .wig, .rvmi, .any, none, .ib, false, false⟩
  | .vdppsY => ⟨.m0F3A, 0x40, .p66, .l256, .wig, .rvmi, .any, none, .ib, false, false⟩
  | .vdppd => ⟨.m0F3A, 0x41, .p66, .l128, .wig, .rvmi, .any, none, .ib, false, false⟩
  | .vmpsadbw => ⟨.m0F3A, 0x42, .p66, .l128, .wig, .rvmi, .any, none, .ib, false, false⟩
  | .pclmulqdq => ⟨.m0F3A, 0x44, .p66, .leg, .wig, .legRmi, .any, none, .ib, false, false⟩
  | .vpclmulqdq => ⟨.m0F3A, 0x44, .p66, .l128, .wig, .rvmi, .any, none, .ib, false, false⟩
  | .vpermil2psX => ⟨.m0F3A, 0x48, .p66, .l128, .w0, .rvmr5, .any, none, .is4, true, false⟩
  | .vpermil2psXW1 => ⟨.m0F3A, 0x48, .p66, .l128, .w1, .rvrm5, .any, none, .is4, true, false⟩
  | .vpermil2psY => ⟨.m0F3A, 0x48, .p66, .l256, .w0, .rvmr5, .any, none, .is4, true, false⟩
  | .vpermil2psYW1 => ⟨.m0F3A, 0x48, .p66, .l256, .w1, .rvrm5, .any, none, .is4, true, false⟩
  | .vpermil2pdX => ⟨.m0F3A, 0x49, .p66, .l128, .w0, .rvmr5, .any, none, .is4, true, false⟩
  | .vpermil2pdXW1 => ⟨.m0F3A, 0x49, .p66, .l128, .w1, .rvrm5, .any, none, .is4, true, false⟩
  | .vpermil2pdY => ⟨.m0F3A, 0x49, .p66, .l256, .w0, .rvmr5, .any, none, .is4, true, false⟩
  | .vpermil2pdYW1 => ⟨.m0F3A, 0x49, .p66, .l256, .w1, .rvrm5, .any, none, .is4, true, false⟩
  | .vblendvpsX => ⟨.m0F3A, 0x4A, .p66, .l128, .w0, .rvmr, .any, none, .is4, false, false⟩
  | .vblendvpsY => ⟨.m0F3A, 0x4A, .p66, .l256, .w0, .rvmr, .any, none, .is4, false, false⟩
  | .vblendvpdX => ⟨.m0F3A, 0x4B, .p66, .l128, .w0, .rvmr, .any, none, .is4, false, false⟩
  | .vblendvpdY => ⟨.m0F3A, 0x4B, .p66, .l256, .w0, .rvmr, .any, none, .is4, false, false⟩
  | .vpblendvb => ⟨.m0F3A, 0x4C, .p66, .l128, .w0, .rvmr, .any, none, .is4, false, false⟩
  | .vfmaddsubpsX => ⟨.m0F3A, 0x5C, .p66, .l128, .w0, .rvmr, .any, none, .is4, true, false⟩
  | .vfmaddsubpsXW1 => ⟨.m0F3A, 0x5C, .p66, .l128, .w1, .rvrm, .any, none, .is4, true, false⟩
  | .vfmaddsubpsY => ⟨.m0F3A, 0x5C, .p66, .l256, .w0, .rvmr, .any, none, .is4, true, false⟩
  | .vfmaddsubpsYW1 => ⟨.m0F3A, 0x5C, .p66, .l256, .w1, .rvrm, .any, none, .is4, true, false⟩
  | .vfmaddsubpdX => ⟨.m0F3A, 0x5D, .p66, .l128, .w0, .rvmr, .any, none, .is4, true, false⟩
  | .vfmaddsubpdXW1 => ⟨.m0F3A, 0x5D, .p66, .l128, .w1, .rvrm, .any, none, .is4, true, false⟩
  | .vfmaddsubpdY => ⟨.m0F3A, 0x5D, .p66, .l256, .w0, .rvmr, .any, none, .is4, true, false⟩
  | .vfmaddsubpdYW1 => ⟨.m0F3A, 0x5D, .p66, .l256, .w1, .rvrm, .any, none, .is4, true, false⟩
  | .vfmsubaddpsX => ⟨.m0F3A, 0x5E, .p66, .l128, .w0, .rvmr, .any, none, .is4, true, false⟩
  | .vfmsubaddpsXW1 => ⟨.m0F3A, 0x5E, .p66, .l128, .w1, .rvrm, .any, none, .is4, true, false⟩
  | .vfmsubaddpsY => ⟨.m0F3A, 0x5E, .p66, .l256, .w0, .rvmr, .any, none, .is4, true, false⟩
  | .vfmsubaddpsYW1 => ⟨.m0F3A, 0x5E, .p66, .l256, .w1, .rvrm, .any, none, .is4, true, false⟩
  | .vfmsubaddpdX => ⟨.m0F3A, 0x5F, .p66, .l128, .w0, .rvmr, .any, none, .is4, true, false⟩
  | .vfmsubaddpdXW1 => ⟨.m0F3A, 0x5F, .p66, .l128, .w1, .rvrm, .any, none, .is4, true, false⟩
  | .vfmsubaddpdY => ⟨.m0F3A, 0x5F, .p66, .l256, .w0, .rvmr, .any, none, .is4, true, false⟩
  | .vfmsubaddpdYW1 => ⟨.m0F3A, 0x5F, .p66, .l256, .w1, .rvrm, .any, none, .is4, true, false⟩
  | .vfmaddpsX => ⟨.m0F3A, 0x68, .p66, .l128, .w0, .rvmr, .any, none, .is4, true, false⟩
  | .vfmaddpsXW1 => ⟨.m0F3A, 0x68, .p66, .l128, .w1, .rvrm, .any, none, .is4, true, false⟩
  | .vfmaddpsY => ⟨.m0F3A, 0x68, .p66, .l256, .w0, .rvmr, .any, none, .is4, true, false⟩
  | .vfmaddpsYW1 => ⟨.m0F3A, 0x68, .p66, .l256, .w1, .rvrm, .any, none, .is4, true, false⟩
  | .vfmaddpdX => ⟨.m0F3A, 0x69, .p66, .l128, .w0, .rvmr, .any, none, .is4, true, false⟩
  | .vfmaddpdXW1 => ⟨.m0F3A, 0x69, .p66, .l128, .w1, .rvrm, .any, none, .is4, true, false⟩
  | .vfmaddpdY => ⟨.m0F3A, 0x69, .p66, .l256, .w0, .rvmr, .any, none, .is4, true, false⟩
  | .vfmaddpdYW1 => ⟨.m0F3A, 0x69, .p66, .l256, .w1, .rvrm, .any, none, .is4, true, false⟩
  | .vfmaddss => ⟨.m0F3A, 0x6A, .p66, .lig, .w0, .rvmr, .any, none, .is4, true, false⟩
  | .vfmaddssW1 => ⟨.m0F3A, 0x6A, .p66, .lig, .w1, .rvrm, .any, none, .is4, true, false⟩
  | .vfmaddsd => ⟨.m0F3A, 0x6B, .p66, .lig, .w0, .rvmr, .any, none, .is4, true, false⟩
  | .vfmaddsdW1 => ⟨.m0F3A, 0x6B, .p66, .lig, .w1, .rvrm, .any, none, .is4, true, false⟩
  | .vfmsubpsX => ⟨.m0F3A, 0x6C, .p66, .l128, .w0, .rvmr, .any, none, .is4, true, false⟩
  | .vfmsubpsXW1 => ⟨.m0F3A, 0x6C, .p66, .l128, .w1, .rvrm, .any, none, .is4, true, false⟩
  | .vfmsubpsY => ⟨.m0F3A, 0x6C, .p66, .l256, .w0, .rvmr, .any, none, .is4, true, false⟩
  | .vfmsubpsYW1 => ⟨.m0F3A, 0x6C, .p66, .l256, .w1, .rvrm, .any, none, .is4, true, false⟩
  | .vfmsubpdX => ⟨.m0F3A, 0x6D, .p66, .l128, .w0, .rvmr, .any, none, .is4, true, false⟩
  | .vfmsubpdXW1 => ⟨.m0F3A, 0x6D, .p66, .l128, .w1, .rvrm, .any, none, .is4, true, false⟩
  | .vfmsubpdY => ⟨.m0F3A, 0x6D, .p66, .l256, .w0, .rvmr, .any, none, .is4, true, false⟩
  | .vfmsubpdYW1 => ⟨.m0F3A, 0x6D, .p66, .l256, .w1, .rvrm, .any, none, .is4, true, false⟩
  | .vfmsubss => ⟨.m0F3A, 0x6E, .p66, .lig, .w0, .rvmr, .any, none, .is4, true, false⟩
  | .vfmsubssW1 => ⟨.m0F3A, 0x6E, .p66, .lig, .w1, .rvrm, .any, none, .is4, true, false⟩
  | .vfmsubsd => ⟨.m0F3A, 0x6F, .p66, .lig, .w0, .rvmr, .any, none, .is4, true, false⟩
  | .vfmsubsdW1 => ⟨.m0F3A, 0x6F, .p66, .lig, .w1, .rvrm, .any, none, .is4, true, false⟩
  | .vfnmaddpsX => ⟨.m0F3A, 0x78, .p66, .l128, .w0, .rvmr, .any, none, .is4, true, false⟩
  | .vfnmaddpsXW1 => ⟨.m0F3A, 0x78, .p66, .l128, .w1, .rvrm, .any, none, .is4, true, false⟩
  | .vfnmaddpsY => ⟨.m0F3A, 0x78, .p66, .l256, .w0, .rvmr, .any, none, .is4, true, false⟩
  | .vfnmaddpsYW1 => ⟨.m0F3A, 0x78, .p66, .l256, .w1, .rvrm, .any, none, .is4, true, false⟩
  | .vfnmaddpdX => ⟨.m0F3A, 0x79, .p66, .l128, .w0, .rvmr, .any, none, .is4, true, false⟩
  | .vfnmaddpdXW1 => ⟨.m0F3A, 0x79, .p66, .l128, .w1, .rvrm, .any, none, .is4, true, false⟩
  | .vfnmaddpdY => ⟨.m0F3A, 0x79, .p66, .l256, .w0, .rvmr, .any, none, .is4, true, false⟩
  | .vfnmaddpdYW1 => ⟨.m0F3A, 0x79, .p66, .l256, .w1, .rvrm, .any, none, .is4, true, false⟩
  | .vfnmaddss => ⟨.m0F3A, 0x7A, .p66, .lig, .w0, .rvmr, .any, none, .is4, true, false⟩
  | .vfnmaddssW1 => ⟨.m0F3A, 0x7A, .p66, .lig, .w1, .rvrm, .any, none, .is4, true, false⟩
  | .vfnmaddsd => ⟨.m0F3A, 0x7B, .p66, .lig, .w0, .rvmr, .any, none, .is4, true, false⟩
  | .vfnmaddsdW1 => ⟨.m0F3A, 0x7B, .p66, .lig, .w1, .rvrm, .any, none, .is4, true, false⟩
  | .vfnmsubpsX => ⟨.m0F3A, 0x7C, .p66, .l128, .w0, .rvmr, .any, none, .is4, true, false⟩
  | .vfnmsubpsXW1 => ⟨.m0F3A, 0x7C, .p66, .l128, .w1, .rvrm, .any, none, .is4, true, false⟩
  | .vfnmsubpsY => ⟨.m0F3A, 0x7C, .p66, .l256, .w0, .rvmr, .any, none, .is4, true, false⟩
  | .vfnmsubpsYW1 => ⟨.m0F3A, 0x7C, .p66, .l256, .w1, .rvrm, .any, none, .is4, true, false⟩
  | .vfnmsubpdX => ⟨.m0F3A, 0x7D, .p66, .l128, .w0, .rvmr, .any, none, .is4, true, false⟩
  | .vfnmsubpdXW1 => ⟨.m0F3A, 0x7D, .p66, .l128, .w1, .rvrm, .any, none, .is4, true, false⟩
  | .vfnmsubpdY => ⟨.m0F3A, 0x7D, .p66, .l256, .w0, .rvmr, .any, none, .is4, true, false⟩
  | .vfnmsubpdYW1 => ⟨.m0F3A, 0x7D, .p66, .l256, .w1, .rvrm, .any, none, .is4, true, false⟩
  | .vfnmsubss => ⟨.m0F3A, 0x7E, .p66, .lig, .w0, .rvmr, .any, none, .is4, true, false⟩
  | .vfnmsubssW1 => ⟨.m0F3A, 0x7E, .p66, .lig, .w1, .rvrm, .any, none, .is4, true, false⟩
  | .vfnmsubsd => ⟨.m0F3A, 0x7F, .p66, .lig, .w0, .rvmr, .any, none, .is4, true, false⟩
  | .vfnmsubsdW1 => ⟨.m0F3A, 0x7F, .p66, .lig, .w1, .rvrm, .any, none, .is4, true, false⟩
  | .aeskeygenassist => ⟨.m0F3A, 0xDF, .p66, .leg, .wig, .legRmi, .any, none, .ib, false, false⟩
  | .vaeskeygenassist => ⟨.m0F3A, 0xDF, .p66, .l128, .wig, .rmi, .any, none, .ib, false, false⟩

/-- The instruction a row makes of the operand fields of its bytes. (Lean's runtime has no tags for so many constructors:
what builds an `Instr` is evaluated by the kernel, not compiled; log 28.) -/
noncomputable def Form.build (f : Form) (o : Operands) : Instr :=
  match f with
  | .vmovupsX => .vmovupsX o.reg o.rm
  | .vmovupsY => .vmovupsY o.reg o.rm
  | .vmovupdX => .vmovupdX o.reg o.rm
  | .vmovupdY => .vmovupdY o.reg o.rm
  | .vmovssReg => .vmovssReg o.reg o.v o.rm.theReg
  | .vmovssLoad => .vmovssLoad o.reg o.rm.theMem
  | .vmovsdReg => .vmovsdReg o.reg o.v o.rm.theReg
  | .vmovsdLoad => .vmovsdLoad o.reg o.rm.theMem
  | .vmovupsXStore => .vmovupsXStore o.rm o.reg
  | .vmovupsYStore => .vmovupsYStore o.rm o.reg
  | .vmovupdXStore => .vmovupdXStore o.rm o.reg
  | .vmovupdYStore => .vmovupdYStore o.rm o.reg
  | .vmovssStore => .vmovssStore o.rm.theMem o.reg
  | .vmovssReg2 => .vmovssReg2 o.rm.theReg o.v o.reg
  | .vmovsdStore => .vmovsdStore o.rm.theMem o.reg
  | .vmovsdReg2 => .vmovsdReg2 o.rm.theReg o.v o.reg
  | .vmovhlps => .vmovhlps o.reg o.v o.rm.theReg
  | .vmovlpsLoad => .vmovlpsLoad o.reg o.v o.rm.theMem
  | .vmovlpdLoad => .vmovlpdLoad o.reg o.v o.rm.theMem
  | .vmovsldupX => .vmovsldupX o.reg o.rm
  | .vmovsldupY => .vmovsldupY o.reg o.rm
  | .vmovddupX => .vmovddupX o.reg o.rm
  | .vmovddupY => .vmovddupY o.reg o.rm
  | .vmovlpsStore => .vmovlpsStore o.rm.theMem o.reg
  | .vmovlpdStore => .vmovlpdStore o.rm.theMem o.reg
  | .vunpcklpsX => .vunpcklpsX o.reg o.v o.rm
  | .vunpcklpsY => .vunpcklpsY o.reg o.v o.rm
  | .vunpcklpdX => .vunpcklpdX o.reg o.v o.rm
  | .vunpcklpdY => .vunpcklpdY o.reg o.v o.rm
  | .vunpckhpsX => .vunpckhpsX o.reg o.v o.rm
  | .vunpckhpsY => .vunpckhpsY o.reg o.v o.rm
  | .vunpckhpdX => .vunpckhpdX o.reg o.v o.rm
  | .vunpckhpdY => .vunpckhpdY o.reg o.v o.rm
  | .vmovlhps => .vmovlhps o.reg o.v o.rm.theReg
  | .vmovhpsLoad => .vmovhpsLoad o.reg o.v o.rm.theMem
  | .vmovhpdLoad => .vmovhpdLoad o.reg o.v o.rm.theMem
  | .vmovshdupX => .vmovshdupX o.reg o.rm
  | .vmovshdupY => .vmovshdupY o.reg o.rm
  | .vmovhpsStore => .vmovhpsStore o.rm.theMem o.reg
  | .vmovhpdStore => .vmovhpdStore o.rm.theMem o.reg
  | .vmovapsX => .vmovapsX o.reg o.rm
  | .vmovapsY => .vmovapsY o.reg o.rm
  | .vmovapdX => .vmovapdX o.reg o.rm
  | .vmovapdY => .vmovapdY o.reg o.rm
  | .vmovapsXStore => .vmovapsXStore o.rm o.reg
  | .vmovapsYStore => .vmovapsYStore o.rm o.reg
  | .vmovapdXStore => .vmovapdXStore o.rm o.reg
  | .vmovapdYStore => .vmovapdYStore o.rm o.reg
  | .vcvtsi2ssR32 => .vcvtsi2ssR32 o.reg o.v o.rm
  | .vcvtsi2ssR64 => .vcvtsi2ssR64 o.reg o.v o.rm
  | .vcvtsi2sdR32 => .vcvtsi2sdR32 o.reg o.v o.rm
  | .vcvtsi2sdR64 => .vcvtsi2sdR64 o.reg o.v o.rm
  | .vcvttss2siR32 => .vcvttss2siR32 o.reg o.rm
  | .vcvttss2siR64 => .vcvttss2siR64 o.reg o.rm
  | .vcvttsd2siR32 => .vcvttsd2siR32 o.reg o.rm
  | .vcvttsd2siR64 => .vcvttsd2siR64 o.reg o.rm
  | .vcvtss2siR32 => .vcvtss2siR32 o.reg o.rm
  | .vcvtss2siR64 => .vcvtss2siR64 o.reg o.rm
  | .vcvtsd2siR32 => .vcvtsd2siR32 o.reg o.rm
  | .vcvtsd2siR64 => .vcvtsd2siR64 o.reg o.rm
  | .vmovmskpsX => .vmovmskpsX o.reg o.rm.theReg
  | .vmovmskpsY => .vmovmskpsY o.reg o.rm.theReg
  | .vmovmskpdX => .vmovmskpdX o.reg o.rm.theReg
  | .vmovmskpdY => .vmovmskpdY o.reg o.rm.theReg
  | .vsqrtpsX => .vsqrtpsX o.reg o.rm
  | .vsqrtpsY => .vsqrtpsY o.reg o.rm
  | .vsqrtpdX => .vsqrtpdX o.reg o.rm
  | .vsqrtpdY => .vsqrtpdY o.reg o.rm
  | .vsqrtss => .vsqrtss o.reg o.v o.rm
  | .vsqrtsd => .vsqrtsd o.reg o.v o.rm
  | .vrsqrtpsX => .vrsqrtpsX o.reg o.rm
  | .vrsqrtpsY => .vrsqrtpsY o.reg o.rm
  | .vrsqrtss => .vrsqrtss o.reg o.v o.rm
  | .vrcppsX => .vrcppsX o.reg o.rm
  | .vrcppsY => .vrcppsY o.reg o.rm
  | .vrcpss => .vrcpss o.reg o.v o.rm
  | .vandpsX => .vandpsX o.reg o.v o.rm
  | .vandpsY => .vandpsY o.reg o.v o.rm
  | .vandpdX => .vandpdX o.reg o.v o.rm
  | .vandpdY => .vandpdY o.reg o.v o.rm
  | .vandnpsX => .vandnpsX o.reg o.v o.rm
  | .vandnpsY => .vandnpsY o.reg o.v o.rm
  | .vandnpdX => .vandnpdX o.reg o.v o.rm
  | .vandnpdY => .vandnpdY o.reg o.v o.rm
  | .vorpsX => .vorpsX o.reg o.v o.rm
  | .vorpsY => .vorpsY o.reg o.v o.rm
  | .vorpdX => .vorpdX o.reg o.v o.rm
  | .vorpdY => .vorpdY o.reg o.v o.rm
  | .vxorpsX => .vxorpsX o.reg o.v o.rm
  | .vxorpsY => .vxorpsY o.reg o.v o.rm
  | .vxorpdX => .vxorpdX o.reg o.v o.rm
  | .vxorpdY => .vxorpdY o.reg o.v o.rm
  | .vaddpsX => .vaddpsX o.reg o.v o.rm
  | .vaddpsY => .vaddpsY o.reg o.v o.rm
  | .vaddpdX => .vaddpdX o.reg o.v o.rm
  | .vaddpdY => .vaddpdY o.reg o.v o.rm
  | .vaddss => .vaddss o.reg o.v o.rm
  | .vaddsd => .vaddsd o.reg o.v o.rm
  | .vmulpsX => .vmulpsX o.reg o.v o.rm
  | .vmulpsY => .vmulpsY o.reg o.v o.rm
  | .vmulpdX => .vmulpdX o.reg o.v o.rm
  | .vmulpdY => .vmulpdY o.reg o.v o.rm
  | .vmulss => .vmulss o.reg o.v o.rm
  | .vmulsd => .vmulsd o.reg o.v o.rm
  | .vcvtps2pdX => .vcvtps2pdX o.reg o.rm
  | .vcvtps2pdY => .vcvtps2pdY o.reg o.rm
  | .vcvtpd2psX => .vcvtpd2psX o.reg o.rm
  | .vcvtpd2psY => .vcvtpd2psY o.reg o.rm
  | .vcvtss2sd => .vcvtss2sd o.reg o.v o.rm
  | .vcvtsd2ss => .vcvtsd2ss o.reg o.v o.rm
  | .vcvtdq2psX => .vcvtdq2psX o.reg o.rm
  | .vcvtdq2psY => .vcvtdq2psY o.reg o.rm
  | .vcvtps2dqX => .vcvtps2dqX o.reg o.rm
  | .vcvtps2dqY => .vcvtps2dqY o.reg o.rm
  | .vcvttps2dqX => .vcvttps2dqX o.reg o.rm
  | .vcvttps2dqY => .vcvttps2dqY o.reg o.rm
  | .vsubpsX => .vsubpsX o.reg o.v o.rm
  | .vsubpsY => .vsubpsY o.reg o.v o.rm
  | .vsubpdX => .vsubpdX o.reg o.v o.rm
  | .vsubpdY => .vsubpdY o.reg o.v o.rm
  | .vsubss => .vsubss o.reg o.v o.rm
  | .vsubsd => .vsubsd o.reg o.v o.rm
  | .vminpsX => .vminpsX o.reg o.v o.rm
  | .vminpsY => .vminpsY o.reg o.v o.rm
  | .vminpdX => .vminpdX o.reg o.v o.rm
  | .vminpdY => .vminpdY o.reg o.v o.rm
  | .vminss => .vminss o.reg o.v o.rm
  | .vminsd => .vminsd o.reg o.v o.rm
  | .vdivpsX => .vdivpsX o.reg o.v o.rm
  | .vdivpsY => .vdivpsY o.reg o.v o.rm
  | .vdivpdX => .vdivpdX o.reg o.v o.rm
  | .vdivpdY => .vdivpdY o.reg o.v o.rm
  | .vdivss => .vdivss o.reg o.v o.rm
  | .vdivsd => .vdivsd o.reg o.v o.rm
  | .vmaxpsX => .vmaxpsX o.reg o.v o.rm
  | .vmaxpsY => .vmaxpsY o.reg o.v o.rm
  | .vmaxpdX => .vmaxpdX o.reg o.v o.rm
  | .vmaxpdY => .vmaxpdY o.reg o.v o.rm
  | .vmaxss => .vmaxss o.reg o.v o.rm
  | .vmaxsd => .vmaxsd o.reg o.v o.rm
  | .vpunpcklbw => .vpunpcklbw o.reg o.v o.rm
  | .vpunpcklwd => .vpunpcklwd o.reg o.v o.rm
  | .vpunpckldq => .vpunpckldq o.reg o.v o.rm
  | .vpacksswb => .vpacksswb o.reg o.v o.rm
  | .vpcmpgtb => .vpcmpgtb o.reg o.v o.rm
  | .vpcmpgtw => .vpcmpgtw o.reg o.v o.rm
  | .vpcmpgtd => .vpcmpgtd o.reg o.v o.rm
  | .vpackuswb => .vpackuswb o.reg o.v o.rm
  | .vpunpckhbw => .vpunpckhbw o.reg o.v o.rm
  | .vpunpckhwd => .vpunpckhwd o.reg o.v o.rm
  | .vpunpckhdq => .vpunpckhdq o.reg o.v o.rm
  | .vpackssdw => .vpackssdw o.reg o.v o.rm
  | .vpunpcklqdq => .vpunpcklqdq o.reg o.v o.rm
  | .vpunpckhqdq => .vpunpckhqdq o.reg o.v o.rm
  | .vmovdqaX => .vmovdqaX o.reg o.rm
  | .vmovdqaY => .vmovdqaY o.reg o.rm
  | .vmovdquX => .vmovdquX o.reg o.rm
  | .vmovdquY => .vmovdquY o.reg o.rm
  | .vpshufd => .vpshufd o.reg o.rm o.imm
  | .vpshufhw => .vpshufhw o.reg o.rm o.imm
  | .vpshuflw => .vpshuflw o.reg o.rm o.imm
  | .vpsrlwImm => .vpsrlwImm o.v o.rm.theReg o.imm
  | .vpsrawImm => .vpsrawImm o.v o.rm.theReg o.imm
  | .vpsllwImm => .vpsllwImm o.v o.rm.theReg o.imm
  | .vpsrldImm => .vpsrldImm o.v o.rm.theReg o.imm
  | .vpsradImm => .vpsradImm o.v o.rm.theReg o.imm
  | .vpslldImm => .vpslldImm o.v o.rm.theReg o.imm
  | .vpsrlqImm => .vpsrlqImm o.v o.rm.theReg o.imm
  | .vpsrldq => .vpsrldq o.v o.rm.theReg o.imm
  | .vpsllqImm => .vpsllqImm o.v o.rm.theReg o.imm
  | .vpslldq => .vpslldq o.v o.rm.theReg o.imm
  | .vpcmpeqb => .vpcmpeqb o.reg o.v o.rm
  | .vpcmpeqw => .vpcmpeqw o.reg o.v o.rm
  | .vpcmpeqd => .vpcmpeqd o.reg o.v o.rm
  | .vzeroupper => .vzeroupper
  | .vzeroall => .vzeroall
  | .vhaddpdX => .vhaddpdX o.reg o.v o.rm
  | .vhaddpdY => .vhaddpdY o.reg o.v o.rm
  | .vhaddpsX => .vhaddpsX o.reg o.v o.rm
  | .vhaddpsY => .vhaddpsY o.reg o.v o.rm
  | .vhsubpdX => .vhsubpdX o.reg o.v o.rm
  | .vhsubpdY => .vhsubpdY o.reg o.v o.rm
  | .vhsubpsX => .vhsubpsX o.reg o.v o.rm
  | .vhsubpsY => .vhsubpsY o.reg o.v o.rm
  | .vmovdqaXStore => .vmovdqaXStore o.rm o.reg
  | .vmovdqaYStore => .vmovdqaYStore o.rm o.reg
  | .vmovdquXStore => .vmovdquXStore o.rm o.reg
  | .vmovdquYStore => .vmovdquYStore o.rm o.reg
  | .vldmxcsr => .vldmxcsr o.rm.theMem
  | .vstmxcsr => .vstmxcsr o.rm.theMem
  | .vcmppsX => .vcmppsX o.reg o.v o.rm o.imm
  | .vcmppsY => .vcmppsY o.reg o.v o.rm o.imm
  | .vcmppdX => .vcmppdX o.reg o.v o.rm o.imm
  | .vcmppdY => .vcmppdY o.reg o.v o.rm o.imm
  | .vcmpss => .vcmpss o.reg o.v o.rm o.imm
  | .vcmpsd => .vcmpsd o.reg o.v o.rm o.imm
  | .vpinsrw => .vpinsrw o.reg o.v o.rm o.imm
  | .vshufpsX => .vshufpsX o.reg o.v o.rm o.imm
  | .vshufpsY => .vshufpsY o.reg o.v o.rm o.imm
  | .vshufpdX => .vshufpdX o.reg o.v o.rm o.imm
  | .vshufpdY => .vshufpdY o.reg o.v o.rm o.imm
  | .vaddsubpdX => .vaddsubpdX o.reg o.v o.rm
  | .vaddsubpdY => .vaddsubpdY o.reg o.v o.rm
  | .vaddsubpsX => .vaddsubpsX o.reg o.v o.rm
  | .vaddsubpsY => .vaddsubpsY o.reg o.v o.rm
  | .vpsrlw => .vpsrlw o.reg o.v o.rm
  | .vpsrld => .vpsrld o.reg o.v o.rm
  | .vpsrlq => .vpsrlq o.reg o.v o.rm
  | .vpaddq => .vpaddq o.reg o.v o.rm
  | .vpmullw => .vpmullw o.reg o.v o.rm
  | .vpsubusb => .vpsubusb o.reg o.v o.rm
  | .vpsubusw => .vpsubusw o.reg o.v o.rm
  | .vpminub => .vpminub o.reg o.v o.rm
  | .vpand => .vpand o.reg o.v o.rm
  | .vpaddusb => .vpaddusb o.reg o.v o.rm
  | .vpaddusw => .vpaddusw o.reg o.v o.rm
  | .vpmaxub => .vpmaxub o.reg o.v o.rm
  | .vpandn => .vpandn o.reg o.v o.rm
  | .vpavgb => .vpavgb o.reg o.v o.rm
  | .vpsraw => .vpsraw o.reg o.v o.rm
  | .vpsrad => .vpsrad o.reg o.v o.rm
  | .vpavgw => .vpavgw o.reg o.v o.rm
  | .vpmulhuw => .vpmulhuw o.reg o.v o.rm
  | .vpmulhw => .vpmulhw o.reg o.v o.rm
  | .vcvttpd2dqX => .vcvttpd2dqX o.reg o.rm
  | .vcvttpd2dqY => .vcvttpd2dqY o.reg o.rm
  | .vcvtdq2pdX => .vcvtdq2pdX o.reg o.rm
  | .vcvtdq2pdY => .vcvtdq2pdY o.reg o.rm
  | .vcvtpd2dqX => .vcvtpd2dqX o.reg o.rm
  | .vcvtpd2dqY => .vcvtpd2dqY o.reg o.rm
  | .vpsubsb => .vpsubsb o.reg o.v o.rm
  | .vpsubsw => .vpsubsw o.reg o.v o.rm
  | .vpminsw => .vpminsw o.reg o.v o.rm
  | .vpor => .vpor o.reg o.v o.rm
  | .vpaddsb => .vpaddsb o.reg o.v o.rm
  | .vpaddsw => .vpaddsw o.reg o.v o.rm
  | .vpmaxsw => .vpmaxsw o.reg o.v o.rm
  | .vpxor => .vpxor o.reg o.v o.rm
  | .vlddquX => .vlddquX o.reg o.rm.theMem
  | .vlddquY => .vlddquY o.reg o.rm.theMem
  | .vpsllw => .vpsllw o.reg o.v o.rm
  | .vpslld => .vpslld o.reg o.v o.rm
  | .vpsllq => .vpsllq o.reg o.v o.rm
  | .vpmuludq => .vpmuludq o.reg o.v o.rm
  | .vpmaddwd => .vpmaddwd o.reg o.v o.rm
  | .vpsadbw => .vpsadbw o.reg o.v o.rm
  | .vpsubb => .vpsubb o.reg o.v o.rm
  | .vpsubw => .vpsubw o.reg o.v o.rm
  | .vpsubd => .vpsubd o.reg o.v o.rm
  | .vpsubq => .vpsubq o.reg o.v o.rm
  | .vpaddb => .vpaddb o.reg o.v o.rm
  | .vpaddw => .vpaddw o.reg o.v o.rm
  | .vpaddd => .vpaddd o.reg o.v o.rm
  | .vpshufb => .vpshufb o.reg o.v o.rm
  | .vphaddw => .vphaddw o.reg o.v o.rm
  | .vphaddd => .vphaddd o.reg o.v o.rm
  | .vphaddsw => .vphaddsw o.reg o.v o.rm
  | .vpmaddubsw => .vpmaddubsw o.reg o.v o.rm
  | .vphsubw => .vphsubw o.reg o.v o.rm
  | .vphsubd => .vphsubd o.reg o.v o.rm
  | .vphsubsw => .vphsubsw o.reg o.v o.rm
  | .vpsignb => .vpsignb o.reg o.v o.rm
  | .vpsignw => .vpsignw o.reg o.v o.rm
  | .vpsignd => .vpsignd o.reg o.v o.rm
  | .vpmulhrsw => .vpmulhrsw o.reg o.v o.rm
  | .vpermilpsX => .vpermilpsX o.reg o.v o.rm
  | .vpermilpsY => .vpermilpsY o.reg o.v o.rm
  | .vpermilpdX => .vpermilpdX o.reg o.v o.rm
  | .vpermilpdY => .vpermilpdY o.reg o.v o.rm
  | .vtestpsX => .vtestpsX o.reg o.rm
  | .vtestpsY => .vtestpsY o.reg o.rm
  | .vtestpdX => .vtestpdX o.reg o.rm
  | .vtestpdY => .vtestpdY o.reg o.rm
  | .vptestX => .vptestX o.reg o.rm
  | .vptestY => .vptestY o.reg o.rm
  | .vbroadcastssX => .vbroadcastssX o.reg o.rm.theMem
  | .vbroadcastssY => .vbroadcastssY o.reg o.rm.theMem
  | .vbroadcastsd => .vbroadcastsd o.reg o.rm.theMem
  | .vbroadcastf128 => .vbroadcastf128 o.reg o.rm.theMem
  | .vpmuldq => .vpmuldq o.reg o.v o.rm
  | .vpcmpeqq => .vpcmpeqq o.reg o.v o.rm
  | .vpackusdw => .vpackusdw o.reg o.v o.rm
  | .vmaskmovpsXLoad => .vmaskmovpsXLoad o.reg o.v o.rm.theMem
  | .vmaskmovpsYLoad => .vmaskmovpsYLoad o.reg o.v o.rm.theMem
  | .vmaskmovpdXLoad => .vmaskmovpdXLoad o.reg o.v o.rm.theMem
  | .vmaskmovpdYLoad => .vmaskmovpdYLoad o.reg o.v o.rm.theMem
  | .vmaskmovpsXStore => .vmaskmovpsXStore o.rm.theMem o.v o.reg
  | .vmaskmovpsYStore => .vmaskmovpsYStore o.rm.theMem o.v o.reg
  | .vmaskmovpdXStore => .vmaskmovpdXStore o.rm.theMem o.v o.reg
  | .vmaskmovpdYStore => .vmaskmovpdYStore o.rm.theMem o.v o.reg
  | .vpcmpgtq => .vpcmpgtq o.reg o.v o.rm
  | .vpminsb => .vpminsb o.reg o.v o.rm
  | .vpminsd => .vpminsd o.reg o.v o.rm
  | .vpminuw => .vpminuw o.reg o.v o.rm
  | .vpminud => .vpminud o.reg o.v o.rm
  | .vpmaxsb => .vpmaxsb o.reg o.v o.rm
  | .vpmaxsd => .vpmaxsd o.reg o.v o.rm
  | .vpmaxuw => .vpmaxuw o.reg o.v o.rm
  | .vpmaxud => .vpmaxud o.reg o.v o.rm
  | .vpmulld => .vpmulld o.reg o.v o.rm
  | .aesimc => .aesimc o.reg o.rm
  | .vaesimc => .vaesimc o.reg o.rm
  | .aesenc => .aesenc o.reg o.rm
  | .vaesenc => .vaesenc o.reg o.v o.rm
  | .aesenclast => .aesenclast o.reg o.rm
  | .vaesenclast => .vaesenclast o.reg o.v o.rm
  | .aesdec => .aesdec o.reg o.rm
  | .vaesdec => .vaesdec o.reg o.v o.rm
  | .aesdeclast => .aesdeclast o.reg o.rm
  | .vaesdeclast => .vaesdeclast o.reg o.v o.rm
  | .vpermilpsXImm => .vpermilpsXImm o.reg o.rm o.imm
  | .vpermilpsYImm => .vpermilpsYImm o.reg o.rm o.imm
  | .vpermilpdXImm => .vpermilpdXImm o.reg o.rm o.imm
  | .vpermilpdYImm => .vpermilpdYImm o.reg o.rm o.imm
  | .vperm2f128 => .vperm2f128 o.reg o.v o.rm o.imm
  | .vroundpsX => .vroundpsX o.reg o.rm o.imm
  | .vroundpsY => .vroundpsY o.reg o.rm o.imm
  | .vroundpdX => .vroundpdX o.reg o.rm o.imm
  | .vroundpdY => .vroundpdY o.reg o.rm o.imm
  | .vroundss => .vroundss o.reg o.v o.rm o.imm
  | .vroundsd => .vroundsd o.reg o.v o.rm o.imm
  | .vblendpsX => .vblendpsX o.reg o.v o.rm o.imm
  | .vblendpsY => .vblendpsY o.reg o.v o.rm o.imm
  | .vblendpdX => .vblendpdX o.reg o.v o.rm o.imm
  | .vblendpdY => .vblendpdY o.reg o.v o.rm o.imm
  | .vpblendw => .vpblendw o.reg o.v o.rm o.imm
  | .vpalignr => .vpalignr o.reg o.v o.rm o.imm
  | .vinsertf128 => .vinsertf128 o.reg o.v o.rm o.imm
  | .vextractf128 => .vextractf128 o.rm o.reg o.imm
  | .vpinsrb => .vpinsrb o.reg o.v o.rm o.imm
  | .vinsertps => .vinsertps o.reg o.v o.rm o.imm
  | .vpinsrd => .vpinsrd o.reg o.v o.rm o.imm
  | .vpinsrq => .vpinsrq o.reg o.v o.rm o.imm
  | .vdppsX => .vdppsX o.reg o.v o.rm o.imm
  | .vdppsY => .vdppsY o.reg o.v o.rm o.imm
  | .vdppd => .vdppd o.reg o.v o.rm o.imm
  | .vmpsadbw => .vmpsadbw o.reg o.v o.rm o.imm
  | .pclmulqdq => .pclmulqdq o.reg o.rm o.imm
  | .vpclmulqdq => .vpclmulqdq o.reg o.v o.rm o.imm
  | .vpermil2psX => .vpermil2psX o.reg o.v o.rm o.is4 (o.imm.setWidth 2)
  | .vpermil2psXW1 => .vpermil2psXW1 o.reg o.v o.is4 o.rm (o.imm.setWidth 2)
  | .vpermil2psY => .vpermil2psY o.reg o.v o.rm o.is4 (o.imm.setWidth 2)
  | .vpermil2psYW1 => .vpermil2psYW1 o.reg o.v o.is4 o.rm (o.imm.setWidth 2)
  | .vpermil2pdX => .vpermil2pdX o.reg o.v o.rm o.is4 (o.imm.setWidth 2)
  | .vpermil2pdXW1 => .vpermil2pdXW1 o.reg o.v o.is4 o.rm (o.imm.setWidth 2)
  | .vpermil2pdY => .vpermil2pdY o.reg o.v o.rm o.is4 (o.imm.setWidth 2)
  | .vpermil2pdYW1 => .vpermil2pdYW1 o.reg o.v o.is4 o.rm (o.imm.setWidth 2)
  | .vblendvpsX => .vblendvpsX o.reg o.v o.rm o.is4
  | .vblendvpsY => .vblendvpsY o.reg o.v o.rm o.is4
  | .vblendvpdX => .vblendvpdX o.reg o.v o.rm o.is4
  | .vblendvpdY => .vblendvpdY o.reg o.v o.rm o.is4
  | .vpblendvb => .vpblendvb o.reg o.v o.rm o.is4
  | .vfmaddsubpsX => .vfmaddsubpsX o.reg o.v o.rm o.is4
  | .vfmaddsubpsXW1 => .vfmaddsubpsXW1 o.reg o.v o.is4 o.rm
  | .vfmaddsubpsY => .vfmaddsubpsY o.reg o.v o.rm o.is4
  | .vfmaddsubpsYW1 => .vfmaddsubpsYW1 o.reg o.v o.is4 o.rm
  | .vfmaddsubpdX => .vfmaddsubpdX o.reg o.v o.rm o.is4
  | .vfmaddsubpdXW1 => .vfmaddsubpdXW1 o.reg o.v o.is4 o.rm
  | .vfmaddsubpdY => .vfmaddsubpdY o.reg o.v o.rm o.is4
  | .vfmaddsubpdYW1 => .vfmaddsubpdYW1 o.reg o.v o.is4 o.rm
  | .vfmsubaddpsX => .vfmsubaddpsX o.reg o.v o.rm o.is4
  | .vfmsubaddpsXW1 => .vfmsubaddpsXW1 o.reg o.v o.is4 o.rm
  | .vfmsubaddpsY => .vfmsubaddpsY o.reg o.v o.rm o.is4
  | .vfmsubaddpsYW1 => .vfmsubaddpsYW1 o.reg o.v o.is4 o.rm
  | .vfmsubaddpdX => .vfmsubaddpdX o.reg o.v o.rm o.is4
  | .vfmsubaddpdXW1 => .vfmsubaddpdXW1 o.reg o.v o.is4 o.rm
  | .vfmsubaddpdY => .vfmsubaddpdY o.reg o.v o.rm o.is4
  | .vfmsubaddpdYW1 => .vfmsubaddpdYW1 o.reg o.v o.is4 o.rm
  | .vfmaddpsX => .vfmaddpsX o.reg o.v o.rm o.is4
  | .vfmaddpsXW1 => .vfmaddpsXW1 o.reg o.v o.is4 o.rm
  | .vfmaddpsY => .vfmaddpsY o.reg o.v o.rm o.is4
  | .vfmaddpsYW1 => .vfmaddpsYW1 o.reg o.v o.is4 o.rm
  | .vfmaddpdX => .vfmaddpdX o.reg o.v o.rm o.is4
  | .vfmaddpdXW1 => .vfmaddpdXW1 o.reg o.v o.is4 o.rm
  | .vfmaddpdY => .vfmaddpdY o.reg o.v o.rm o.is4
  | .vfmaddpdYW1 => .vfmaddpdYW1 o.reg o.v o.is4 o.rm
  | .vfmaddss => .vfmaddss o.reg o.v o.rm o.is4
  | .vfmaddssW1 => .vfmaddssW1 o.reg o.v o.is4 o.rm
  | .vfmaddsd => .vfmaddsd o.reg o.v o.rm o.is4
  | .vfmaddsdW1 => .vfmaddsdW1 o.reg o.v o.is4 o.rm
  | .vfmsubpsX => .vfmsubpsX o.reg o.v o.rm o.is4
  | .vfmsubpsXW1 => .vfmsubpsXW1 o.reg o.v o.is4 o.rm
  | .vfmsubpsY => .vfmsubpsY o.reg o.v o.rm o.is4
  | .vfmsubpsYW1 => .vfmsubpsYW1 o.reg o.v o.is4 o.rm
  | .vfmsubpdX => .vfmsubpdX o.reg o.v o.rm o.is4
  | .vfmsubpdXW1 => .vfmsubpdXW1 o.reg o.v o.is4 o.rm
  | .vfmsubpdY => .vfmsubpdY o.reg o.v o.rm o.is4
  | .vfmsubpdYW1 => .vfmsubpdYW1 o.reg o.v o.is4 o.rm
  | .vfmsubss => .vfmsubss o.reg o.v o.rm o.is4
  | .vfmsubssW1 => .vfmsubssW1 o.reg o.v o.is4 o.rm
  | .vfmsubsd => .vfmsubsd o.reg o.v o.rm o.is4
  | .vfmsubsdW1 => .vfmsubsdW1 o.reg o.v o.is4 o.rm
  | .vfnmaddpsX => .vfnmaddpsX o.reg o.v o.rm o.is4
  | .vfnmaddpsXW1 => .vfnmaddpsXW1 o.reg o.v o.is4 o.rm
  | .vfnmaddpsY => .vfnmaddpsY o.reg o.v o.rm o.is4
  | .vfnmaddpsYW1 => .vfnmaddpsYW1 o.reg o.v o.is4 o.rm
  | .vfnmaddpdX => .vfnmaddpdX o.reg o.v o.rm o.is4
  | .vfnmaddpdXW1 => .vfnmaddpdXW1 o.reg o.v o.is4 o.rm
  | .vfnmaddpdY => .vfnmaddpdY o.reg o.v o.rm o.is4
  | .vfnmaddpdYW1 => .vfnmaddpdYW1 o.reg o.v o.is4 o.rm
  | .vfnmaddss => .vfnmaddss o.reg o.v o.rm o.is4
  | .vfnmaddssW1 => .vfnmaddssW1 o.reg o.v o.is4 o.rm
  | .vfnmaddsd => .vfnmaddsd o.reg o.v o.rm o.is4
  | .vfnmaddsdW1 => .vfnmaddsdW1 o.reg o.v o.is4 o.rm
  | .vfnmsubpsX => .vfnmsubpsX o.reg o.v o.rm o.is4
  | .vfnmsubpsXW1 => .vfnmsubpsXW1 o.reg o.v o.is4 o.rm
  | .vfnmsubpsY => .vfnmsubpsY o.reg o.v o.rm o.is4
  | .vfnmsubpsYW1 => .vfnmsubpsYW1 o.reg o.v o.is4 o.rm
  | .vfnmsubpdX => .vfnmsubpdX o.reg o.v o.rm o.is4
  | .vfnmsubpdXW1 => .vfnmsubpdXW1 o.reg o.v o.is4 o.rm
  | .vfnmsubpdY => .vfnmsubpdY o.reg o.v o.rm o.is4
  | .vfnmsubpdYW1 => .vfnmsubpdYW1 o.reg o.v o.is4 o.rm
  | .vfnmsubss => .vfnmsubss o.reg o.v o.rm o.is4
  | .vfnmsubssW1 => .vfnmsubssW1 o.reg o.v o.is4 o.rm
  | .vfnmsubsd => .vfnmsubsd o.reg o.v o.rm o.is4
  | .vfnmsubsdW1 => .vfnmsubsdW1 o.reg o.v o.is4 o.rm
  | .aeskeygenassist => .aeskeygenassist o.reg o.rm o.imm
  | .vaeskeygenassist => .vaeskeygenassist o.reg o.rm o.imm

/-- The row of an instruction. -/
def Instr.form : Instr → Form
  | .vmovupsX .. => .vmovupsX
  | .vmovupsY .. => .vmovupsY
  | .vmovupdX .. => .vmovupdX
  | .vmovupdY .. => .vmovupdY
  | .vmovssReg .. => .vmovssReg
  | .vmovssLoad .. => .vmovssLoad
  | .vmovsdReg .. => .vmovsdReg
  | .vmovsdLoad .. => .vmovsdLoad
  | .vmovupsXStore .. => .vmovupsXStore
  | .vmovupsYStore .. => .vmovupsYStore
  | .vmovupdXStore .. => .vmovupdXStore
  | .vmovupdYStore .. => .vmovupdYStore
  | .vmovssStore .. => .vmovssStore
  | .vmovssReg2 .. => .vmovssReg2
  | .vmovsdStore .. => .vmovsdStore
  | .vmovsdReg2 .. => .vmovsdReg2
  | .vmovhlps .. => .vmovhlps
  | .vmovlpsLoad .. => .vmovlpsLoad
  | .vmovlpdLoad .. => .vmovlpdLoad
  | .vmovsldupX .. => .vmovsldupX
  | .vmovsldupY .. => .vmovsldupY
  | .vmovddupX .. => .vmovddupX
  | .vmovddupY .. => .vmovddupY
  | .vmovlpsStore .. => .vmovlpsStore
  | .vmovlpdStore .. => .vmovlpdStore
  | .vunpcklpsX .. => .vunpcklpsX
  | .vunpcklpsY .. => .vunpcklpsY
  | .vunpcklpdX .. => .vunpcklpdX
  | .vunpcklpdY .. => .vunpcklpdY
  | .vunpckhpsX .. => .vunpckhpsX
  | .vunpckhpsY .. => .vunpckhpsY
  | .vunpckhpdX .. => .vunpckhpdX
  | .vunpckhpdY .. => .vunpckhpdY
  | .vmovlhps .. => .vmovlhps
  | .vmovhpsLoad .. => .vmovhpsLoad
  | .vmovhpdLoad .. => .vmovhpdLoad
  | .vmovshdupX .. => .vmovshdupX
  | .vmovshdupY .. => .vmovshdupY
  | .vmovhpsStore .. => .vmovhpsStore
  | .vmovhpdStore .. => .vmovhpdStore
  | .vmovapsX .. => .vmovapsX
  | .vmovapsY .. => .vmovapsY
  | .vmovapdX .. => .vmovapdX
  | .vmovapdY .. => .vmovapdY
  | .vmovapsXStore .. => .vmovapsXStore
  | .vmovapsYStore .. => .vmovapsYStore
  | .vmovapdXStore .. => .vmovapdXStore
  | .vmovapdYStore .. => .vmovapdYStore
  | .vcvtsi2ssR32 .. => .vcvtsi2ssR32
  | .vcvtsi2ssR64 .. => .vcvtsi2ssR64
  | .vcvtsi2sdR32 .. => .vcvtsi2sdR32
  | .vcvtsi2sdR64 .. => .vcvtsi2sdR64
  | .vcvttss2siR32 .. => .vcvttss2siR32
  | .vcvttss2siR64 .. => .vcvttss2siR64
  | .vcvttsd2siR32 .. => .vcvttsd2siR32
  | .vcvttsd2siR64 .. => .vcvttsd2siR64
  | .vcvtss2siR32 .. => .vcvtss2siR32
  | .vcvtss2siR64 .. => .vcvtss2siR64
  | .vcvtsd2siR32 .. => .vcvtsd2siR32
  | .vcvtsd2siR64 .. => .vcvtsd2siR64
  | .vmovmskpsX .. => .vmovmskpsX
  | .vmovmskpsY .. => .vmovmskpsY
  | .vmovmskpdX .. => .vmovmskpdX
  | .vmovmskpdY .. => .vmovmskpdY
  | .vsqrtpsX .. => .vsqrtpsX
  | .vsqrtpsY .. => .vsqrtpsY
  | .vsqrtpdX .. => .vsqrtpdX
  | .vsqrtpdY .. => .vsqrtpdY
  | .vsqrtss .. => .vsqrtss
  | .vsqrtsd .. => .vsqrtsd
  | .vrsqrtpsX .. => .vrsqrtpsX
  | .vrsqrtpsY .. => .vrsqrtpsY
  | .vrsqrtss .. => .vrsqrtss
  | .vrcppsX .. => .vrcppsX
  | .vrcppsY .. => .vrcppsY
  | .vrcpss .. => .vrcpss
  | .vandpsX .. => .vandpsX
  | .vandpsY .. => .vandpsY
  | .vandpdX .. => .vandpdX
  | .vandpdY .. => .vandpdY
  | .vandnpsX .. => .vandnpsX
  | .vandnpsY .. => .vandnpsY
  | .vandnpdX .. => .vandnpdX
  | .vandnpdY .. => .vandnpdY
  | .vorpsX .. => .vorpsX
  | .vorpsY .. => .vorpsY
  | .vorpdX .. => .vorpdX
  | .vorpdY .. => .vorpdY
  | .vxorpsX .. => .vxorpsX
  | .vxorpsY .. => .vxorpsY
  | .vxorpdX .. => .vxorpdX
  | .vxorpdY .. => .vxorpdY
  | .vaddpsX .. => .vaddpsX
  | .vaddpsY .. => .vaddpsY
  | .vaddpdX .. => .vaddpdX
  | .vaddpdY .. => .vaddpdY
  | .vaddss .. => .vaddss
  | .vaddsd .. => .vaddsd
  | .vmulpsX .. => .vmulpsX
  | .vmulpsY .. => .vmulpsY
  | .vmulpdX .. => .vmulpdX
  | .vmulpdY .. => .vmulpdY
  | .vmulss .. => .vmulss
  | .vmulsd .. => .vmulsd
  | .vcvtps2pdX .. => .vcvtps2pdX
  | .vcvtps2pdY .. => .vcvtps2pdY
  | .vcvtpd2psX .. => .vcvtpd2psX
  | .vcvtpd2psY .. => .vcvtpd2psY
  | .vcvtss2sd .. => .vcvtss2sd
  | .vcvtsd2ss .. => .vcvtsd2ss
  | .vcvtdq2psX .. => .vcvtdq2psX
  | .vcvtdq2psY .. => .vcvtdq2psY
  | .vcvtps2dqX .. => .vcvtps2dqX
  | .vcvtps2dqY .. => .vcvtps2dqY
  | .vcvttps2dqX .. => .vcvttps2dqX
  | .vcvttps2dqY .. => .vcvttps2dqY
  | .vsubpsX .. => .vsubpsX
  | .vsubpsY .. => .vsubpsY
  | .vsubpdX .. => .vsubpdX
  | .vsubpdY .. => .vsubpdY
  | .vsubss .. => .vsubss
  | .vsubsd .. => .vsubsd
  | .vminpsX .. => .vminpsX
  | .vminpsY .. => .vminpsY
  | .vminpdX .. => .vminpdX
  | .vminpdY .. => .vminpdY
  | .vminss .. => .vminss
  | .vminsd .. => .vminsd
  | .vdivpsX .. => .vdivpsX
  | .vdivpsY .. => .vdivpsY
  | .vdivpdX .. => .vdivpdX
  | .vdivpdY .. => .vdivpdY
  | .vdivss .. => .vdivss
  | .vdivsd .. => .vdivsd
  | .vmaxpsX .. => .vmaxpsX
  | .vmaxpsY .. => .vmaxpsY
  | .vmaxpdX .. => .vmaxpdX
  | .vmaxpdY .. => .vmaxpdY
  | .vmaxss .. => .vmaxss
  | .vmaxsd .. => .vmaxsd
  | .vpunpcklbw .. => .vpunpcklbw
  | .vpunpcklwd .. => .vpunpcklwd
  | .vpunpckldq .. => .vpunpckldq
  | .vpacksswb .. => .vpacksswb
  | .vpcmpgtb .. => .vpcmpgtb
  | .vpcmpgtw .. => .vpcmpgtw
  | .vpcmpgtd .. => .vpcmpgtd
  | .vpackuswb .. => .vpackuswb
  | .vpunpckhbw .. => .vpunpckhbw
  | .vpunpckhwd .. => .vpunpckhwd
  | .vpunpckhdq .. => .vpunpckhdq
  | .vpackssdw .. => .vpackssdw
  | .vpunpcklqdq .. => .vpunpcklqdq
  | .vpunpckhqdq .. => .vpunpckhqdq
  | .vmovdqaX .. => .vmovdqaX
  | .vmovdqaY .. => .vmovdqaY
  | .vmovdquX .. => .vmovdquX
  | .vmovdquY .. => .vmovdquY
  | .vpshufd .. => .vpshufd
  | .vpshufhw .. => .vpshufhw
  | .vpshuflw .. => .vpshuflw
  | .vpsrlwImm .. => .vpsrlwImm
  | .vpsrawImm .. => .vpsrawImm
  | .vpsllwImm .. => .vpsllwImm
  | .vpsrldImm .. => .vpsrldImm
  | .vpsradImm .. => .vpsradImm
  | .vpslldImm .. => .vpslldImm
  | .vpsrlqImm .. => .vpsrlqImm
  | .vpsrldq .. => .vpsrldq
  | .vpsllqImm .. => .vpsllqImm
  | .vpslldq .. => .vpslldq
  | .vpcmpeqb .. => .vpcmpeqb
  | .vpcmpeqw .. => .vpcmpeqw
  | .vpcmpeqd .. => .vpcmpeqd
  | .vzeroupper => .vzeroupper
  | .vzeroall => .vzeroall
  | .vhaddpdX .. => .vhaddpdX
  | .vhaddpdY .. => .vhaddpdY
  | .vhaddpsX .. => .vhaddpsX
  | .vhaddpsY .. => .vhaddpsY
  | .vhsubpdX .. => .vhsubpdX
  | .vhsubpdY .. => .vhsubpdY
  | .vhsubpsX .. => .vhsubpsX
  | .vhsubpsY .. => .vhsubpsY
  | .vmovdqaXStore .. => .vmovdqaXStore
  | .vmovdqaYStore .. => .vmovdqaYStore
  | .vmovdquXStore .. => .vmovdquXStore
  | .vmovdquYStore .. => .vmovdquYStore
  | .vldmxcsr .. => .vldmxcsr
  | .vstmxcsr .. => .vstmxcsr
  | .vcmppsX .. => .vcmppsX
  | .vcmppsY .. => .vcmppsY
  | .vcmppdX .. => .vcmppdX
  | .vcmppdY .. => .vcmppdY
  | .vcmpss .. => .vcmpss
  | .vcmpsd .. => .vcmpsd
  | .vpinsrw .. => .vpinsrw
  | .vshufpsX .. => .vshufpsX
  | .vshufpsY .. => .vshufpsY
  | .vshufpdX .. => .vshufpdX
  | .vshufpdY .. => .vshufpdY
  | .vaddsubpdX .. => .vaddsubpdX
  | .vaddsubpdY .. => .vaddsubpdY
  | .vaddsubpsX .. => .vaddsubpsX
  | .vaddsubpsY .. => .vaddsubpsY
  | .vpsrlw .. => .vpsrlw
  | .vpsrld .. => .vpsrld
  | .vpsrlq .. => .vpsrlq
  | .vpaddq .. => .vpaddq
  | .vpmullw .. => .vpmullw
  | .vpsubusb .. => .vpsubusb
  | .vpsubusw .. => .vpsubusw
  | .vpminub .. => .vpminub
  | .vpand .. => .vpand
  | .vpaddusb .. => .vpaddusb
  | .vpaddusw .. => .vpaddusw
  | .vpmaxub .. => .vpmaxub
  | .vpandn .. => .vpandn
  | .vpavgb .. => .vpavgb
  | .vpsraw .. => .vpsraw
  | .vpsrad .. => .vpsrad
  | .vpavgw .. => .vpavgw
  | .vpmulhuw .. => .vpmulhuw
  | .vpmulhw .. => .vpmulhw
  | .vcvttpd2dqX .. => .vcvttpd2dqX
  | .vcvttpd2dqY .. => .vcvttpd2dqY
  | .vcvtdq2pdX .. => .vcvtdq2pdX
  | .vcvtdq2pdY .. => .vcvtdq2pdY
  | .vcvtpd2dqX .. => .vcvtpd2dqX
  | .vcvtpd2dqY .. => .vcvtpd2dqY
  | .vpsubsb .. => .vpsubsb
  | .vpsubsw .. => .vpsubsw
  | .vpminsw .. => .vpminsw
  | .vpor .. => .vpor
  | .vpaddsb .. => .vpaddsb
  | .vpaddsw .. => .vpaddsw
  | .vpmaxsw .. => .vpmaxsw
  | .vpxor .. => .vpxor
  | .vlddquX .. => .vlddquX
  | .vlddquY .. => .vlddquY
  | .vpsllw .. => .vpsllw
  | .vpslld .. => .vpslld
  | .vpsllq .. => .vpsllq
  | .vpmuludq .. => .vpmuludq
  | .vpmaddwd .. => .vpmaddwd
  | .vpsadbw .. => .vpsadbw
  | .vpsubb .. => .vpsubb
  | .vpsubw .. => .vpsubw
  | .vpsubd .. => .vpsubd
  | .vpsubq .. => .vpsubq
  | .vpaddb .. => .vpaddb
  | .vpaddw .. => .vpaddw
  | .vpaddd .. => .vpaddd
  | .vpshufb .. => .vpshufb
  | .vphaddw .. => .vphaddw
  | .vphaddd .. => .vphaddd
  | .vphaddsw .. => .vphaddsw
  | .vpmaddubsw .. => .vpmaddubsw
  | .vphsubw .. => .vphsubw
  | .vphsubd .. => .vphsubd
  | .vphsubsw .. => .vphsubsw
  | .vpsignb .. => .vpsignb
  | .vpsignw .. => .vpsignw
  | .vpsignd .. => .vpsignd
  | .vpmulhrsw .. => .vpmulhrsw
  | .vpermilpsX .. => .vpermilpsX
  | .vpermilpsY .. => .vpermilpsY
  | .vpermilpdX .. => .vpermilpdX
  | .vpermilpdY .. => .vpermilpdY
  | .vtestpsX .. => .vtestpsX
  | .vtestpsY .. => .vtestpsY
  | .vtestpdX .. => .vtestpdX
  | .vtestpdY .. => .vtestpdY
  | .vptestX .. => .vptestX
  | .vptestY .. => .vptestY
  | .vbroadcastssX .. => .vbroadcastssX
  | .vbroadcastssY .. => .vbroadcastssY
  | .vbroadcastsd .. => .vbroadcastsd
  | .vbroadcastf128 .. => .vbroadcastf128
  | .vpmuldq .. => .vpmuldq
  | .vpcmpeqq .. => .vpcmpeqq
  | .vpackusdw .. => .vpackusdw
  | .vmaskmovpsXLoad .. => .vmaskmovpsXLoad
  | .vmaskmovpsYLoad .. => .vmaskmovpsYLoad
  | .vmaskmovpdXLoad .. => .vmaskmovpdXLoad
  | .vmaskmovpdYLoad .. => .vmaskmovpdYLoad
  | .vmaskmovpsXStore .. => .vmaskmovpsXStore
  | .vmaskmovpsYStore .. => .vmaskmovpsYStore
  | .vmaskmovpdXStore .. => .vmaskmovpdXStore
  | .vmaskmovpdYStore .. => .vmaskmovpdYStore
  | .vpcmpgtq .. => .vpcmpgtq
  | .vpminsb .. => .vpminsb
  | .vpminsd .. => .vpminsd
  | .vpminuw .. => .vpminuw
  | .vpminud .. => .vpminud
  | .vpmaxsb .. => .vpmaxsb
  | .vpmaxsd .. => .vpmaxsd
  | .vpmaxuw .. => .vpmaxuw
  | .vpmaxud .. => .vpmaxud
  | .vpmulld .. => .vpmulld
  | .aesimc .. => .aesimc
  | .vaesimc .. => .vaesimc
  | .aesenc .. => .aesenc
  | .vaesenc .. => .vaesenc
  | .aesenclast .. => .aesenclast
  | .vaesenclast .. => .vaesenclast
  | .aesdec .. => .aesdec
  | .vaesdec .. => .vaesdec
  | .aesdeclast .. => .aesdeclast
  | .vaesdeclast .. => .vaesdeclast
  | .vpermilpsXImm .. => .vpermilpsXImm
  | .vpermilpsYImm .. => .vpermilpsYImm
  | .vpermilpdXImm .. => .vpermilpdXImm
  | .vpermilpdYImm .. => .vpermilpdYImm
  | .vperm2f128 .. => .vperm2f128
  | .vroundpsX .. => .vroundpsX
  | .vroundpsY .. => .vroundpsY
  | .vroundpdX .. => .vroundpdX
  | .vroundpdY .. => .vroundpdY
  | .vroundss .. => .vroundss
  | .vroundsd .. => .vroundsd
  | .vblendpsX .. => .vblendpsX
  | .vblendpsY .. => .vblendpsY
  | .vblendpdX .. => .vblendpdX
  | .vblendpdY .. => .vblendpdY
  | .vpblendw .. => .vpblendw
  | .vpalignr .. => .vpalignr
  | .vinsertf128 .. => .vinsertf128
  | .vextractf128 .. => .vextractf128
  | .vpinsrb .. => .vpinsrb
  | .vinsertps .. => .vinsertps
  | .vpinsrd .. => .vpinsrd
  | .vpinsrq .. => .vpinsrq
  | .vdppsX .. => .vdppsX
  | .vdppsY .. => .vdppsY
  | .vdppd .. => .vdppd
  | .vmpsadbw .. => .vmpsadbw
  | .pclmulqdq .. => .pclmulqdq
  | .vpclmulqdq .. => .vpclmulqdq
  | .vpermil2psX .. => .vpermil2psX
  | .vpermil2psXW1 .. => .vpermil2psXW1
  | .vpermil2psY .. => .vpermil2psY
  | .vpermil2psYW1 .. => .vpermil2psYW1
  | .vpermil2pdX .. => .vpermil2pdX
  | .vpermil2pdXW1 .. => .vpermil2pdXW1
  | .vpermil2pdY .. => .vpermil2pdY
  | .vpermil2pdYW1 .. => .vpermil2pdYW1
  | .vblendvpsX .. => .vblendvpsX
  | .vblendvpsY .. => .vblendvpsY
  | .vblendvpdX .. => .vblendvpdX
  | .vblendvpdY .. => .vblendvpdY
  | .vpblendvb .. => .vpblendvb
  | .vfmaddsubpsX .. => .vfmaddsubpsX
  | .vfmaddsubpsXW1 .. => .vfmaddsubpsXW1
  | .vfmaddsubpsY .. => .vfmaddsubpsY
  | .vfmaddsubpsYW1 .. => .vfmaddsubpsYW1
  | .vfmaddsubpdX .. => .vfmaddsubpdX
  | .vfmaddsubpdXW1 .. => .vfmaddsubpdXW1
  | .vfmaddsubpdY .. => .vfmaddsubpdY
  | .vfmaddsubpdYW1 .. => .vfmaddsubpdYW1
  | .vfmsubaddpsX .. => .vfmsubaddpsX
  | .vfmsubaddpsXW1 .. => .vfmsubaddpsXW1
  | .vfmsubaddpsY .. => .vfmsubaddpsY
  | .vfmsubaddpsYW1 .. => .vfmsubaddpsYW1
  | .vfmsubaddpdX .. => .vfmsubaddpdX
  | .vfmsubaddpdXW1 .. => .vfmsubaddpdXW1
  | .vfmsubaddpdY .. => .vfmsubaddpdY
  | .vfmsubaddpdYW1 .. => .vfmsubaddpdYW1
  | .vfmaddpsX .. => .vfmaddpsX
  | .vfmaddpsXW1 .. => .vfmaddpsXW1
  | .vfmaddpsY .. => .vfmaddpsY
  | .vfmaddpsYW1 .. => .vfmaddpsYW1
  | .vfmaddpdX .. => .vfmaddpdX
  | .vfmaddpdXW1 .. => .vfmaddpdXW1
  | .vfmaddpdY .. => .vfmaddpdY
  | .vfmaddpdYW1 .. => .vfmaddpdYW1
  | .vfmaddss .. => .vfmaddss
  | .vfmaddssW1 .. => .vfmaddssW1
  | .vfmaddsd .. => .vfmaddsd
  | .vfmaddsdW1 .. => .vfmaddsdW1
  | .vfmsubpsX .. => .vfmsubpsX
  | .vfmsubpsXW1 .. => .vfmsubpsXW1
  | .vfmsubpsY .. => .vfmsubpsY
  | .vfmsubpsYW1 .. => .vfmsubpsYW1
  | .vfmsubpdX .. => .vfmsubpdX
  | .vfmsubpdXW1 .. => .vfmsubpdXW1
  | .vfmsubpdY .. => .vfmsubpdY
  | .vfmsubpdYW1 .. => .vfmsubpdYW1
  | .vfmsubss .. => .vfmsubss
  | .vfmsubssW1 .. => .vfmsubssW1
  | .vfmsubsd .. => .vfmsubsd
  | .vfmsubsdW1 .. => .vfmsubsdW1
  | .vfnmaddpsX .. => .vfnmaddpsX
  | .vfnmaddpsXW1 .. => .vfnmaddpsXW1
  | .vfnmaddpsY .. => .vfnmaddpsY
  | .vfnmaddpsYW1 .. => .vfnmaddpsYW1
  | .vfnmaddpdX .. => .vfnmaddpdX
  | .vfnmaddpdXW1 .. => .vfnmaddpdXW1
  | .vfnmaddpdY .. => .vfnmaddpdY
  | .vfnmaddpdYW1 .. => .vfnmaddpdYW1
  | .vfnmaddss .. => .vfnmaddss
  | .vfnmaddssW1 .. => .vfnmaddssW1
  | .vfnmaddsd .. => .vfnmaddsd
  | .vfnmaddsdW1 .. => .vfnmaddsdW1
  | .vfnmsubpsX .. => .vfnmsubpsX
  | .vfnmsubpsXW1 .. => .vfnmsubpsXW1
  | .vfnmsubpsY .. => .vfnmsubpsY
  | .vfnmsubpsYW1 .. => .vfnmsubpsYW1
  | .vfnmsubpdX .. => .vfnmsubpdX
  | .vfnmsubpdXW1 .. => .vfnmsubpdXW1
  | .vfnmsubpdY .. => .vfnmsubpdY
  | .vfnmsubpdYW1 .. => .vfnmsubpdYW1
  | .vfnmsubss .. => .vfnmsubss
  | .vfnmsubssW1 .. => .vfnmsubssW1
  | .vfnmsubsd .. => .vfnmsubsd
  | .vfnmsubsdW1 .. => .vfnmsubsdW1
  | .aeskeygenassist .. => .aeskeygenassist
  | .vaeskeygenassist .. => .vaeskeygenassist

/-- Rows 1 to 22 of the table. -/
def Form.rows0 : List Form :=
  [.vmovupsX, .vmovupsY, .vmovupdX, .vmovupdY, .vmovssReg, .vmovssLoad, .vmovsdReg, .vmovsdLoad, .vmovupsXStore, .vmovupsYStore, .vmovupdXStore, .vmovupdYStore, .vmovssStore, .vmovssReg2, .vmovsdStore, .vmovsdReg2, .vmovhlps, .vmovlpsLoad, .vmovlpdLoad, .vmovsldupX, .vmovsldupY, .vmovddupX]

/-- Rows 23 to 44 of the table. -/
def Form.rows1 : List Form :=
  [.vmovddupY, .vmovlpsStore, .vmovlpdStore, .vunpcklpsX, .vunpcklpsY, .vunpcklpdX, .vunpcklpdY, .vunpckhpsX, .vunpckhpsY, .vunpckhpdX, .vunpckhpdY, .vmovlhps, .vmovhpsLoad, .vmovhpdLoad, .vmovshdupX, .vmovshdupY, .vmovhpsStore, .vmovhpdStore, .vmovapsX, .vmovapsY, .vmovapdX, .vmovapdY]

/-- Rows 45 to 66 of the table. -/
def Form.rows2 : List Form :=
  [.vmovapsXStore, .vmovapsYStore, .vmovapdXStore, .vmovapdYStore, .vcvtsi2ssR32, .vcvtsi2ssR64, .vcvtsi2sdR32, .vcvtsi2sdR64, .vcvttss2siR32, .vcvttss2siR64, .vcvttsd2siR32, .vcvttsd2siR64, .vcvtss2siR32, .vcvtss2siR64, .vcvtsd2siR32, .vcvtsd2siR64, .vmovmskpsX, .vmovmskpsY, .vmovmskpdX, .vmovmskpdY, .vsqrtpsX, .vsqrtpsY]

/-- Rows 67 to 88 of the table. -/
def Form.rows3 : List Form :=
  [.vsqrtpdX, .vsqrtpdY, .vsqrtss, .vsqrtsd, .vrsqrtpsX, .vrsqrtpsY, .vrsqrtss, .vrcppsX, .vrcppsY, .vrcpss, .vandpsX, .vandpsY, .vandpdX, .vandpdY, .vandnpsX, .vandnpsY, .vandnpdX, .vandnpdY, .vorpsX, .vorpsY, .vorpdX, .vorpdY]

/-- Rows 89 to 110 of the table. -/
def Form.rows4 : List Form :=
  [.vxorpsX, .vxorpsY, .vxorpdX, .vxorpdY, .vaddpsX, .vaddpsY, .vaddpdX, .vaddpdY, .vaddss, .vaddsd, .vmulpsX, .vmulpsY, .vmulpdX, .vmulpdY, .vmulss, .vmulsd, .vcvtps2pdX, .vcvtps2pdY, .vcvtpd2psX, .vcvtpd2psY, .vcvtss2sd, .vcvtsd2ss]

/-- Rows 111 to 132 of the table. -/
def Form.rows5 : List Form :=
  [.vcvtdq2psX, .vcvtdq2psY, .vcvtps2dqX, .vcvtps2dqY, .vcvttps2dqX, .vcvttps2dqY, .vsubpsX, .vsubpsY, .vsubpdX, .vsubpdY, .vsubss, .vsubsd, .vminpsX, .vminpsY, .vminpdX, .vminpdY, .vminss, .vminsd, .vdivpsX, .vdivpsY, .vdivpdX, .vdivpdY]

/-- Rows 133 to 154 of the table. -/
def Form.rows6 : List Form :=
  [.vdivss, .vdivsd, .vmaxpsX, .vmaxpsY, .vmaxpdX, .vmaxpdY, .vmaxss, .vmaxsd, .vpunpcklbw, .vpunpcklwd, .vpunpckldq, .vpacksswb, .vpcmpgtb, .vpcmpgtw, .vpcmpgtd, .vpackuswb, .vpunpckhbw, .vpunpckhwd, .vpunpckhdq, .vpackssdw, .vpunpcklqdq, .vpunpckhqdq]

/-- Rows 155 to 176 of the table. -/
def Form.rows7 : List Form :=
  [.vmovdqaX, .vmovdqaY, .vmovdquX, .vmovdquY, .vpshufd, .vpshufhw, .vpshuflw, .vpsrlwImm, .vpsrawImm, .vpsllwImm, .vpsrldImm, .vpsradImm, .vpslldImm, .vpsrlqImm, .vpsrldq, .vpsllqImm, .vpslldq, .vpcmpeqb, .vpcmpeqw, .vpcmpeqd, .vzeroupper, .vzeroall]

/-- Rows 177 to 198 of the table. -/
def Form.rows8 : List Form :=
  [.vhaddpdX, .vhaddpdY, .vhaddpsX, .vhaddpsY, .vhsubpdX, .vhsubpdY, .vhsubpsX, .vhsubpsY, .vmovdqaXStore, .vmovdqaYStore, .vmovdquXStore, .vmovdquYStore, .vldmxcsr, .vstmxcsr, .vcmppsX, .vcmppsY, .vcmppdX, .vcmppdY, .vcmpss, .vcmpsd, .vpinsrw, .vshufpsX]

/-- Rows 199 to 220 of the table. -/
def Form.rows9 : List Form :=
  [.vshufpsY, .vshufpdX, .vshufpdY, .vaddsubpdX, .vaddsubpdY, .vaddsubpsX, .vaddsubpsY, .vpsrlw, .vpsrld, .vpsrlq, .vpaddq, .vpmullw, .vpsubusb, .vpsubusw, .vpminub, .vpand, .vpaddusb, .vpaddusw, .vpmaxub, .vpandn, .vpavgb, .vpsraw]

/-- Rows 221 to 242 of the table. -/
def Form.rows10 : List Form :=
  [.vpsrad, .vpavgw, .vpmulhuw, .vpmulhw, .vcvttpd2dqX, .vcvttpd2dqY, .vcvtdq2pdX, .vcvtdq2pdY, .vcvtpd2dqX, .vcvtpd2dqY, .vpsubsb, .vpsubsw, .vpminsw, .vpor, .vpaddsb, .vpaddsw, .vpmaxsw, .vpxor, .vlddquX, .vlddquY, .vpsllw, .vpslld]

/-- Rows 243 to 264 of the table. -/
def Form.rows11 : List Form :=
  [.vpsllq, .vpmuludq, .vpmaddwd, .vpsadbw, .vpsubb, .vpsubw, .vpsubd, .vpsubq, .vpaddb, .vpaddw, .vpaddd, .vpshufb, .vphaddw, .vphaddd, .vphaddsw, .vpmaddubsw, .vphsubw, .vphsubd, .vphsubsw, .vpsignb, .vpsignw, .vpsignd]

/-- Rows 265 to 286 of the table. -/
def Form.rows12 : List Form :=
  [.vpmulhrsw, .vpermilpsX, .vpermilpsY, .vpermilpdX, .vpermilpdY, .vtestpsX, .vtestpsY, .vtestpdX, .vtestpdY, .vptestX, .vptestY, .vbroadcastssX, .vbroadcastssY, .vbroadcastsd, .vbroadcastf128, .vpmuldq, .vpcmpeqq, .vpackusdw, .vmaskmovpsXLoad, .vmaskmovpsYLoad, .vmaskmovpdXLoad, .vmaskmovpdYLoad]

/-- Rows 287 to 308 of the table. -/
def Form.rows13 : List Form :=
  [.vmaskmovpsXStore, .vmaskmovpsYStore, .vmaskmovpdXStore, .vmaskmovpdYStore, .vpcmpgtq, .vpminsb, .vpminsd, .vpminuw, .vpminud, .vpmaxsb, .vpmaxsd, .vpmaxuw, .vpmaxud, .vpmulld, .aesimc, .vaesimc, .aesenc, .vaesenc, .aesenclast, .vaesenclast, .aesdec, .vaesdec]

/-- Rows 309 to 330 of the table. -/
def Form.rows14 : List Form :=
  [.aesdeclast, .vaesdeclast, .vpermilpsXImm, .vpermilpsYImm, .vpermilpdXImm, .vpermilpdYImm, .vperm2f128, .vroundpsX, .vroundpsY, .vroundpdX, .vroundpdY, .vroundss, .vroundsd, .vblendpsX, .vblendpsY, .vblendpdX, .vblendpdY, .vpblendw, .vpalignr, .vinsertf128, .vextractf128, .vpinsrb]

/-- Rows 331 to 352 of the table. -/
def Form.rows15 : List Form :=
  [.vinsertps, .vpinsrd, .vpinsrq, .vdppsX, .vdppsY, .vdppd, .vmpsadbw, .pclmulqdq, .vpclmulqdq, .vpermil2psX, .vpermil2psXW1, .vpermil2psY, .vpermil2psYW1, .vpermil2pdX, .vpermil2pdXW1, .vpermil2pdY, .vpermil2pdYW1, .vblendvpsX, .vblendvpsY, .vblendvpdX, .vblendvpdY, .vpblendvb]

/-- Rows 353 to 374 of the table. -/
def Form.rows16 : List Form :=
  [.vfmaddsubpsX, .vfmaddsubpsXW1, .vfmaddsubpsY, .vfmaddsubpsYW1, .vfmaddsubpdX, .vfmaddsubpdXW1, .vfmaddsubpdY, .vfmaddsubpdYW1, .vfmsubaddpsX, .vfmsubaddpsXW1, .vfmsubaddpsY, .vfmsubaddpsYW1, .vfmsubaddpdX, .vfmsubaddpdXW1, .vfmsubaddpdY, .vfmsubaddpdYW1, .vfmaddpsX, .vfmaddpsXW1, .vfmaddpsY, .vfmaddpsYW1, .vfmaddpdX, .vfmaddpdXW1]

/-- Rows 375 to 396 of the table. -/
def Form.rows17 : List Form :=
  [.vfmaddpdY, .vfmaddpdYW1, .vfmaddss, .vfmaddssW1, .vfmaddsd, .vfmaddsdW1, .vfmsubpsX, .vfmsubpsXW1, .vfmsubpsY, .vfmsubpsYW1, .vfmsubpdX, .vfmsubpdXW1, .vfmsubpdY, .vfmsubpdYW1, .vfmsubss, .vfmsubssW1, .vfmsubsd, .vfmsubsdW1, .vfnmaddpsX, .vfnmaddpsXW1, .vfnmaddpsY, .vfnmaddpsYW1]

/-- Rows 397 to 418 of the table. -/
def Form.rows18 : List Form :=
  [.vfnmaddpdX, .vfnmaddpdXW1, .vfnmaddpdY, .vfnmaddpdYW1, .vfnmaddss, .vfnmaddssW1, .vfnmaddsd, .vfnmaddsdW1, .vfnmsubpsX, .vfnmsubpsXW1, .vfnmsubpsY, .vfnmsubpsYW1, .vfnmsubpdX, .vfnmsubpdXW1, .vfnmsubpdY, .vfnmsubpdYW1, .vfnmsubss, .vfnmsubssW1, .vfnmsubsd, .vfnmsubsdW1, .aeskeygenassist, .vaeskeygenassist]

/-- Every row, in the table's order. -/
def Form.all : List Form :=
  Form.rows0 ++ Form.rows1 ++ Form.rows2 ++ Form.rows3 ++ Form.rows4 ++ Form.rows5 ++ Form.rows6 ++
    Form.rows7 ++ Form.rows8 ++ Form.rows9 ++ Form.rows10 ++ Form.rows11 ++ Form.rows12 ++ Form.rows13 ++
    Form.rows14 ++ Form.rows15 ++ Form.rows16 ++ Form.rows17 ++ Form.rows18

/-! ### What the decoder answers -/

/-- Why an encoding is refused: the spec gives it no meaning (30_encoding.md R118, R126 h, i, j). -/
inductive Reject where
  /-- No row of the table has this map, opcode, `pp` and `/n`, or the bytes begin with neither VEX nor a legacy row's 66
  (R126 i, R127 step 1). -/
  | notListed
  /-- `L = 1` for an opcode listed only with `L = 128` (R126 h). -/
  | lengthReserved
  /-- A register source of VBROADCASTSS or VBROADCASTSD (R126 h). -/
  | registerBroadcast
  /-- A row of the FMA or VPERMIL2 families while `EncFMA4` is false (R126 j, R131). -/
  | fmaGated
  /-- In Mode32, bytes C4 or C5 that begin LES or LDS, or a VEX prefix whose `B'` or top `v'` bit is 0 (R118). -/
  | mode32Prefix
  /-- In Mode32, a form with a 64-bit general register (R118, R50). -/
  | mode32Wide
  /-- In Mode32, an `is4` byte with bit 7 set (R118). -/
  | mode32Is4
  deriving DecidableEq, Repr

/-- What a byte sequence decodes to (30_encoding.md R127): with `α` the row and its operand fields, or the instruction. -/
inductive DecodeResult (α : Type) where
  /-- What the bytes encode, and the length in bytes. -/
  | ok (i : α) (len : Nat)
  /-- `Fault UD`, one of the cases (a) to (g) of R126. -/
  | ud
  /-- `Refused`. -/
  | refused (why : Reject)
  /-- The bytes end before the instruction does. -/
  | more
  deriving DecidableEq, Repr

/-- A row with the operand fields of its bytes. -/
structure Encoded where
  form : Form
  fields : Operands
  deriving DecidableEq, Repr

/-! ### ModRM, SIB and displacement -/

/-- A register number from its extension bit and its three low bits (30_encoding.md R114). -/
def reg4 (hi : Bool) (lo : BitVec 3) : Reg := Reg.ofBits (BitVec.ofBool hi ++ lo)

/-- Four little-endian bytes (30_encoding.md R123). -/
def parseDisp32 : List Byte → Option (BitVec 32 × List Byte)
  | b0 :: b1 :: b2 :: b3 :: t => some (b3 ++ b2 ++ b1 ++ b0, t)
  | _ => none

/-- The displacement that `mod` announces (30_encoding.md R121). -/
def parseDisp (mod : BitVec 2) (bs : List Byte) : Option (Disp × List Byte) :=
  if mod = 0 then some (.none, bs)
  else if mod = 1 then
    match bs with
    | b :: t => some (.d8 b, t)
    | [] => none
  else
    match parseDisp32 bs with
    | some (d, t) => some (.d32 d, t)
    | none => none

/-- The SIB byte and what follows it (30_encoding.md R122). -/
def parseSib (mod : BitVec 2) (x b : Bool) : List Byte → Option (MemOp × List Byte)
  | [] => none
  | s :: t =>
    let scale := s.extractLsb' 6 2
    let i := reg4 x (s.extractLsb' 3 3)
    let index := if i = 4 then none else some i
    if mod = 0 ∧ s.extractLsb' 0 3 = 5 then
      match parseDisp32 t with
      | some (d, u) => some (.sibNoBase scale index d, u)
      | none => none
    else
      match parseDisp mod t with
      | some (d, u) => some (.sib (reg4 b (s.extractLsb' 0 3)) scale index d, u)
      | none => none

/-- The memory operand of a ModRM byte with `mod ≠ 11` (30_encoding.md R121). -/
def parseMem (m : Mode) (mod : BitVec 2) (rm : BitVec 3) (x b : Bool) (bs : List Byte) :
    Option (MemOp × List Byte) :=
  if rm = 4 then parseSib mod x b bs
  else if mod = 0 ∧ rm = 5 then
    match parseDisp32 bs with
    | some (d, t) =>
      match m with
      | .mode32 => some (.abs d, t)
      | .mode64 => some (.rip d, t)
    | none => none
  else
    match parseDisp mod bs with
    | some (d, t) => some (.base (reg4 b rm) d, t)
    | none => none

/-- The ModRM byte: the three bits of ModRM.reg, the ModRM.rm operand, the bytes after it (30_encoding.md R121). -/
def parseModRM (m : Mode) (x b : Bool) : List Byte → Option (BitVec 3 × RegMem × List Byte)
  | [] => none
  | c :: t =>
    if c.extractLsb' 6 2 = 3 then
      some (c.extractLsb' 3 3, .reg (reg4 b (c.extractLsb' 0 3)), t)
    else
      match parseMem m (c.extractLsb' 6 2) (c.extractLsb' 0 3) x b t with
      | some (a, u) => some (c.extractLsb' 3 3, .mem a, u)
      | none => none

/-- The operand is a register (ModRM.mod = 11). -/
def RegMem.isReg : RegMem → Bool
  | .reg _ => true
  | .mem _ => false

/-! ### Choosing a row -/

/-- The fields of a VEX prefix, register bits not inverted (30_encoding.md R113). A legacy instruction has the fields of
its REX byte, `vvvv = 0` and `pp = 66`. -/
structure Prefix where
  r : Bool
  x : Bool
  b : Bool
  w : Bool
  v : BitVec 4
  l : Bool
  pp : Pp
  map : OpMap
  legacy : Bool
  deriving DecidableEq, Repr

/-- The row accepts this value of VEX.L (30_encoding.md R114). -/
def LenReq.accepts (q : LenReq) (l : Bool) : Bool :=
  match q with
  | .l128 => !l
  | .l256 => l
  | .lig => true
  | .lz => !l
  | .leg => true

/-- The row accepts this value of VEX.W (30_encoding.md R114). -/
def WReq.accepts (q : WReq) (w : Bool) : Bool :=
  match q with
  | .wig => true
  | .w0 => !w
  | .w1 => w

/-- The row accepts this kind of ModRM.rm operand (30_encoding.md R119). -/
def ModReq.accepts (q : ModReq) (isReg : Bool) : Bool :=
  match q with
  | .any => true
  | .regOnly => isReg
  | .memOnly => !isReg

/-- The row accepts these bits of ModRM.reg (30_encoding.md R119). -/
def extAccepts (q : Option (BitVec 3)) (reg : BitVec 3) : Bool :=
  match q with
  | none => true
  | some n => n == reg

/-- The rows of one map and opcode, of the VEX or the legacy encoding (30_encoding.md R127 step 2). -/
def opcodeRows (legacy : Bool) (map : OpMap) (op : BitVec 8) : List Form :=
  Form.all.filter fun f => f.row.op == op && f.row.map == map && (f.row.len == .leg) == legacy

/-- Those of them with this `pp` (30_encoding.md R127 step 2). -/
def candidates (p : Prefix) (op : BitVec 8) : List Form :=
  (opcodeRows p.legacy p.map op).filter fun f => f.row.pp == p.pp

/-- The row among the candidates that L, W, ModRM.mod and `/n` choose (30_encoding.md R127 step 3). -/
def select (cs : List Form) (l w isReg : Bool) (reg : BitVec 3) : Option Form :=
  cs.find? fun f =>
    f.row.len.accepts l && f.row.w.accepts w && f.row.mod.accepts isReg && extAccepts f.row.ext reg

/-- The two mnemonics whose register source later generations define (30_encoding.md R126 h). -/
def Form.scalarBroadcast (f : Form) : Bool :=
  f == .vbroadcastssX || f == .vbroadcastssY || f == .vbroadcastsd

/-- What no candidate matching means (30_encoding.md R126, in the order of log 17): no row with this `/n` is (i); L is (e)
or (h); W is (c); the kind of ModRM.rm is (d) or, for the scalar broadcasts, (h). -/
def misfit (cs : List Form) (l w : Bool) (reg : BitVec 3) : DecodeResult Encoded :=
  let cn := cs.filter fun f => extAccepts f.row.ext reg
  let cl := cn.filter fun f => f.row.len.accepts l
  let cw := cl.filter fun f => f.row.w.accepts w
  if cn.isEmpty then .refused .notListed
  else if cl.isEmpty then
    if cn.all fun f => f.row.len == .lz || f.row.len == .l256 then .ud else .refused .lengthReserved
  else if cw.isEmpty then .ud
  else if cw.any Form.scalarBroadcast then .refused .registerBroadcast
  else .ud

/-! ### Decoding -/

/-- The trailing byte of a row, if it has one (30_encoding.md R123). -/
def parseImm (q : ImmReq) (bs : List Byte) : Option (Byte × List Byte) :=
  match q with
  | .none => some (0, bs)
  | .ib | .is4 =>
    match bs with
    | b :: t => some (b, t)
    | [] => none

/-- The operand fields of a chosen row: for the `is4` rows bits 7:4 of the trailing byte name a register and bits 1:0 are
the fifth operand (30_encoding.md R119, R124). -/
def fieldsOf (f : Form) (p : Prefix) (reg : BitVec 3) (rm : RegMem) (imm : Byte) : Operands :=
  match f.row.imm with
  | .is4 =>
    { reg := reg4 p.r reg, v := Reg.ofBits p.v, rm := rm, is4 := Reg.ofBits (imm.extractLsb' 4 4),
      imm := (imm.extractLsb' 0 2).setWidth 8 }
  | .none | .ib => { reg := reg4 p.r reg, v := Reg.ofBits p.v, rm := rm, imm := imm }

/-- The checks on a chosen row: `vvvv` (30_encoding.md R126 b), then the Mode32 limits (R118). -/
def finishDecode (m : Mode) (f : Form) (p : Prefix) (reg : BitVec 3) (rm : RegMem) (imm : Byte) (len : Nat) :
    DecodeResult Encoded :=
  if !f.row.enc.usesV && p.v != 0 then .ud
  else if f.row.wide && m == .mode32 then .refused .mode32Wide
  else if f.row.imm == .is4 && m == .mode32 && imm.getLsbD 7 then .refused .mode32Is4
  else .ok ⟨f, fieldsOf f p reg rm imm⟩ len

/-- From the opcode byte on (30_encoding.md R127 steps 2 to 5); `total` is the number of bytes the decoder was given. -/
def decodeBody (m : Mode) (fma4 : Bool) (p : Prefix) (total : Nat) : List Byte → DecodeResult Encoded
  | [] => .more
  | op :: t =>
    let cs := candidates p op
    if (opcodeRows p.legacy p.map op).isEmpty then .refused .notListed
    else if cs.isEmpty then .ud
    else if cs.any (fun f => f.row.gated) && !fma4 then .refused .fmaGated
    else if cs.all (fun f => f.row.enc == .none) then
      match select cs p.l p.w true 0 with
      | none => misfit cs p.l p.w 0
      | some f => finishDecode m f p 0 (.reg 0) 0 (total - t.length)
    else
      match parseModRM m p.x p.b t with
      | none => .more
      | some (reg, rm, u) =>
        match select cs p.l p.w rm.isReg reg with
        | none => misfit cs p.l p.w reg
        | some f =>
          match parseImm f.row.imm u with
          | none => .more
          | some (imm, rest) => finishDecode m f p reg rm imm (total - rest.length)

/-- The prefix that `pp` stands for (30_encoding.md R114). -/
def ppOf (b : BitVec 2) : Pp :=
  if b = 0 then .np else if b = 1 then .p66 else if b = 2 then .pF3 else .pF2

/-- The map that `mmmmm` selects (30_encoding.md R114). -/
def mapOf (b : BitVec 5) : Option OpMap :=
  if b = 1 then some .m0F else if b = 2 then some .m0F38 else if b = 3 then some .m0F3A else none

/-- After C5: one more prefix byte (30_encoding.md R113). In Mode32 its bits 7:6 must be 11, else the bytes are LDS (R118). -/
def decodeVex2 (m : Mode) (fma4 : Bool) (total : Nat) : List Byte → DecodeResult Encoded
  | [] => .more
  | c :: t =>
    if m == .mode32 && c.extractLsb' 6 2 != 3 then .refused .mode32Prefix
    else
      decodeBody m fma4
        { r := !c.getLsbD 7, x := false, b := false, w := false, v := ~~~(c.extractLsb' 3 4), l := c.getLsbD 2,
          pp := ppOf (c.extractLsb' 0 2), map := .m0F, legacy := false } total t

/-- After C4: two more prefix bytes (30_encoding.md R113). In Mode32 bits 7:6 of the first must be 11, else the bytes are
LES, and `B'` and the top `v'` bit must be 1 (R118). An undefined `mmmmm` is (f) of R126. -/
def decodeVex3 (m : Mode) (fma4 : Bool) (total : Nat) : List Byte → DecodeResult Encoded
  | [] => .more
  | c1 :: t =>
    if m == .mode32 && c1.extractLsb' 5 3 != 7 then .refused .mode32Prefix
    else
      match t with
      | [] => .more
      | c2 :: u =>
        if m == .mode32 && !c2.getLsbD 6 then .refused .mode32Prefix
        else
          match mapOf (c1.extractLsb' 0 5) with
          | none => .ud
          | some map =>
            decodeBody m fma4
              { r := !c1.getLsbD 7, x := !c1.getLsbD 6, b := !c1.getLsbD 5, w := c2.getLsbD 7,
                v := ~~~(c2.extractLsb' 3 4), l := c2.getLsbD 2, pp := ppOf (c2.extractLsb' 0 2), map := map,
                legacy := false } total u

/-- Whether bytes begin a VEX prefix; `none` when more bytes are needed to tell (30_encoding.md R113, R118). -/
def startsVex (m : Mode) : List Byte → Option Bool
  | [] => none
  | c :: t =>
    if c = 0xC4 ∨ c = 0xC5 then
      match m with
      | .mode64 => some true
      | .mode32 =>
        match t with
        | [] => none
        | d :: _ => some (d.extractLsb' 6 2 == 3)
    else some false

/-- A prefix byte before what may be a VEX prefix: `Fault UD` if it is one (30_encoding.md R126 a), refused if not. Only the
next byte is looked at, so that a further prefix byte between this one and a VEX prefix is refused. DESIGN CHOICE, unsafe
(log 31). -/
def beforeVex (m : Mode) (bs : List Byte) : DecodeResult Encoded :=
  match startsVex m bs with
  | none => .more
  | some true => .ud
  | some false => .refused .notListed

/-- A REX byte, which only Mode64 has (30_encoding.md R125). -/
def isRex (m : Mode) (c : Byte) : Bool := m == .mode64 && c.extractLsb' 4 4 == 4

/-- The escape bytes `0F 38` or `0F 3A` and the rest of a legacy instruction (30_encoding.md R125). -/
def decodeLegacyOp (m : Mode) (r x b : Bool) (total : Nat) : List Byte → DecodeResult Encoded
  | [] => .more
  | [e] => if e = 0x0F then .more else .refused .notListed
  | e :: g :: t =>
    if e != 0x0F then .refused .notListed
    else if g = 0x38 then
      decodeBody m true { r := r, x := x, b := b, w := false, v := 0, l := false, pp := .p66, map := .m0F38, legacy := true }
        total t
    else if g = 0x3A then
      decodeBody m true { r := r, x := x, b := b, w := false, v := 0, l := false, pp := .p66, map := .m0F3A, legacy := true }
        total t
    else .refused .notListed

/-- After 66: an optional REX byte, then a legacy instruction; a VEX prefix here, also after the REX byte, is (a) of R126
(30_encoding.md R125, R127). Any other further prefix byte is refused. DESIGN CHOICE, unsafe (log 31). -/
def decodeLegacy (m : Mode) (total : Nat) : List Byte → DecodeResult Encoded
  | [] => .more
  | c :: t =>
    match startsVex m (c :: t) with
    | none => .more
    | some true => .ud
    | some false =>
      if isRex m c then
        match startsVex m t with
        | none => .more
        | some true => .ud
        | some false => decodeLegacyOp m (c.getLsbD 2) (c.getLsbD 1) (c.getLsbD 0) total t
      else decodeLegacyOp m false false false total (c :: t)

/-- The decoding procedure of 30_encoding.md R127: the row and the operand fields of the bytes at the program counter. -/
def decodeFields (m : Mode) (fma4 : Bool) (bs : List Byte) : DecodeResult Encoded :=
  match bs with
  | [] => .more
  | c :: t =>
    if c = 0xC5 then decodeVex2 m fma4 bs.length t
    else if c = 0xC4 then decodeVex3 m fma4 bs.length t
    else if c = 0x66 then decodeLegacy m bs.length t
    else if c = 0xF0 ∨ c = 0xF2 ∨ c = 0xF3 ∨ isRex m c = true then beforeVex m t
    else .refused .notListed

/-- The instruction at the program counter and its length (30_encoding.md R127). -/
noncomputable def decode (m : Mode) (fma4 : Bool) (bs : List Byte) : DecodeResult Instr :=
  match decodeFields m fma4 bs with
  | .ok e len => .ok (e.form.build e.fields) len
  | .ud => .ud
  | .refused why => .refused why
  | .more => .more

/-! ### Encoding -/

/-- Bit 3 of a register number. -/
def Reg.hi (r : Reg) : Bool := r.bits.getLsbD 3

/-- Bits 2:0 of a register number. -/
def Reg.lo (r : Reg) : BitVec 3 := r.bits.extractLsb' 0 3

/-- The two bits of `mod` for a displacement (30_encoding.md R121). -/
def Disp.mod : Disp → BitVec 2
  | .none => 0
  | .d8 _ => 1
  | .d32 _ => 2

/-- A 32-bit field as four little-endian bytes (30_encoding.md R123). -/
def le32 (d : BitVec 32) : List Byte :=
  [d.extractLsb' 0 8, d.extractLsb' 8 8, d.extractLsb' 16 8, d.extractLsb' 24 8]

/-- The bytes of a displacement. -/
def Disp.bytes : Disp → List Byte
  | .none => []
  | .d8 d => [d]
  | .d32 d => le32 d

/-- How ModRM, SIB and displacement write an operand: `mod`, `rm`, the X and B bits, the bytes after ModRM. -/
structure RmEncoding where
  mod : BitVec 2
  rm : BitVec 3
  x : Bool
  b : Bool
  tail : List Byte
  deriving DecidableEq, Repr

/-- The index field of a SIB byte; 4 says there is none (30_encoding.md R122). -/
def indexField (i : Option Reg) : Reg := i.getD 4

/-- The encoding of a ModRM.rm operand (30_encoding.md R121, R122). An address given directly has none: the low 32 bits stand
for it, and `Instr.wf` excludes it. -/
def RegMem.encoding : RegMem → RmEncoding
  | .reg r => ⟨3, r.lo, false, r.hi, []⟩
  | .mem (.direct a) => ⟨0, 5, false, false, le32 (a.setWidth 32)⟩
  | .mem (.rip d) => ⟨0, 5, false, false, le32 d⟩
  | .mem (.abs d) => ⟨0, 5, false, false, le32 d⟩
  | .mem (.base b d) => ⟨d.mod, b.lo, false, b.hi, d.bytes⟩
  | .mem (.sib b s i d) =>
    ⟨d.mod, 4, (indexField i).hi, b.hi, (s ++ (indexField i).lo ++ b.lo : BitVec 8) :: d.bytes⟩
  | .mem (.sibNoBase s i d) =>
    ⟨0, 4, (indexField i).hi, false, (s ++ (indexField i).lo ++ (5 : BitVec 3) : BitVec 8) :: le32 d⟩

/-- The two bits of `pp` (30_encoding.md R114). -/
def Pp.bits : Pp → BitVec 2
  | .np => 0
  | .p66 => 1
  | .pF3 => 2
  | .pF2 => 3

/-- The five bits of `mmmmm` (30_encoding.md R114). -/
def OpMap.bits : OpMap → BitVec 5
  | .m0F => 1
  | .m0F38 => 2
  | .m0F3A => 3

/-- The escape bytes of a map (30_encoding.md R125). -/
def OpMap.escape : OpMap → List Byte
  | .m0F => [0x0F]
  | .m0F38 => [0x0F, 0x38]
  | .m0F3A => [0x0F, 0x3A]

/-- The L bit the encoder writes: 0 where the row ignores it. -/
def LenReq.bit : LenReq → Bool
  | .l256 => true
  | .l128 | .lig | .lz | .leg => false

/-- The W bit the encoder writes: 0 where the row ignores it. -/
def WReq.bit : WReq → Bool
  | .w1 => true
  | .w0 | .wig => false

/-- The three-byte VEX prefix, register bits inverted (30_encoding.md R113). -/
def vexPrefix (r x b w : Bool) (v : BitVec 4) (l : Bool) (pp : Pp) (map : OpMap) : List Byte :=
  [0xC4, BitVec.ofBool (!r) ++ BitVec.ofBool (!x) ++ BitVec.ofBool (!b) ++ map.bits,
    BitVec.ofBool w ++ ~~~v ++ BitVec.ofBool l ++ pp.bits]

/-- The trailing byte of a row. -/
def immBytes (q : ImmReq) (o : Operands) : List Byte :=
  match q with
  | .none => []
  | .ib => [o.imm]
  | .is4 => [o.is4.bits ++ o.imm.extractLsb' 0 4]

/-- ModRM and what follows it, up to the trailing byte; nothing for the rows without ModRM (30_encoding.md R113). -/
def modRMBytes (q : OpEnc) (regField : BitVec 3) (e : RmEncoding) : List Byte :=
  if q == .none then [] else (e.mod ++ regField ++ e.rm : BitVec 8) :: e.tail

/-- The bytes of an instruction with fields `o` under a row: the canonical three-byte VEX form, or the legacy form with a REX
byte where a register number needs one (30_encoding.md R113, R125, R132). -/
def encodeRow (f : Row) (o : Operands) : List Byte :=
  let e := o.rm.encoding
  let regField := f.ext.getD o.reg.lo
  let tail := modRMBytes f.enc regField e ++ immBytes f.imm o
  if f.len == .leg then
    let rex : List Byte :=
      if o.reg.hi || e.x || e.b then
        [(0x4 : BitVec 4) ++ (0 : BitVec 1) ++ BitVec.ofBool o.reg.hi ++ BitVec.ofBool e.x ++ BitVec.ofBool e.b]
      else []
    [(0x66 : Byte)] ++ rex ++ f.map.escape ++ [f.op] ++ tail
  else
    vexPrefix o.reg.hi e.x e.b f.w.bit o.v.bits f.len.bit f.pp f.map ++ [f.op] ++ tail

/-- The bytes of an instruction. -/
def encode (i : Instr) : List Byte := encodeRow i.form.row i.operands

/-! ### The words of the opcode table -/

/-- The longest instruction in scope fits 15 bytes (30_encoding.md R127). -/
def maxLength : Nat := 15

/-- `n` bytes of a number, least significant first. -/
def wordBytes (w : Nat) : Nat → List Byte
  | 0 => []
  | n + 1 => BitVec.ofNat 8 w :: wordBytes (w / 256) n

/-- The bytes of an instruction of the opcode table, as the table numbers its bits: the word `w` has `nbits` bits, the first
byte is the uppermost (30_encoding.md R132, log 7). Zero bytes follow, up to the longest instruction. -/
def tableBytes (nbits w : Nat) : List Byte :=
  (wordBytes w (nbits / 8)).reverse ++ List.replicate (maxLength - nbits / 8) 0

/-- The instruction the decoder reads from a table word, in Mode64 with `EncFMA4` on; `none` where it refuses. -/
noncomputable def decodeTableWord (nbits w : Nat) : Option Instr :=
  match decode .mode64 true (tableBytes nbits w) with
  | .ok i _ => some i
  | .ud => none
  | .refused _ => none
  | .more => none

end Sys2Proof
end

