-- ==== Sys2Proof/Machine/State.lean ====
section
/-! DEFINITION. The state of the machine as plain data (10_state.md), its faults and refusals (60_exceptions.md R501, R503)
and the state after reset. -/

namespace Sys2Proof.Machine

/-- One range of the memory map: the addresses `base` to `base + size - 1` are mapped, and writable if so marked
(20_memory.md R87). -/
structure Region where
  base : Nat
  size : Nat
  writable : Bool
  deriving DecidableEq, Repr

/-- The bytes of the program in memory (20_memory.md R91, 60_exceptions.md R518). -/
structure Extent where
  base : Addr
  size : Nat
  deriving DecidableEq, Repr

/-- The parameters that a launch fixes and no instruction changes (00_scope.md R10). -/
structure Params where
  /-- 00_scope.md R9. -/
  mode : Mode
  /-- The program is bytes in memory, decoded by the step; when false it is the list `terms` (30_encoding.md R112). -/
  encGk : Bool
  /-- 30_encoding.md R131. -/
  encFma4 : Bool
  /-- 40_new_instructions.md R160. -/
  permil2Sem : Bool
  /-- The record of numeric functions (05_numerics.md R561). -/
  numerics : NumericsChoice
  /-- The memory map, a list of regions (20_memory.md R87). -/
  memMap : List Region
  /-- Where the program's bytes lie; `none` while no program is loaded (20_memory.md R91, log 7, log 30). -/
  program : Option Extent
  /-- The program at mnemonic level, the instruction with index `pc` the next (30_encoding.md R111, 10_state.md R51). -/
  terms : List Instr
  deriving DecidableEq, Repr

/-- The six status flags (10_state.md R52). -/
structure StatusFlags where
  cf : Bool
  pf : Bool
  af : Bool
  zf : Bool
  sf : Bool
  of : Bool
  deriving DecidableEq, Repr

/-- Memory: the bytes that differ from what an unlisted address reads as, by strictly rising address (20_memory.md R81,
log 6). -/
abbrev Memory := List Host.Cell

/-- What an unlisted address reads as. DESIGN CHOICE, unsafe (log 6). -/
def Memory.unlisted : Byte := 0

/-- The canonical form of a memory from an address on: addresses strictly rising, no entry equal to what an unlisted address
reads as. -/
def Memory.wfFrom : Nat → Memory → Bool
  | _, [] => true
  | lo, (a, b) :: t => decide (lo ≤ a) && b != Memory.unlisted && Memory.wfFrom (a + 1) t

/-- The canonical form of a memory. -/
def Memory.wf (m : Memory) : Bool := Memory.wfFrom 0 m

/-- The state of the machine. -/
structure State where
  /-- The parameters of the run. -/
  par : Params
  /-- YMM[0..15]; XMM[n] is the low half of YMM[n] (10_state.md R40, R42). -/
  ymm : Vector (BitVec 256) 16
  /-- The control register (10_state.md R47, R48). -/
  mxcsr : BitVec 32
  /-- GPR[0..15] (10_state.md R50). -/
  gpr : Vector (BitVec 64) 16
  /-- FLAGS (10_state.md R52). -/
  flags : StatusFlags
  /-- The address of the next instruction, or of the one being executed; at mnemonic level its index (10_state.md R51). -/
  pc : Addr
  /-- The model's own field: the byte length of the instruction being executed, 1 at mnemonic level, which the step sets before
  it runs the instruction (30_encoding.md R127, 10_state.md R51, log 23). -/
  length : Nat
  /-- Memory (10_state.md R53). -/
  mem : Memory
  deriving DecidableEq, Repr

/-- The faults of 60_exceptions.md R503. Each ends the run with the state before the instruction (R501); safe, since nothing
is said of what the host does after it. -/
inductive Fault where
  /-- Invalid opcode: raised by the fetching step for the illegal encodings of 30_encoding.md R126 a to g. Safe. -/
  | ud
  /-- Device not available: never raised (R503). Safe. -/
  | nm
  /-- Stack fault: never raised; the model reports `gp0` (R503, 20_memory.md R83). Safe. -/
  | ss0
  /-- General protection: a non-canonical address, a misaligned operand that must be aligned, reserved MXCSR bits. Raised by
  the memory operations and VLDMXCSR. Safe. -/
  | gp0
  /-- Page fault at the lowest failing byte of an access, or at the first unmapped byte of a fetch. Safe. -/
  | pf (a : Addr)
  /-- Alignment check: never raised (R506). Safe. -/
  | ac0
  /-- An unmasked floating-point exception, with the flags that were raised and unmasked (R503, R504). R503 has the model record
  this set and R505 has it record nothing: the model follows R503. DESIGN CHOICE (log 32). Safe. -/
  | xm (unmasked : FpFlags)
  deriving DecidableEq, Repr

/-- Why the model gives no outcome (60_exceptions.md R501). All are safe: a refusal says nothing of the hardware. -/
inductive Refusal where
  /-- An instruction whose meaning is not written yet. Safe. -/
  | notModelled (mnemonic : String)
  /-- The encoding has no meaning in the spec (30_encoding.md R118, R126 h, i, j); raised by the fetching step. Safe. -/
  | encoding (why : Reject)
  /-- An operand that the mode cannot name (10_state.md R41, R50), register 4 as an index among them (20_memory.md R83); raised
  by a meaning given a term that no encoding of the mode denotes. Safe. -/
  | operandNotInMode
  /-- At mnemonic level, a term that matches no listed form (30_encoding.md R111, log 29); raised by the step. Safe. -/
  | termForm
  /-- VPERMIL2PD or VPERMIL2PS while `Permil2Sem` is false (40_new_instructions.md R160). Safe. -/
  | permil2Off
  /-- A store into the program's own bytes (20_memory.md R91). Safe. -/
  | storeIntoProgram
  /-- In Mode64, an instruction whose bytes cross the canonical boundary or the top of the address space (10_state.md R51);
  raised by the fetching step. Safe. -/
  | fetchBoundary
  /-- The run is over: pc is just past the program's last byte, or at mnemonic level past its last index (60_exceptions.md R518,
  log 14); raised by the step. Safe. -/
  | runEnded
  deriving DecidableEq, Repr

/-- The parameters of the reset state. DESIGN CHOICE (log 2, 3, 4, 7, 9): the spec leaves each of them open. -/
def Params.reset : Params :=
  { mode := .mode64, encGk := true, encFma4 := true, permil2Sem := true, numerics := .reference,
    memMap := [{ base := 0, size := 2 ^ 64, writable := true }], program := none, terms := [] }

/-- The state after reset. The spec describes no reset and leaves the launch state open (10_state.md R60,
70_reset_and_hazards.md R540): MXCSR has the one default it offers, every other value is a DESIGN CHOICE (log 1 to 7). -/
def State.reset : State :=
  { par := Params.reset
    ymm := Vector.replicate 16 0
    mxcsr := 0x00001F80
    gpr := Vector.replicate 16 0
    flags := ⟨false, false, false, false, false, false⟩
    pc := 0x400000
    length := 0
    mem := [] }

end Sys2Proof.Machine
end

