-- ==== Sys2Proof/Machine/Flags.lean ====
section
/-! DEFINITION. Flag computations: the floating-point exception flags and the fields of MXCSR (10_state.md R48,
05_numerics.md R563), and the status flags of the three tests (10_state.md R52). -/

namespace Sys2Proof.Machine

/-! ### The exception flags, at the positions of MXCSR[5:0] (05_numerics.md R563) -/

/-- Invalid operation, bit 0. -/
def flIE : FpFlags := 0x01
/-- Denormal operand, bit 1. -/
def flDE : FpFlags := 0x02
/-- Divide by zero, bit 2. -/
def flZE : FpFlags := 0x04
/-- Overflow, bit 3. -/
def flOE : FpFlags := 0x08
/-- Underflow, bit 4. -/
def flUE : FpFlags := 0x10
/-- Precision, bit 5. -/
def flPE : FpFlags := 0x20

/-- A flag set under a condition, else the empty set. -/
def flagIf (c : Bool) (f : FpFlags) : FpFlags := if c then f else 0

/-! ### MXCSR (10_state.md R48) -/

/-- MXCSR as a program reads it: bits 31:16 are zero (10_state.md R49 d). -/
def readMxcsr (s : State) : BitVec 32 := s.mxcsr &&& 0x0000FFFF

/-- The six mask bits, MXCSR[12:7]. -/
def fpMasks (s : State) : FpFlags := s.mxcsr.extractLsb' 7 6

/-- The control inputs of the numeric functions: RC, FZ and DAZ (05_numerics.md R564). -/
def ctl (s : State) : Ctl :=
  { rc := s.mxcsr.extractLsb' 13 2, fz := s.mxcsr.getLsbD 15, daz := s.mxcsr.getLsbD 6 }

/-- The raised flags that MXCSR does not mask (60_exceptions.md R504). -/
def unmaskedFlags (s : State) (fl : FpFlags) : FpFlags := fl &&& ~~~(fpMasks s)

/-! ### Status flags (10_state.md R52) -/

/-- The flags after a test: ZF and CF as computed, the other four cleared. -/
def testFlags (zf cf : Bool) : StatusFlags :=
  { cf := cf, pf := false, af := false, zf := zf, sf := false, of := false }

/-- The flags of VPTEST on two whole vectors (43_sse_on_ymm.md R241). -/
def ptestFlags {n : Nat} (t u : BitVec n) : StatusFlags :=
  testFlags (t &&& u == 0) (~~~t &&& u == 0)

end Sys2Proof.Machine
end

