-- ==== Sys2Proof/Machine/Ops.lean ====
section
/-! DEFINITION. The shared operations: faults, the memory map, memory accesses, register writes, the effect of raised flags
and the end of an instruction (00_scope.md R15, 10_state.md R46, 20_memory.md, 60_exceptions.md). -/

namespace Sys2Proof.Machine

/-! ### Outcomes (60_exceptions.md R501) -/

/-- The two ways an instruction ends without completing. -/
inductive Stop where
  | fault (f : Fault)
  | refused (r : Refusal)
  deriving DecidableEq, Repr

/-- A value, or the end of the instruction. -/
abbrev Res (α : Type) := Except Stop α

/-- Taking a fault: the one operation. The instruction is abandoned with the state before it, nothing is saved, no handler
runs and no return exists (60_exceptions.md R501, R505, R513, R514; log 13). -/
def raise {α : Type} (f : Fault) : Res α := .error (.fault f)

/-- Refusing: the model has no meaning for the instruction (60_exceptions.md R501). -/
def refuse {α : Type} (r : Refusal) : Res α := .error (.refused r)

/-- The outcome of an instruction. -/
def finish : Res State → Host.Outcome State Fault Refusal
  | .ok s => .next s
  | .error (.fault f) => .fault f
  | .error (.refused r) => .refused r

/-! ### Registers -/

/-- YMM[n], all 256 bits (10_state.md R45). -/
def readYmm (s : State) (r : Reg) : BitVec 256 := s.ymm.get r

/-- YMM[n] <- x. -/
def setYmm (s : State) (r : Reg) (x : BitVec 256) : State :=
  { s with ymm := s.ymm.set r.val x r.isLt }

/-- GPR[n], all 64 bits (10_state.md R50). -/
def readGpr (s : State) (r : Reg) : BitVec 64 := s.gpr.get r

/-- GPR[n] <- x. -/
def setGpr (s : State) (r : Reg) (x : BitVec 64) : State :=
  { s with gpr := s.gpr.set r.val x r.isLt }

/-- The destination of a V-mnemonic, XMM or YMM: the bits above the result become zero (10_state.md R46 a, b). -/
def writeVex {n : Nat} (s : State) (d : Reg) (x : BitVec n) : State := setYmm s d (x.setWidth 256)

/-- The XMM destination of a legacy form: bits 255:128 stay (10_state.md R46 c). -/
def writeLegacy (s : State) (d : Reg) (x : BitVec 128) : State :=
  setYmm s d ((readYmm s d).extractLsb' 128 128 ++ x)

/-- A 64-bit general-register destination (10_state.md R46 d). -/
def writeGpr64 (s : State) (d : Reg) (x : BitVec 64) : State := setGpr s d x

/-- A 32-bit general-register destination: the upper half becomes zero in Mode64 and stays in Mode32 (10_state.md R46 d,
log 22). -/
def writeGpr32 (s : State) (d : Reg) (x : BitVec 32) : State :=
  match s.par.mode with
  | .mode64 => setGpr s d (x.setWidth 64)
  | .mode32 => setGpr s d ((readGpr s d).extractLsb' 32 32 ++ x)

/-! ### Addresses (20_memory.md R82, R83) -/

/-- An address modulo the address width of the mode. -/
def wrap (m : Mode) (a : Addr) : Addr :=
  match m with
  | .mode64 => a
  | .mode32 => (a.setWidth 32).setWidth 64

/-- Bits 63:47 are all equal. -/
def canonical (a : Addr) : Bool := a.extractLsb' 47 17 == 0 || a.extractLsb' 47 17 == 0x1FFFF

/-- The address check of a mode: canonical in Mode64, none in Mode32. -/
def addressOk (m : Mode) (a : Addr) : Bool :=
  match m with
  | .mode64 => canonical a
  | .mode32 => true

/-- A displacement, sign-extended (30_encoding.md R123). -/
def dispValue : Disp → Addr
  | .none => 0
  | .d8 d => d.signExtend 64
  | .d32 d => d.signExtend 64

/-- The index term of a SIB byte (30_encoding.md R122). That register 4 is no index is checked with the operands a mode can
name. -/
def indexValue (s : State) (scale : BitVec 2) : Option Reg → Addr
  | none => 0
  | some i => readGpr s i <<< scale.toNat

/-- The address of the following instruction, at mnemonic level its index (30_encoding.md R127, 10_state.md R51). In Mode64 an
instruction whose last byte lies at 2^64 - 1 crosses nothing, so that it completes and pc becomes 0: the spec does not say
what pc + length = 2^64 gives. DESIGN CHOICE, unsafe (log 33). -/
def nextPc (s : State) : Addr := wrap s.par.mode (s.pc + BitVec.ofNat 64 s.length)

/-- The effective address of a memory operand (20_memory.md R83, 30_encoding.md R121, R122). -/
def effAddr (s : State) : MemOp → Addr
  | .direct a => wrap s.par.mode a
  | .rip d => wrap s.par.mode (nextPc s + d.signExtend 64)
  | .abs d => wrap s.par.mode (d.signExtend 64)
  | .base b d => wrap s.par.mode (readGpr s b + dispValue d)
  | .sib b sc i d => wrap s.par.mode (readGpr s b + indexValue s sc i + dispValue d)
  | .sibNoBase sc i d => wrap s.par.mode (indexValue s sc i + d.signExtend 64)

/-- The `n` byte addresses of an access at `a`, modulo the address width (20_memory.md R88). -/
def spanOf (m : Mode) (a : Addr) (n : Nat) : List Addr :=
  (List.range n).map fun k => wrap m (a + BitVec.ofNat 64 k)

/-! ### The memory map (20_memory.md R87, R88) -/

/-- The address lies in the region. -/
def Region.holds (r : Region) (a : Addr) : Bool :=
  decide (r.base ≤ a.toNat) && decide (a.toNat < r.base + r.size)

/-- `Mapped(a)`. -/
def mapped (p : Params) (a : Addr) : Bool := p.memMap.any fun r => Region.holds r a

/-- `Writable(a)`; it implies `Mapped(a)`. -/
def writable (p : Params) (a : Addr) : Bool := p.memMap.any fun r => Region.holds r a && r.writable

/-- The address is one of the program's own bytes (20_memory.md R91). At mnemonic level no instruction has bytes. With no
program recorded there is none either: a step still runs the bytes at pc, and a store into them completes. DESIGN CHOICE, unsafe
(log 30). -/
def inProgram (p : Params) (a : Addr) : Bool :=
  match p.program with
  | none => false
  | some e => p.encGk && decide ((wrap p.mode (a - e.base)).toNat < e.size)

/-- The lowest of some addresses. -/
def lowest : List Addr → Option Addr
  | [] => none
  | a :: t =>
    match lowest t with
    | none => some a
    | some b => some (if b < a then b else a)

/-- The map check of an access: `PF` with the lowest address that fails (20_memory.md R88). -/
def checkMap (ok : Addr → Bool) (as : List Addr) : Res Unit :=
  match lowest (as.filter fun a => !ok a) with
  | some a => raise (.pf a)
  | none => .ok ()

/-- The checks of an access of `n` bytes at `a` in the order of 60_exceptions.md R511: canonical, alignment to a multiple of
`align` (1 where the operand may lie anywhere), map. -/
def checkAccess (m : Mode) (ok : Addr → Bool) (align : Nat) (a : Addr) (n : Nat) : Res Unit :=
  if !addressOk m a then raise .gp0
  else if a.toNat % align != 0 then raise .gp0
  else checkMap ok (spanOf m a n)

/-! ### Memory contents (20_memory.md R81) -/

/-- The byte at an address. -/
def Memory.read : Memory → Nat → Byte
  | [], _ => Memory.unlisted
  | (k, b) :: t, a => if k = a then b else Memory.read t a

/-- The memory with one byte written, in canonical form again. -/
def Memory.write : Memory → Nat → Byte → Memory
  | [], a, v => if v = Memory.unlisted then [] else [(a, v)]
  | (k, b) :: t, a, v =>
    if a < k then
      if v = Memory.unlisted then (k, b) :: t else (a, v) :: (k, b) :: t
    else if a = k then
      if v = Memory.unlisted then t else (a, v) :: t
    else (k, b) :: Memory.write t a v

/-- The number that bytes make, least significant first. -/
def leNat : List Byte → Nat
  | [] => 0
  | b :: t => b.toNat + 256 * leNat t

/-- The `w`-bit value of the bytes at some addresses, the first the least significant. -/
def Memory.value (w : Nat) (m : Memory) (as : List Addr) : BitVec w :=
  BitVec.ofNat w (leNat (as.map fun a => Memory.read m a.toNat))

/-- The memory with the bytes of a number written at some addresses, least significant first. -/
def Memory.writeBytes : Memory → List Addr → Nat → Memory
  | m, [], _ => m
  | m, a :: t, v => Memory.writeBytes (Memory.write m a.toNat (BitVec.ofNat 8 v)) t (v / 256)

/-- The byte of memory at an address, as a program reads it. -/
def readByte (s : State) (a : Addr) : Byte := Memory.read s.mem a.toNat

/-! ### Data accesses (20_memory.md R84 to R91) -/

/-- A read of `w` bits at `a`. -/
def load (s : State) (a : Addr) (w align : Nat) : Res (BitVec w) := do
  checkAccess s.par.mode (mapped s.par) align a (w / 8)
  .ok (Memory.value w s.mem (spanOf s.par.mode a (w / 8)))

/-- A write of bytes at checked addresses: refused when one of them is a byte of the program (20_memory.md R91, log 19). -/
def storeAt (s : State) (as : List Addr) (v : Nat) : Res State :=
  if as.any (inProgram s.par) then refuse .storeIntoProgram
  else .ok { s with mem := Memory.writeBytes s.mem as v }

/-- A write of `w` bits at `a`, whole or not at all. -/
def store {w : Nat} (s : State) (a : Addr) (align : Nat) (v : BitVec w) : Res State := do
  checkAccess s.par.mode (writable s.par) align a (w / 8)
  storeAt s (spanOf s.par.mode a (w / 8)) v.toNat

/-! ### The end of an instruction -/

/-- The flags that a floating-point instruction raised: `XM` with nothing written if one is unmasked, else they join
MXCSR[5:0] (60_exceptions.md R504). -/
def commitFlags (s : State) (fl : FpFlags) : Res State :=
  if unmaskedFlags s fl = 0 then .ok { s with mxcsr := s.mxcsr ||| fl.setWidth 32 }
  else raise (.xm (unmaskedFlags s fl))

/-- pc <- pc + length (10_state.md R51). -/
def advance (s : State) : State := { s with pc := nextPc s }

end Sys2Proof.Machine
end

