-- ==== Sys2Proof/Machine/Operands.lean ====
section
/-! DEFINITION. The operand forms (30_encoding.md R119) over the execution frame of 00_scope.md R15: which operands are read
at which width, how the result is delivered. Each meaning is one of these shapes with the function its rule gives. -/

namespace Sys2Proof.Machine

/-- The outcome type of a meaning. -/
abbrev Out := Host.Outcome State Fault Refusal

/-! ### Operands a mode can name (10_state.md R41, R50; log 24) -/

/-- Every register of a memory operand exists in the mode, its index is not register 4, which cannot be one (20_memory.md R83),
and its addressing form exists too. DESIGN CHOICE, safe (log 24, 29): a term with such an index, which no bytes denote, is
refused. -/
def memOpNamed (m : Mode) : MemOp → Bool
  | .direct a => wrap m a == a
  | .rip _ => m == .mode64
  | .abs _ => m == .mode32
  | .base b _ => m.names b
  | .sib b _ i _ => m.names b && indexWf m i
  | .sibNoBase _ i _ => indexWf m i

/-- The same for a ModRM.rm operand. -/
def regMemNamed (m : Mode) : RegMem → Bool
  | .reg r => m.names r
  | .mem a => memOpNamed m a

/-- The mode can name these registers and this ModRM.rm operand, else the term is refused. -/
def needOperands (s : State) (rs : List Reg) (b : RegMem) : Res Unit :=
  if rs.all s.par.mode.names && regMemNamed s.par.mode b then .ok () else refuse .operandNotInMode

/-! ### Reading (10_state.md R45, 00_scope.md R15) -/

/-- The low `n` bits of a vector register: `xmmN`, `ymmN`, or the element a scalar instruction takes. -/
def readVec (n : Nat) (s : State) (r : Reg) : BitVec n := (readYmm s r).setWidth n

/-- A vector register or `w` bits of memory. -/
def readVecMem (w align : Nat) (s : State) : RegMem → Res (BitVec w)
  | .reg r => .ok (readVec w s r)
  | .mem m => load s (effAddr s m) w align

/-- The low `w` bits of a general register, or `w` bits of memory. -/
def readGprMem (w : Nat) (s : State) : RegMem → Res (BitVec w)
  | .reg r => .ok ((readGpr s r).setWidth w)
  | .mem m => load s (effAddr s m) w 1

/-! ### The frame (00_scope.md R15) -/

/-- Steps 3 to 5 of the frame: the raised flags, the destination, the program counter. -/
def deliver {n : Nat} (put : State → BitVec n → State) (s : State) (r : BitVec n × FpFlags) : Res State := do
  let s' ← commitFlags s r.2
  .ok (advance (put s' r.1))

/-- The frame: the operands are read, the result `f` computes from the ModRM.rm operand is delivered. -/
def frame {w n : Nat} (read : State → RegMem → Res (BitVec w)) (put : State → BitVec n → State) (rs : List Reg)
    (b : RegMem) (f : BitVec w → BitVec n × FpFlags) (s : State) : Out :=
  finish do
    needOperands s rs b
    let v ← read s b
    deliver put s (f v)

/-! ### Vector destinations -/

/-- RM and RMI: destination, source. No flags. -/
def opRM (n w : Nat) (f : BitVec w → BitVec n) (d : Reg) (b : RegMem) (s : State) : Out :=
  frame (readVecMem w 1) (fun t x => writeVex t d x) [d] b (fun v => (f v, 0)) s

/-- RM of the aligned moves (20_memory.md R85 a). -/
def opMoveAligned (n : Nat) (d : Reg) (b : RegMem) (s : State) : Out :=
  frame (readVecMem n (n / 8)) (fun t x => writeVex t d x) [d] b (fun v => (v, 0)) s

/-- RM and RMI of a floating-point instruction. -/
def opRMfp (n w : Nat) (f : Ctl → BitVec w → BitVec n × FpFlags) (d : Reg) (b : RegMem) (s : State) : Out :=
  frame (readVecMem w 1) (fun t x => writeVex t d x) [d] b (f (ctl s)) s

/-- RVM and RVMI: destination, first source, second source. No flags. -/
def opRVM (n w : Nat) (f : BitVec n → BitVec w → BitVec n) (d a : Reg) (b : RegMem) (s : State) : Out :=
  frame (readVecMem w 1) (fun t x => writeVex t d x) [d, a] b (fun v => (f (readVec n s a) v, 0)) s

/-- RVM and RVMI of a floating-point instruction. -/
def opRVMfp (n w : Nat) (f : Ctl → BitVec n → BitVec w → BitVec n × FpFlags) (d a : Reg) (b : RegMem) (s : State) : Out :=
  frame (readVecMem w 1) (fun t x => writeVex t d x) [d, a] b (f (ctl s) (readVec n s a)) s

/-- RVMR: the third source is the `is4` register. No flags. -/
def opRVMR (n : Nat) (f : BitVec n → BitVec n → BitVec n → BitVec n) (d a : Reg) (b : RegMem) (c : Reg) (s : State) : Out :=
  frame (readVecMem n 1) (fun t x => writeVex t d x) [d, a, c] b (fun v => (f (readVec n s a) v (readVec n s c), 0)) s

/-- RVRM: the second source is the `is4` register, the third ModRM.rm. No flags. -/
def opRVRM (n : Nat) (f : BitVec n → BitVec n → BitVec n → BitVec n) (d a c : Reg) (b : RegMem) (s : State) : Out :=
  frame (readVecMem n 1) (fun t x => writeVex t d x) [d, a, c] b (fun v => (f (readVec n s a) (readVec n s c) v, 0)) s

/-- RVMR of a multiply-accumulate instruction; the sources are read at width `w` (41_fma.md R180). -/
def opRVMRfp (n w : Nat) (f : Ctl → BitVec w → BitVec w → BitVec w → BitVec n × FpFlags) (d a : Reg) (b : RegMem) (c : Reg)
    (s : State) : Out :=
  frame (readVecMem w 1) (fun t x => writeVex t d x) [d, a, c] b (fun v => f (ctl s) (readVec w s a) v (readVec w s c)) s

/-- RVRM of a multiply-accumulate instruction (41_fma.md R180). -/
def opRVRMfp (n w : Nat) (f : Ctl → BitVec w → BitVec w → BitVec w → BitVec n × FpFlags) (d a c : Reg) (b : RegMem)
    (s : State) : Out :=
  frame (readVecMem w 1) (fun t x => writeVex t d x) [d, a, c] b (fun v => f (ctl s) (readVec w s a) (readVec w s c) v) s

/-- The two-operand legacy forms whose destination is also the first source: a memory operand is aligned to 16 bytes and
bits 255:128 of the destination stay (10_state.md R46 c, 20_memory.md R85 b). -/
def opLegacy (f : BitVec 128 → BitVec 128 → BitVec 128) (d : Reg) (b : RegMem) (s : State) : Out :=
  frame (readVecMem 128 16) (fun t x => writeLegacy t d x) [d] b (fun v => (f (readVec 128 s d) v, 0)) s

/-! ### General registers -/

/-- A 32-bit general-register destination from a vector register or memory. -/
def opToGpr32 (w : Nat) (f : Ctl → BitVec w → BitVec 32 × FpFlags) (d : Reg) (b : RegMem) (s : State) : Out :=
  frame (readVecMem w 1) (fun t x => writeGpr32 t d x) [d] b (f (ctl s)) s

/-- A form that names a 64-bit general register is refused in Mode32 (10_state.md R50, 49_conversions.md R475). -/
def needMode64 (s : State) (k : Out) : Out :=
  match s.par.mode with
  | .mode64 => k
  | .mode32 => .refused .operandNotInMode

/-- A 64-bit general-register destination from a vector register or memory. -/
def opToGpr64 (w : Nat) (f : Ctl → BitVec w → BitVec 64 × FpFlags) (d : Reg) (b : RegMem) (s : State) : Out :=
  needMode64 s (frame (readVecMem w 1) (fun t x => writeGpr64 t d x) [d] b (f (ctl s)) s)

/-- A vector destination, a vector first source, and a general register or memory of `w` bits. -/
def opFromGpr (w : Nat) (f : Ctl → BitVec 128 → BitVec w → BitVec 128 × FpFlags) (d a : Reg) (b : RegMem) (s : State) : Out :=
  frame (readGprMem w) (fun t x => writeVex t d x) [d, a] b (f (ctl s) (readVec 128 s a)) s

/-- The same with a 64-bit general register. -/
def opFromGpr64 (f : Ctl → BitVec 128 → BitVec 64 → BitVec 128 × FpFlags) (d a : Reg) (b : RegMem) (s : State) : Out :=
  needMode64 s (opFromGpr 64 f d a b s)

/-! ### Memory destinations -/

/-- A store of `n` bits of the state (MR with a memory operand, M). -/
def opStore {n : Nat} (align : Nat) (m : MemOp) (rs : List Reg) (x : State → BitVec n) (s : State) : Out :=
  finish do
    needOperands s rs (.mem m)
    let s' ← store s (effAddr s m) align (x s)
    .ok (advance s')

/-- MR and MRI: the ModRM.rm operand is the destination, a register or memory. -/
def opMR {n : Nat} (align : Nat) (d : RegMem) (a : Reg) (x : State → BitVec n) (s : State) : Out :=
  match d with
  | .reg r => finish do
      needOperands s [a] (.reg r)
      .ok (advance (writeVex s r (x s)))
  | .mem m => opStore align m [a] x s

/-! ### Tests -/

/-- A test: two sources, the status flags (10_state.md R52). -/
def opTest (n : Nat) (f : BitVec n → BitVec n → StatusFlags) (a : Reg) (b : RegMem) (s : State) : Out :=
  finish do
    needOperands s [a] b
    let v ← readVecMem n 1 s b
    .ok (advance { s with flags := f (readVec n s a) v })

end Sys2Proof.Machine
end

