-- ==== Sys2Proof/Machine/Lanes.lean ====
section
/-! DEFINITION. Element views of a vector (00_scope.md R13, 10_state.md R44), the integer helpers of R16, and the ways of
building a result element by element. -/

namespace Sys2Proof.Machine

/-- Element `i` of width `w` (00_scope.md R13). -/
def elem {n : Nat} (w i : Nat) (x : BitVec n) : BitVec w := x.extractLsb' (w * i) w

/-- The `n`-bit value whose first `k` elements of width `w` are given by `g`, zero above. -/
def build (n w : Nat) (g : Nat → BitVec w) : Nat → BitVec n
  | 0 => 0
  | k + 1 => build n w g k ||| ((g k).setWidth n <<< (w * k))

/-- The union of the flags of `k` elements (05_numerics.md R563). -/
def unionFlags (g : Nat → FpFlags) : Nat → FpFlags
  | 0 => 0
  | k + 1 => unionFlags g k ||| g k

/-- All `n / w` elements of a result. -/
def vec (n w : Nat) (g : Nat → BitVec w) : BitVec n := build n w g (n / w)

/-- `k` elements of a floating-point result with the union of their flags. -/
def vecFpOf (n w k : Nat) (g : Nat → BitVec w × FpFlags) : BitVec n × FpFlags :=
  (build n w (fun i => (g i).1) k, unionFlags (fun i => (g i).2) k)

/-- All `n / w` elements of a floating-point result. -/
def vecFp (n w : Nat) (g : Nat → BitVec w × FpFlags) : BitVec n × FpFlags := vecFpOf n w (n / w) g

/-- A vector with element `i` replaced (00_scope.md R13, assignment to an element). -/
def setElem {n : Nat} (w i : Nat) (v : BitVec w) (x : BitVec n) : BitVec n :=
  vec n w fun j => if j = i then v else elem w j x

/-- Element by element on two vectors. -/
def zipVec {n : Nat} (w : Nat) (f : BitVec w → BitVec w → BitVec w) (a b : BitVec n) : BitVec n :=
  vec n w fun i => f (elem w i a) (elem w i b)

/-- Element by element on two vectors, with flags. -/
def zipFp {n : Nat} (w : Nat) (f : BitVec w → BitVec w → BitVec w × FpFlags) (a b : BitVec n) : BitVec n × FpFlags :=
  vecFp n w fun i => f (elem w i a) (elem w i b)

/-- Element by element on one vector, with flags. -/
def mapFp {n : Nat} (w : Nat) (f : BitVec w → BitVec w × FpFlags) (a : BitVec n) : BitVec n × FpFlags :=
  vecFp n w fun i => f (elem w i a)

/-- A scalar result: element 0 from `r`, the rest of the 128 bits from the first source (44_three_operand_xmm_ymm_a.md R267). -/
def scalarFp (w : Nat) (a : BitVec 128) (r : BitVec w × FpFlags) : BitVec 128 × FpFlags := (setElem w 0 r.1 a, r.2)

/-- All ones or all zeros (44_three_operand_xmm_ymm_b.md R291, 46_three_operand_xmm_int_a.md R371). -/
def maskOf (w : Nat) (t : Bool) : BitVec w := if t then BitVec.allOnes w else 0

/-- A bit of an immediate as an index. -/
def bitNat (imm : BitVec 8) (i : Nat) : Nat := (imm.getLsbD i).toNat

/-- A 2-bit field of an immediate as an index. -/
def fieldNat (imm : BitVec 8) (lo : Nat) : Nat := (imm.extractLsb' lo 2).toNat

/-! ### Integer helpers (00_scope.md R16) -/

/-- `sat_s(N, v)`. -/
def satS (w : Nat) (v : Int) : BitVec w :=
  if v < -(2 ^ (w - 1) : Int) then BitVec.ofInt w (-(2 ^ (w - 1) : Int))
  else if v > (2 ^ (w - 1) : Int) - 1 then BitVec.ofInt w ((2 ^ (w - 1) : Int) - 1)
  else BitVec.ofInt w v

/-- `sat_u(N, v)`. -/
def satU (w : Nat) (v : Int) : BitVec w :=
  if v < 0 then 0
  else if v > (2 ^ w : Int) - 1 then BitVec.ofInt w ((2 ^ w : Int) - 1)
  else BitVec.ofInt w v

/-- The unsigned reading of a value as an exact integer. -/
def unsigned {w : Nat} (x : BitVec w) : Int := (x.toNat : Int)

/-- `|a - b|` of two unsigned values. -/
def absDiff {w : Nat} (a b : BitVec w) : Nat := (a.toNat - b.toNat) + (b.toNat - a.toNat)

/-- A sum over `k` terms. -/
def sumNat (g : Nat → Nat) : Nat → Nat
  | 0 => 0
  | k + 1 => sumNat g k + g k

/-- The exclusive or of `k` terms. -/
def xorBits {w : Nat} (g : Nat → BitVec w) : Nat → BitVec w
  | 0 => 0
  | k + 1 => xorBits g k ^^^ g k

end Sys2Proof.Machine
end

