-- ==== Sys2Proof/Machine/Aes.lean ====
section
/-! DEFINITION. The AES support instructions (42_aes.md) and the carry-less multiplication (40_new_instructions.md R163),
legacy and V forms. -/

namespace Sys2Proof.Machine

/-! ### The byte substitutions (42_aes.md R210): sixteen rows of sixteen bytes, byte 0 of a row leftmost -/

/-- The rows of SBOX. -/
def sboxRows : List (BitVec 128) :=
  [0x637C777BF26B6FC53001672BFED7AB76,
   0xCA82C97DFA5947F0ADD4A2AF9CA472C0,
   0xB7FD9326363FF7CC34A5E5F171D83115,
   0x04C723C31896059A071280E2EB27B275,
   0x09832C1A1B6E5AA0523BD6B329E32F84,
   0x53D100ED20FCB15B6ACBBE394A4C58CF,
   0xD0EFAAFB434D338545F9027F503C9FA8,
   0x51A3408F929D38F5BCB6DA2110FFF3D2,
   0xCD0C13EC5F974417C4A77E3D645D1973,
   0x60814FDC222A908846EEB814DE5E0BDB,
   0xE0323A0A4906245CC2D3AC629195E479,
   0xE7C8376D8DD54EA96C56F4EA657AAE08,
   0xBA78252E1CA6B4C6E8DD741F4BBD8B8A,
   0x703EB5664803F60E613557B986C11D9E,
   0xE1F8981169D98E949B1E87E9CE5528DF,
   0x8CA1890DBFE6426841992D0FB054BB16]

/-- The rows of ISBOX. -/
def isboxRows : List (BitVec 128) :=
  [0x52096AD53036A538BF40A39E81F3D7FB,
   0x7CE339829B2FFF87348E4344C4DEE9CB,
   0x547B9432A6C2233DEE4C950B42FAC34E,
   0x082EA16628D924B2765BA2496D8BD125,
   0x72F8F66486689816D4A45CCC5D65B692,
   0x6C704850FDEDB9DA5E154657A78D9D84,
   0x90D8AB008CBCD30AF7E45805B8B34506,
   0xD02C1E8FCA3F0F02C1AFBD0301138A6B,
   0x3A9111414F67DCEA97F2CFCEF0B4E673,
   0x96AC7422E7AD3585E2F937E81C75DF6E,
   0x47F11A711D29C5896FB7620EAA18BE1B,
   0xFC563E4BC6D279209ADBC0FE78CD5AF4,
   0x1FDDA8338807C731B11210592780EC5F,
   0x60517FA919B54A0D2DE57A9F93C99CEF,
   0xA0E03B4DAE2AF5B0C8EBBB3C83539961,
   0x172B047EBA77D626E169146355210C7D]

/-- The byte a table gives: the row by the high digit, the column by the low. -/
def lookup (rows : List (BitVec 128)) (v : Byte) : Byte :=
  (rows.getD (v.toNat / 16) 0).extractLsb' (8 * (15 - v.toNat % 16)) 8

/-- SBOX. -/
def subByte (v : Byte) : Byte := lookup sboxRows v

/-- ISBOX. -/
def invSubByte (v : Byte) : Byte := lookup isboxRows v

/-! ### The round functions (42_aes.md R210) -/

/-- A 128-bit value byte by byte. -/
def bytes16 (g : Nat → Byte) : BitVec 128 := vec 128 8 g

def subBytes (x : BitVec 128) : BitVec 128 := bytes16 fun i => subByte (elem 8 i x)
def invSubBytes (x : BitVec 128) : BitVec 128 := bytes16 fun i => invSubByte (elem 8 i x)

/-- Row `i % 4` of column `i / 4` comes from column `i / 4 + i % 4`. -/
def shiftRows (x : BitVec 128) : BitVec 128 := bytes16 fun i => elem 8 (i % 4 + 4 * ((i / 4 + i % 4) % 4)) x

/-- Row `i % 4` of column `i / 4` comes from column `i / 4 - i % 4`. -/
def invShiftRows (x : BitVec 128) : BitVec 128 := bytes16 fun i => elem 8 (i % 4 + 4 * ((i / 4 + 4 - i % 4) % 4)) x

/-- `2 • a` in the field. -/
def xt (a : Byte) : Byte := if a.getLsbD 7 then (a <<< 1) ^^^ 0x1B else a <<< 1

/-- `3 • a`. -/
def times3 (a : Byte) : Byte := xt a ^^^ a

/-- `9 • a`. -/
def times9 (a : Byte) : Byte := xt (xt (xt a)) ^^^ a

/-- `11 • a`. -/
def times11 (a : Byte) : Byte := xt (xt (xt a)) ^^^ xt a ^^^ a

/-- `13 • a`. -/
def times13 (a : Byte) : Byte := xt (xt (xt a)) ^^^ xt (xt a) ^^^ a

/-- `14 • a`. -/
def times14 (a : Byte) : Byte := xt (xt (xt a)) ^^^ xt (xt a) ^^^ xt a

/-- Byte `r + k` (modulo 4) of the column that holds byte `i`. -/
def columnByte (x : BitVec 128) (i k : Nat) : Byte := elem 8 (i / 4 * 4 + (i + k) % 4) x

def mixColumns (x : BitVec 128) : BitVec 128 := bytes16 fun i =>
  xt (columnByte x i 0) ^^^ times3 (columnByte x i 1) ^^^ columnByte x i 2 ^^^ columnByte x i 3

def invMixColumns (x : BitVec 128) : BitVec 128 := bytes16 fun i =>
  times14 (columnByte x i 0) ^^^ times11 (columnByte x i 1) ^^^ times13 (columnByte x i 2) ^^^ times9 (columnByte x i 3)

/-- `SubWord`. -/
def subWord (w : BitVec 32) : BitVec 32 := vec 32 8 fun i => subByte (elem 8 i w)

/-- `RotWord`. -/
def rotWord (w : BitVec 32) : BitVec 32 := (w >>> 8) ||| (w <<< 24)

/-! ### The instructions' results -/

/-- AESDEC (42_aes.md R211). -/
def aesDec (x k : BitVec 128) : BitVec 128 := invMixColumns (invSubBytes (invShiftRows x)) ^^^ k

/-- AESDECLAST (42_aes.md R212). -/
def aesDecLast (x k : BitVec 128) : BitVec 128 := invSubBytes (invShiftRows x) ^^^ k

/-- AESENC (42_aes.md R213). -/
def aesEnc (x k : BitVec 128) : BitVec 128 := mixColumns (subBytes (shiftRows x)) ^^^ k

/-- AESENCLAST (42_aes.md R214). -/
def aesEncLast (x k : BitVec 128) : BitVec 128 := subBytes (shiftRows x) ^^^ k

/-- AESKEYGENASSIST (42_aes.md R216). -/
def aesKeygen (imm : BitVec 8) (a : BitVec 128) : BitVec 128 := vec 128 32 fun i =>
  let x := subWord (elem 32 (i / 2 * 2 + 1) a)
  if i % 2 = 0 then x else rotWord x ^^^ imm.setWidth 32

/-- The carry-less product of two 64-bit values (40_new_instructions.md R163). -/
def clmul (x y : BitVec 64) : BitVec 128 :=
  xorBits (fun i => if y.getLsbD i then x.setWidth 128 <<< i else 0) 64

/-- PCLMULQDQ: immediate bits 0 and 4 pick the halves (40_new_instructions.md R163). -/
def pclmul (imm : BitVec 8) (a b : BitVec 128) : BitVec 128 :=
  clmul (elem 64 (bitNat imm 0) a) (elem 64 (bitNat imm 4) b)

/-! ### The instructions -/

/-- AESIMC xmm1, xmm2/m128 (42_aes.md R215). -/
def execAesimc (d : Reg) (b : RegMem) (s : State) : Out :=
  opLegacy (fun _ v => invMixColumns v) d b s

/-- VAESIMC xmm1, xmm2/m128 (42_aes.md R215). -/
def execVaesimc (d : Reg) (b : RegMem) (s : State) : Out :=
  opRM 128 128 invMixColumns d b s

/-- AESENC xmm1, xmm2/m128 (42_aes.md R213). -/
def execAesenc (d : Reg) (b : RegMem) (s : State) : Out :=
  opLegacy aesEnc d b s

/-- VAESENC xmm1, xmm2, xmm3/m128 (42_aes.md R213). -/
def execVaesenc (d a : Reg) (b : RegMem) (s : State) : Out :=
  opRVM 128 128 aesEnc d a b s

/-- AESENCLAST xmm1, xmm2/m128 (42_aes.md R214). -/
def execAesenclast (d : Reg) (b : RegMem) (s : State) : Out :=
  opLegacy aesEncLast d b s

/-- VAESENCLAST xmm1, xmm2, xmm3/m128 (42_aes.md R214). -/
def execVaesenclast (d a : Reg) (b : RegMem) (s : State) : Out :=
  opRVM 128 128 aesEncLast d a b s

/-- AESDEC xmm1, xmm2/m128 (42_aes.md R211). -/
def execAesdec (d : Reg) (b : RegMem) (s : State) : Out :=
  opLegacy aesDec d b s

/-- VAESDEC xmm1, xmm2, xmm3/m128 (42_aes.md R211). -/
def execVaesdec (d a : Reg) (b : RegMem) (s : State) : Out :=
  opRVM 128 128 aesDec d a b s

/-- AESDECLAST xmm1, xmm2/m128 (42_aes.md R212). -/
def execAesdeclast (d : Reg) (b : RegMem) (s : State) : Out :=
  opLegacy aesDecLast d b s

/-- VAESDECLAST xmm1, xmm2, xmm3/m128 (42_aes.md R212). -/
def execVaesdeclast (d a : Reg) (b : RegMem) (s : State) : Out :=
  opRVM 128 128 aesDecLast d a b s

/-- PCLMULQDQ xmm1, xmm2/m128, imm8 (40_new_instructions.md R163). -/
def execPclmulqdq (d : Reg) (b : RegMem) (imm : BitVec 8) (s : State) : Out :=
  opLegacy (pclmul imm) d b s

/-- VPCLMULQDQ xmm1, xmm2, xmm3/m128, imm8 (40_new_instructions.md R163). -/
def execVpclmulqdq (d a : Reg) (b : RegMem) (imm : BitVec 8) (s : State) : Out :=
  opRVM 128 128 (pclmul imm) d a b s

/-- AESKEYGENASSIST xmm1, xmm2/m128, imm8 (42_aes.md R216). -/
def execAeskeygenassist (d : Reg) (b : RegMem) (imm : BitVec 8) (s : State) : Out :=
  opLegacy (fun _ v => aesKeygen imm v) d b s

/-- VAESKEYGENASSIST xmm1, xmm2/m128, imm8 (42_aes.md R216). -/
def execVaeskeygenassist (d : Reg) (b : RegMem) (imm : BitVec 8) (s : State) : Out :=
  opRM 128 128 (aesKeygen imm) d b s

end Sys2Proof.Machine
end

