-- ==== Sys2Proof/Machine/Numerics.lean ====
section
/-! DEFINITION. The reference instance NumericsRef of the floating-point record (05_numerics.md R561 to R588): exact rational
arithmetic, one rounding; and the record a run takes. Log 9; the free values are those of Config (log 9 to 12). -/

namespace Sys2Proof

/-! ### Formats (R562) -/

/-- The number of fraction bits, F = p - 1. -/
def Fmt.frac : Fmt → Nat
  | .f32 => 23
  | .f64 => 52

/-- The number of exponent bits. -/
def Fmt.expBits : Fmt → Nat
  | .f32 => 8
  | .f64 => 11

/-- The bias, which is also emax. -/
def Fmt.bias : Fmt → Nat
  | .f32 => 127
  | .f64 => 1023

/-- emin = 1 - bias. -/
def Fmt.emin (F : Fmt) : Int := 1 - (F.bias : Int)

/-- The exponent field of all ones. -/
def Fmt.expMax (F : Fmt) : Nat := 2 ^ F.expBits - 1

end Sys2Proof

namespace Sys2Proof.Machine

/-- The pattern with a sign, an exponent field and a fraction. -/
def pack (F : Fmt) (s : Bool) (e f : Nat) : BitVec F.width :=
  BitVec.ofNat F.width (s.toNat * 2 ^ (F.width - 1) + e * 2 ^ F.frac + f)

/-- The sign bit. -/
def signOf {F : Fmt} (x : BitVec F.width) : Bool := x.getLsbD (F.width - 1)

/-- The exponent field. -/
def expOf {F : Fmt} (x : BitVec F.width) : Nat := x.toNat / 2 ^ F.frac % 2 ^ F.expBits

/-- The fraction. -/
def fracOf {F : Fmt} (x : BitVec F.width) : Nat := x.toNat % 2 ^ F.frac

def isZero {F : Fmt} (x : BitVec F.width) : Bool := expOf x == 0 && fracOf x == 0
def isDenormal {F : Fmt} (x : BitVec F.width) : Bool := expOf x == 0 && fracOf x != 0
def isInf {F : Fmt} (x : BitVec F.width) : Bool := expOf x == F.expMax && fracOf x == 0
def isNaN {F : Fmt} (x : BitVec F.width) : Bool := expOf x == F.expMax && fracOf x != 0

/-- A NaN whose top fraction bit is 0. -/
def isSNaN {F : Fmt} (x : BitVec F.width) : Bool := isNaN x && !x.getLsbD (F.frac - 1)

/-- `quiet(x)`: the top fraction bit set. -/
def quiet {F : Fmt} (x : BitVec F.width) : BitVec F.width := x ||| BitVec.ofNat F.width (2 ^ (F.frac - 1))

/-- `Indef(fmt)`. -/
def indef (F : Fmt) : BitVec F.width := pack F true F.expMax (2 ^ (F.frac - 1))

/-- `Inf(fmt, s)`. -/
def infOf (F : Fmt) (s : Bool) : BitVec F.width := pack F s F.expMax 0

/-- `Zero(fmt, s)`. -/
def zeroOf (F : Fmt) (s : Bool) : BitVec F.width := pack F s 0 0

/-- `MaxFinite(fmt, s)`. -/
def maxFinite (F : Fmt) (s : Bool) : BitVec F.width := pack F s (F.expMax - 1) (2 ^ F.frac - 1)

/-! ### Exact values -/

/-- The integer significand of a finite pattern: its magnitude is `mant x * 2 ^ expo x` (R562). -/
def mant {F : Fmt} (x : BitVec F.width) : Nat := if expOf x = 0 then fracOf x else 2 ^ F.frac + fracOf x

/-- The exponent that goes with `mant` (R562). -/
def expo {F : Fmt} (x : BitVec F.width) : Int :=
  (if expOf x = 0 then F.emin else (expOf x : Int) - F.bias) - F.frac

/-- An exact non-negative magnitude `num / den * 2 ^ exp`. -/
structure Mag where
  num : Nat
  den : Nat
  exp : Int
  deriving DecidableEq, Repr

/-- The magnitude of a finite pattern. -/
def magOf {F : Fmt} (x : BitVec F.width) : Mag := ⟨mant x, 1, expo x⟩

/-- A magnitude divided by `2 ^ k`, as numerator and denominator. -/
def Mag.scaled (m : Mag) (k : Int) : Nat × Nat :=
  if k ≤ m.exp then (m.num * 2 ^ (m.exp - k).toNat, m.den) else (m.num, m.den * 2 ^ (k - m.exp).toNat)

/-- The integer `e` with `2 ^ e ≤ m < 2 ^ (e + 1)`, for a positive magnitude. -/
def Mag.log2 (m : Mag) : Int :=
  let l : Int := (Nat.log2 m.num : Int) - (Nat.log2 m.den : Int)
  let below := if 0 ≤ l then decide (m.num < m.den * 2 ^ l.toNat) else decide (m.num * 2 ^ (-l).toNat < m.den)
  m.exp + (if below then l - 1 else l)

/-! ### Rounding (R565, R566) -/

/-- `rint(q, s, rc)` for `q = num / den`: the integer and whether it is inexact (R565). -/
def rint (num den : Nat) (s : Bool) (rc : BitVec 2) : Nat × Bool :=
  let t := num / den
  let r := num % den
  if r = 0 then (t, false)
  else if rc = 0 then (if den < 2 * r ∨ (den = 2 * r ∧ t % 2 = 1) then t + 1 else t, true)
  else if rc = 1 then (if s then t + 1 else t, true)
  else if rc = 2 then (if s then t else t + 1, true)
  else (t, true)

/-- The overflow result and its flags (R566). -/
def overflowResult (F : Fmt) (c : Ctl) (s : Bool) : BitVec F.width × FpFlags :=
  (if c.rc = 0 ∨ (c.rc = 1 ∧ s = true) ∨ (c.rc = 2 ∧ s = false) then infOf F s else maxFinite F s, flOE ||| flPE)

/-- The result for a value that is tiny after rounding, and its flags (R566). -/
def tinyResult (F : Fmt) (c : Ctl) (s : Bool) (m : Mag) : BitVec F.width × FpFlags :=
  if c.fz then (zeroOf F s, flUE ||| flPE)
  else
    let q := m.scaled (F.emin - F.frac)
    let r := rint q.1 q.2 s c.rc
    (pack F s 0 r.1, if r.2 then flUE ||| flPE else 0)

/-- `round_pack(fmt, ctl, s, m)` (R566). -/
def roundPack (F : Fmt) (c : Ctl) (s : Bool) (m : Mag) : BitVec F.width × FpFlags :=
  let e := m.log2
  let q := m.scaled (e - F.frac)
  let r := rint q.1 q.2 s c.rc
  let carry := r.1 == 2 ^ (F.frac + 1)
  let n := if carry then 2 ^ F.frac else r.1
  let e' := if carry then e + 1 else e
  if (F.bias : Int) < e' then overflowResult F c s
  else if e' < F.emin then tinyResult F c s m
  else (pack F s (e' + F.bias).toNat (n - 2 ^ F.frac), flagIf r.2 flPE)

/-! ### Operands (R564, R567) -/

/-- `daz(fmt, ctl, x)` (R564). -/
def daz {F : Fmt} (c : Ctl) (x : BitVec F.width) : BitVec F.width :=
  if c.daz && isDenormal x then zeroOf F (signOf x) else x

/-- The denormal-operand flag of two operands (R568). -/
def denormal2 {F : Fmt} (a b : BitVec F.width) : FpFlags := flagIf (isDenormal a || isDenormal b) flDE

/-- `nan2(fmt, a, b)` (R567). -/
def nan2 {F : Fmt} (a b : BitVec F.width) : BitVec F.width × FpFlags :=
  (if isNaN a then quiet a else quiet b, flagIf (isSNaN a || isSNaN b) flIE)

/-- A result with further flags. -/
def addFlags {n : Nat} (r : BitVec n × FpFlags) (f : FpFlags) : BitVec n × FpFlags := (r.1, r.2 ||| f)

/-- An integer with a sign. -/
def signedInt (s : Bool) (n : Nat) : Int := if s then -(n : Int) else n

/-! ### Arithmetic (R568 to R571) -/

/-- The sum of two signed finite magnitudes as an integer over `2 ^ min` of their exponents. -/
def exactSum (s1 : Bool) (m1 : Nat) (e1 : Int) (s2 : Bool) (m2 : Nat) (e2 : Int) : Int × Int :=
  let e := min e1 e2
  (signedInt s1 (m1 * 2 ^ (e1 - e).toNat) + signedInt s2 (m2 * 2 ^ (e2 - e).toNat), e)

/-- Rounds an exact non-zero signed sum. -/
def roundSum (F : Fmt) (c : Ctl) (r : Int × Int) : BitVec F.width × FpFlags :=
  roundPack F c (decide (r.1 < 0)) ⟨r.1.natAbs, 1, r.2⟩

/-- The sum of two operands that are no NaN, the second with sign `sb` (R568). -/
def addCore {F : Fmt} (c : Ctl) (a : BitVec F.width) (sb : Bool) (b : BitVec F.width) : BitVec F.width × FpFlags :=
  let de := denormal2 a b
  if isInf a && isInf b && signOf a != sb then (indef F, flIE)
  else if isInf a then (a, de)
  else if isInf b then (infOf F sb, de)
  else
    let r := exactSum (signOf a) (mant a) (expo a) sb (mant b) (expo b)
    if r.1 = 0 then
      (zeroOf F (if isZero a && isZero b && signOf a == sb then sb else c.rc == 1), de)
    else addFlags (roundSum F c r) de

/-- `fadd` (R568). -/
def fadd (F : Fmt) (c : Ctl) (a0 b0 : BitVec F.width) : BitVec F.width × FpFlags :=
  let a := daz c a0
  let b := daz c b0
  if isNaN a || isNaN b then nan2 a b else addCore c a (signOf b) b

/-- `fsub` (R568). -/
def fsub (F : Fmt) (c : Ctl) (a0 b0 : BitVec F.width) : BitVec F.width × FpFlags :=
  let a := daz c a0
  let b := daz c b0
  if isNaN a || isNaN b then nan2 a b else addCore c a (!signOf b) b

/-- `fmul` (R569). -/
def fmul (F : Fmt) (c : Ctl) (a0 b0 : BitVec F.width) : BitVec F.width × FpFlags :=
  let a := daz c a0
  let b := daz c b0
  let s := signOf a != signOf b
  let de := denormal2 a b
  if isNaN a || isNaN b then nan2 a b
  else if (isInf a && isZero b) || (isZero a && isInf b) then (indef F, flIE)
  else if isInf a || isInf b then (infOf F s, de)
  else if isZero a || isZero b then (zeroOf F s, de)
  else addFlags (roundPack F c s ⟨mant a * mant b, 1, expo a + expo b⟩) de

/-- `fdiv` (R570). -/
def fdiv (F : Fmt) (c : Ctl) (a0 b0 : BitVec F.width) : BitVec F.width × FpFlags :=
  let a := daz c a0
  let b := daz c b0
  let s := signOf a != signOf b
  let de := denormal2 a b
  if isNaN a || isNaN b then nan2 a b
  else if (isInf a && isInf b) || (isZero a && isZero b) then (indef F, flIE)
  else if isInf a then (infOf F s, de)
  else if isInf b then (zeroOf F s, de)
  else if isZero b then (infOf F s, de ||| flZE)
  else if isZero a then (zeroOf F s, de)
  else addFlags (roundPack F c s ⟨mant a, mant b, expo a - expo b⟩) de

/-- The integer square root below `2 ^ k`, bit by bit. -/
def isqrtBits (n : Nat) : Nat → Nat → Nat
  | 0, r => r
  | k + 1, r => isqrtBits n k (if (r + 2 ^ k) * (r + 2 ^ k) ≤ n then r + 2 ^ k else r)

/-- The integer square root. -/
def isqrt (n : Nat) : Nat := isqrtBits n (Nat.log2 n / 2 + 1) 0

/-- A magnitude that rounds as the exact square root of `n * 2 ^ e` does: 64 more bits than any format keeps, and one sticky
bit below them when the root is not exact (R571). -/
def sqrtMag (n : Nat) (e : Int) : Mag :=
  let odd := e % 2
  let x := n * 2 ^ (odd.toNat + 128)
  let r := isqrt x
  ⟨2 * r + (if r * r = x then 0 else 1), 1, (e - odd) / 2 - 65⟩

/-- `fsqrt` (R571). -/
def fsqrt (F : Fmt) (c : Ctl) (a0 : BitVec F.width) : BitVec F.width × FpFlags :=
  let a := daz c a0
  let de := flagIf (isDenormal a) flDE
  if isNaN a then (quiet a, flagIf (isSNaN a) flIE)
  else if isZero a then (a, 0)
  else if signOf a then (indef F, flIE)
  else if isInf a then (a, de)
  else addFlags (roundPack F c false (sqrtMag (mant a) (expo a))) de

/-! ### Comparison (R572, R573) -/

/-- The relation between two operands (R573). -/
inductive Rel where
  | lt
  | eq
  | gt
  | un
  deriving DecidableEq, Repr

/-- The value of a pattern that is no NaN, as an integer that orders it: infinities beyond every finite value (R562, R573). -/
def orderKey {F : Fmt} (x : BitVec F.width) : Int := signedInt (signOf x) (x.toNat % 2 ^ (F.width - 1))

/-- The relation of two operands, `+0 = -0` (R573). -/
def relOf {F : Fmt} (a b : BitVec F.width) : Rel :=
  if isNaN a || isNaN b then .un
  else if orderKey a < orderKey b then .lt
  else if orderKey a = orderKey b then .eq
  else .gt

/-- `fmax` (R572). -/
def fmax (F : Fmt) (c : Ctl) (a0 b0 : BitVec F.width) : BitVec F.width × FpFlags :=
  let a := daz c a0
  let b := daz c b0
  match relOf a b with
  | .un => (b, flIE)
  | .gt => (a, denormal2 a b)
  | .lt | .eq => (b, denormal2 a b)

/-- `fmin` (R572). -/
def fmin (F : Fmt) (c : Ctl) (a0 b0 : BitVec F.width) : BitVec F.width × FpFlags :=
  let a := daz c a0
  let b := daz c b0
  match relOf a b with
  | .un => (b, flIE)
  | .lt => (a, denormal2 a b)
  | .gt | .eq => (b, denormal2 a b)

/-- One row of the predicate table: the result for LT, EQ, GT and UN, and whether a quiet NaN signals (R573). -/
structure PredRow where
  lt : Bool
  eq : Bool
  gt : Bool
  un : Bool
  signals : Bool
  deriving DecidableEq, Repr

/-- The predicates 0 to 15 of R573; predicate `p + 16` has the same results and the opposite signalling. -/
def predRow16 (p : Nat) : PredRow :=
  match p with
  | 0 => ⟨false, true, false, false, false⟩    -- EQ_OQ
  | 1 => ⟨true, false, false, false, true⟩     -- LT_OS
  | 2 => ⟨true, true, false, false, true⟩      -- LE_OS
  | 3 => ⟨false, false, false, true, false⟩    -- UNORD_Q
  | 4 => ⟨true, false, true, true, false⟩      -- NEQ_UQ
  | 5 => ⟨false, true, true, true, true⟩       -- NLT_US
  | 6 => ⟨false, false, true, true, true⟩      -- NLE_US
  | 7 => ⟨true, true, true, false, false⟩      -- ORD_Q
  | 8 => ⟨false, true, false, true, false⟩     -- EQ_UQ
  | 9 => ⟨true, false, false, true, true⟩      -- NGE_US
  | 10 => ⟨true, true, false, true, true⟩      -- NGT_US
  | 11 => ⟨false, false, false, false, false⟩  -- FALSE_OQ
  | 12 => ⟨true, false, true, false, false⟩    -- NEQ_OQ
  | 13 => ⟨false, true, true, false, true⟩     -- GE_OS
  | 14 => ⟨false, false, true, false, true⟩    -- GT_OS
  | _ => ⟨true, true, true, true, false⟩       -- TRUE_UQ

/-- The predicate table of R573; the upper half is the lower with the signalling column inverted. -/
def predRow (p : BitVec 5) : PredRow :=
  let r := predRow16 (p.toNat % 16)
  if p.getLsbD 4 then { r with signals := !r.signals } else r

/-- The result of a predicate for a relation. -/
def PredRow.holds (r : PredRow) : Rel → Bool
  | .lt => r.lt
  | .eq => r.eq
  | .gt => r.gt
  | .un => r.un

/-- `fcmp` (R573). -/
def fcmp (F : Fmt) (c : Ctl) (p : BitVec 5) (a0 b0 : BitVec F.width) : Bool × FpFlags :=
  let a := daz c a0
  let b := daz c b0
  let rel := relOf a b
  ((predRow p).holds rel,
    if rel = .un then flagIf ((predRow p).signals || isSNaN a || isSNaN b) flIE else denormal2 a b)

/-! ### Conversions (R574 to R577) -/

/-- The NaN of one format in another: sign kept, fraction moved, top fraction bit set (R574). -/
def convertNaN (F G : Fmt) (a : BitVec F.width) : BitVec G.width :=
  quiet (pack G (signOf a) G.expMax
    (if F.frac ≤ G.frac then fracOf a * 2 ^ (G.frac - F.frac) else fracOf a / 2 ^ (F.frac - G.frac)))

/-- `cvt_ff` (R574). -/
def cvtFF (F G : Fmt) (c : Ctl) (a0 : BitVec F.width) : BitVec G.width × FpFlags :=
  let a := daz c a0
  let de := flagIf (isDenormal a) flDE
  if isNaN a then (convertNaN F G a, flagIf (isSNaN a) flIE)
  else if isInf a then (infOf G (signOf a), de)
  else if isZero a then (zeroOf G (signOf a), de)
  else addFlags (roundPack G c (signOf a) (magOf a)) de

/-- `cvt_fi` (R575). A denormal operand is rounded as any other number: to 0 or, where the direction points away from zero, to 1
or -1, with PE, and to 0 without PE under DAZ. The corner cases of 43_sse_on_ymm.md R223 to R226 say 0 with PE of every
denormal. DESIGN CHOICE, unsafe (log 34): the model follows R575, which they cite. -/
def cvtFI (F : Fmt) (c : Ctl) (ibits : Nat) (trunc : Bool) (a0 : BitVec F.width) : BitVec ibits × FpFlags :=
  let a := daz c a0
  let bad : BitVec ibits × FpFlags := (BitVec.ofNat ibits (2 ^ (ibits - 1)), flIE)
  if isNaN a || isInf a then bad
  else if isZero a then (0, 0)
  else
    let q := (magOf a).scaled 0
    let r := rint q.1 q.2 (signOf a) (if trunc then 3 else c.rc)
    let v := signedInt (signOf a) r.1
    if v < -(2 ^ (ibits - 1) : Int) ∨ v > (2 ^ (ibits - 1) : Int) - 1 then bad
    else (BitVec.ofInt ibits v, flagIf r.2 flPE)

/-- `cvt_if` (R576). -/
def cvtIF (F : Fmt) (c : Ctl) {ibits : Nat} (n : BitVec ibits) : BitVec F.width × FpFlags :=
  if n.toInt = 0 then (zeroOf F false, 0)
  else roundPack F c (decide (n.toInt < 0)) ⟨n.toInt.natAbs, 1, 0⟩

/-- `fround` (R577). -/
def fround (F : Fmt) (c : Ctl) (imm4 : BitVec 4) (a0 : BitVec F.width) : BitVec F.width × FpFlags :=
  let a := daz c a0
  if isNaN a then (quiet a, flagIf (isSNaN a) flIE)
  else if isInf a || isZero a then (a, 0)
  else
    let q := (magOf a).scaled 0
    let r := rint q.1 q.2 (signOf a) (if imm4.getLsbD 2 then c.rc else imm4.extractLsb' 0 2)
    (if r.1 = 0 then zeroOf F (signOf a) else (roundPack F c (signOf a) ⟨r.1, 1, 0⟩).1,
      flagIf (r.2 && !imm4.getLsbD 3) flPE)

/-! ### Fused multiply-add (R578) -/

/-- The NaN a fused multiply-add delivers: one of the quieted NaN operands, which one is a free value (R578, log 11). -/
def fmaNaN (F : Fmt) (c : Ctl) (negp negz : Bool) (x y z : BitVec F.width) : BitVec F.width :=
  let nans := [x, y, z].filter isNaN
  quiet (nans.getD (Config.fmaNanDraw F.width c negp negz x y z % nans.length) x)

/-- `ffma` (R578). -/
def ffma (F : Fmt) (c : Ctl) (negp negz : Bool) (x0 y0 z0 : BitVec F.width) : BitVec F.width × FpFlags :=
  let x := daz c x0
  let y := daz c y0
  let z := daz c z0
  let infTimesZero := (isInf x && isZero y) || (isZero x && isInf y)
  let de := flagIf (isDenormal x || isDenormal y || isDenormal z) flDE
  let sp := (signOf x != signOf y) != negp
  let sz := signOf z != negz
  if isNaN x || isNaN y || isNaN z then
    (match [x, y, z].filter isNaN with
      | [v] => quiet v
      | _ => fmaNaN F c negp negz x y z,
      flagIf (isSNaN x || isSNaN y || isSNaN z || infTimesZero) flIE)
  else if infTimesZero then (indef F, flIE)
  else if isInf x || isInf y then
    if isInf z && sp != sz then (indef F, flIE) else (infOf F sp, de)
  else if isInf z then (infOf F sz, de)
  else
    let r := exactSum sp (mant x * mant y) (expo x + expo y) sz (mant z) (expo z)
    if r.1 = 0 then
      (zeroOf F (if (isZero x || isZero y) && isZero z && sp == sz then sp else c.rc == 1), de)
    else addFlags (roundSum F c r) de

/-! ### Approximations (R586) -/

/-- Round to nearest, tiny results to zero: the control inputs of the value the model falls back on. -/
def nearestFz : Ctl := { rc := 0, fz := true, daz := false }

/-- A finite normal pattern. -/
def isNormal {F : Fmt} (x : BitVec F.width) : Bool := expOf x != 0 && expOf x != F.expMax

/-- `|p / q - 1| ≤ 1.5 · 2^-12`, that is `8192 |p - q| ≤ 3 q`. -/
def withinBound (p q : Nat) : Bool := decide (8192 * ((p - q) + (q - p)) ≤ 3 * q)

/-- A power of two as a fraction. -/
def pow2Frac (e : Int) : Nat × Nat := if 0 ≤ e then (2 ^ e.toNat, 1) else (1, 2 ^ (-e).toNat)

/-- What R586 allows as the reciprocal of a normal number: a normal number of the same sign within the bound, or the zero of
that sign when some value within the bound lies below the smallest normal number. -/
def rcpAllowed (a r : BitVec 32) : Bool :=
  let x : BitVec Fmt.f32.width := a
  let y : BitVec Fmt.f32.width := r
  let p := pow2Frac (expo x + expo y)
  let q := pow2Frac (expo x - 126)
  signOf x == signOf y &&
    ((isNormal y && withinBound (mant x * mant y * p.1) p.2) ||
      (isZero y && decide ((8192 - 3) * q.2 < 8192 * (mant x * q.1))))

/-- `frcp` (R586): the special operands as stated; for every other operand the proposed free value where R586 allows it, else
the correctly rounded reciprocal, which it allows (log 10). -/
def frcp (a : BitVec 32) : BitVec 32 :=
  let x : BitVec Fmt.f32.width := a
  if isNaN x then quiet x
  else if isZero x || isDenormal x then infOf .f32 (signOf x)
  else if isInf x then zeroOf .f32 (signOf x)
  else if rcpAllowed a (Config.rcpDraw a) then Config.rcpDraw a
  else (roundPack .f32 nearestFz (signOf x) ⟨1, mant x, -expo x⟩).1

/-- What R586 allows as the reciprocal square root of a positive normal number: a positive normal `r` with
`|r · sqrt(a) - 1| ≤ 1.5 · 2^-12`, that is `r² · a` between the squares of `1 ± 3/8192`. -/
def rsqrtAllowed (a r : BitVec 32) : Bool :=
  let x : BitVec Fmt.f32.width := a
  let y : BitVec Fmt.f32.width := r
  let p := pow2Frac (expo x + 2 * expo y)
  let sq := mant y * mant y * mant x * p.1
  isNormal y && !signOf y && decide ((8192 - 3) ^ 2 * p.2 ≤ 8192 ^ 2 * sq) && decide (8192 ^ 2 * sq ≤ (8192 + 3) ^ 2 * p.2)

/-- A magnitude within 2^-40 of the reciprocal of the square root of `n * 2 ^ e`, for `n < 2^24`. -/
def rsqrtMag (n : Nat) (e : Int) : Mag :=
  let odd := e % 2
  ⟨isqrt (2 ^ 160 / (n * 2 ^ odd.toNat)), 1, -((e - odd) / 2) - 80⟩

/-- `frsqrt` (R586), as `frcp`. -/
def frsqrt (a : BitVec 32) : BitVec 32 :=
  let x : BitVec Fmt.f32.width := a
  if isNaN x then quiet x
  else if isZero x || isDenormal x then infOf .f32 (signOf x)
  else if signOf x then indef .f32
  else if isInf x then zeroOf .f32 false
  else if rsqrtAllowed a (Config.rsqrtDraw a) then Config.rsqrtDraw a
  else (roundPack .f32 nearestFz false (rsqrtMag (mant x) (expo x))).1

/-! ### The record of a run (R561) -/

/-- `NumericsRef`: the functions above. -/
def numericsRef : Numerics :=
  { fadd, fsub, fmul, fdiv, fsqrt, fmax, fmin, fcmp, fround, cvtFF, cvtFI, cvtIF, ffma, frcp, frsqrt }

/-- The record that the rules of the floating-point instructions call in a state (00_scope.md R10, log 9). -/
def numerics (s : State) : Numerics :=
  match s.par.numerics with
  | .reference => numericsRef
  | .given => Config.numerics

end Sys2Proof.Machine
end

