-- ==== Sys2Proof/Machine/FloatArith.lean ====
section
/-! DEFINITION. Floating-point arithmetic, packed and scalar: add, subtract, multiply, divide, square root, maximum, minimum,
compare, round, horizontal and alternating forms, approximations, dot products, bitwise logic (files 43, 44, 45, 48). -/

namespace Sys2Proof.Machine

/-! ### Shapes of a result -/

/-- A packed result of two sources, element by element (44_three_operand_xmm_ymm_a.md R261). -/
def packed2 {n w : Nat} (f : Ctl → BitVec w → BitVec w → BitVec w × FpFlags) (c : Ctl) (a b : BitVec n) :
    BitVec n × FpFlags := zipFp w (f c) a b

/-- A packed result of one source, element by element (43_sse_on_ymm.md R248). -/
def packed1 {n w : Nat} (f : Ctl → BitVec w → BitVec w × FpFlags) (c : Ctl) (a : BitVec n) : BitVec n × FpFlags :=
  mapFp w (f c) a

/-- A scalar result of two sources (44_three_operand_xmm_ymm_a.md R267). -/
def scalar2 {w : Nat} (f : Ctl → BitVec w → BitVec w → BitVec w × FpFlags) (c : Ctl) (a : BitVec 128) (b : BitVec w) :
    BitVec 128 × FpFlags := scalarFp w a (f c (elem w 0 a) b)

/-- A scalar result of the second source alone (44_three_operand_xmm_ymm_b.md R303). -/
def scalar1 {w : Nat} (f : Ctl → BitVec w → BitVec w × FpFlags) (c : Ctl) (a : BitVec 128) (b : BitVec w) :
    BitVec 128 × FpFlags := scalarFp w a (f c b)

/-- Even elements subtract, odd elements add (44_three_operand_xmm_ymm_a.md R273). -/
def addSub (N : Numerics) {n : Nat} (F : Fmt) (c : Ctl) (a b : BitVec n) : BitVec n × FpFlags :=
  vecFp n F.width fun i =>
    if i % 2 = 0 then N.fsub F c (elem F.width i a) (elem F.width i b) else N.fadd F c (elem F.width i a) (elem F.width i b)

/-- Where the pair of a horizontal result element begins, with `p` pairs in each lane of a source
(44_three_operand_xmm_ymm_a.md R275, R276). -/
def pairStart (p i : Nat) : Nat := i / (2 * p) * (2 * p) + 2 * (i % (2 * p) % p)

/-- Adjacent elements of each lane, the pairs of the first source before those of the second
(44_three_operand_xmm_ymm_a.md R275 to R278). -/
def horizontal {n : Nat} (F : Fmt) (f : Fmt → (c : Ctl) → BitVec F.width → BitVec F.width → BitVec F.width × FpFlags) (c : Ctl)
    (a b : BitVec n) : BitVec n × FpFlags :=
  let p := 64 / F.width
  vecFp n F.width fun i =>
    let x := if i % (2 * p) < p then a else b
    f F c (elem F.width (pairStart p i) x) (elem F.width (pairStart p i + 1) x)

/-- One element of a compare: a mask (44_three_operand_xmm_ymm_b.md R291). -/
def cmpMask (N : Numerics) (F : Fmt) (imm : BitVec 8) (c : Ctl) (x y : BitVec F.width) : BitVec F.width × FpFlags :=
  let r := N.fcmp F c (imm.extractLsb' 0 5) x y
  (maskOf F.width r.1, r.2)

/-- One element of a rounding (43_sse_on_ymm.md R244). -/
def roundElem (N : Numerics) (F : Fmt) (imm : BitVec 8) (c : Ctl) (x : BitVec F.width) : BitVec F.width × FpFlags :=
  N.fround F c (imm.extractLsb' 0 4) x

/-! ### Dot products (48_four_operand.md R465, R468) -/

/-- The product of pair `j`, or `+0` where the immediate does not select it. -/
def dotProduct (N : Numerics) (F : Fmt) (imm : BitVec 8) (c : Ctl) (a b : BitVec 128) (j : Nat) : BitVec F.width × FpFlags :=
  if imm.getLsbD (4 + j) then N.fmul F c (elem F.width j a) (elem F.width j b) else (0, 0)

/-- Some quiet NaN (05_numerics.md R588, log 12). -/
def dotNaN (F : Fmt) (imm : BitVec 8) (c : Ctl) (a b : BitVec 128) (lane j : Nat) : BitVec F.width :=
  Config.dotNanDraw F.width imm c a b lane j ||| pack F false F.expMax (2 ^ (F.frac - 1))

/-- The element `j` of a lane whose sum is `t`. -/
def dotElem (F : Fmt) (imm : BitVec 8) (c : Ctl) (a b : BitVec 128) (lane j : Nat) (t : BitVec F.width) : BitVec F.width :=
  if imm.getLsbD j then (if isNaN t then dotNaN F imm c a b lane j else t) else 0

/-- The sum of a lane of four single-precision products, `(p0 + p1) + (p2 + p3)`, with all its flags. -/
def dotSum32 (N : Numerics) (imm : BitVec 8) (c : Ctl) (a b : BitVec 128) : BitVec 32 × FpFlags :=
  let p := dotProduct N .f32 imm c a b
  let t1 := N.fadd .f32 c (p 0).1 (p 1).1
  let t2 := N.fadd .f32 c (p 2).1 (p 3).1
  let t := N.fadd .f32 c t1.1 t2.1
  (t.1, (p 0).2 ||| (p 1).2 ||| (p 2).2 ||| (p 3).2 ||| t1.2 ||| t2.2 ||| t.2)

/-- The sum of two double-precision products with its flags. -/
def dotSum64 (N : Numerics) (imm : BitVec 8) (c : Ctl) (a b : BitVec 128) : BitVec 64 × FpFlags :=
  let p := dotProduct N .f64 imm c a b
  let t := N.fadd .f64 c (p 0).1 (p 1).1
  (t.1, (p 0).2 ||| (p 1).2 ||| t.2)

/-- VDPPS: each 128-bit lane by itself (48_four_operand.md R465). -/
def dotPs (N : Numerics) {n : Nat} (imm : BitVec 8) (c : Ctl) (a b : BitVec n) : BitVec n × FpFlags :=
  (vec n 32 fun i =>
      dotElem .f32 imm c (elem 128 (i / 4) a) (elem 128 (i / 4) b) (i / 4) (i % 4)
        (dotSum32 N imm c (elem 128 (i / 4) a) (elem 128 (i / 4) b)).1,
    unionFlags (fun k => (dotSum32 N imm c (elem 128 k a) (elem 128 k b)).2) (n / 128))

/-- VDPPD (48_four_operand.md R468). -/
def dotPd (N : Numerics) (imm : BitVec 8) (c : Ctl) (a b : BitVec 128) : BitVec 128 × FpFlags :=
  (vec 128 64 fun j => dotElem .f64 imm c a b 0 j (dotSum64 N imm c a b).1, (dotSum64 N imm c a b).2)

/-! ### The instructions -/

/-- VSQRTPS xmm1, xmm2/m128 (43_sse_on_ymm.md R249). -/
def execVsqrtpsX (d : Reg) (b : RegMem) (s : State) : Out :=
  opRMfp 128 128 (packed1 ((numerics s).fsqrt .f32)) d b s

/-- VSQRTPS ymm1, ymm2/m256 (43_sse_on_ymm.md R249). -/
def execVsqrtpsY (d : Reg) (b : RegMem) (s : State) : Out :=
  opRMfp 256 256 (packed1 ((numerics s).fsqrt .f32)) d b s

/-- VSQRTPD xmm1, xmm2/m128 (43_sse_on_ymm.md R248). -/
def execVsqrtpdX (d : Reg) (b : RegMem) (s : State) : Out :=
  opRMfp 128 128 (packed1 ((numerics s).fsqrt .f64)) d b s

/-- VSQRTPD ymm1, ymm2/m256 (43_sse_on_ymm.md R248). -/
def execVsqrtpdY (d : Reg) (b : RegMem) (s : State) : Out :=
  opRMfp 256 256 (packed1 ((numerics s).fsqrt .f64)) d b s

/-- VSQRTSS xmm1, xmm2, xmm3/m32 (44_three_operand_xmm_ymm_b.md R304). -/
def execVsqrtss (d a : Reg) (b : RegMem) (s : State) : Out :=
  opRVMfp 128 32 (scalar1 ((numerics s).fsqrt .f32)) d a b s

/-- VSQRTSD xmm1, xmm2, xmm3/m64 (44_three_operand_xmm_ymm_b.md R303). -/
def execVsqrtsd (d a : Reg) (b : RegMem) (s : State) : Out :=
  opRVMfp 128 64 (scalar1 ((numerics s).fsqrt .f64)) d a b s

/-- VRSQRTPS xmm1, xmm2/m128 (43_sse_on_ymm.md R243). -/
def execVrsqrtpsX (d : Reg) (b : RegMem) (s : State) : Out :=
  opRM 128 128 (fun v => vec 128 32 fun i => (numerics s).frsqrt (elem 32 i v)) d b s

/-- VRSQRTPS ymm1, ymm2/m256 (43_sse_on_ymm.md R243). -/
def execVrsqrtpsY (d : Reg) (b : RegMem) (s : State) : Out :=
  opRM 256 256 (fun v => vec 256 32 fun i => (numerics s).frsqrt (elem 32 i v)) d b s

/-- VRSQRTSS xmm1, xmm2, xmm3/m32 (44_three_operand_xmm_ymm_b.md R300). -/
def execVrsqrtss (d a : Reg) (b : RegMem) (s : State) : Out :=
  opRVM 128 32 (fun x v => setElem 32 0 ((numerics s).frsqrt v) x) d a b s

/-- VRCPPS xmm1, xmm2/m128 (43_sse_on_ymm.md R242). -/
def execVrcppsX (d : Reg) (b : RegMem) (s : State) : Out :=
  opRM 128 128 (fun v => vec 128 32 fun i => (numerics s).frcp (elem 32 i v)) d b s

/-- VRCPPS ymm1, ymm2/m256 (43_sse_on_ymm.md R242). -/
def execVrcppsY (d : Reg) (b : RegMem) (s : State) : Out :=
  opRM 256 256 (fun v => vec 256 32 fun i => (numerics s).frcp (elem 32 i v)) d b s

/-- VRCPSS xmm1, xmm2, xmm3/m32 (44_three_operand_xmm_ymm_b.md R299). -/
def execVrcpss (d a : Reg) (b : RegMem) (s : State) : Out :=
  opRVM 128 32 (fun x v => setElem 32 0 ((numerics s).frcp v) x) d a b s

/-- VADDPS xmm1, xmm2, xmm3/m128 (44_three_operand_xmm_ymm_a.md R262). -/
def execVaddpsX (d a : Reg) (b : RegMem) (s : State) : Out :=
  opRVMfp 128 128 (packed2 ((numerics s).fadd .f32)) d a b s

/-- VADDPS ymm1, ymm2, ymm3/m256 (44_three_operand_xmm_ymm_a.md R262). -/
def execVaddpsY (d a : Reg) (b : RegMem) (s : State) : Out :=
  opRVMfp 256 256 (packed2 ((numerics s).fadd .f32)) d a b s

/-- VADDPD xmm1, xmm2, xmm3/m128 (44_three_operand_xmm_ymm_a.md R261). -/
def execVaddpdX (d a : Reg) (b : RegMem) (s : State) : Out :=
  opRVMfp 128 128 (packed2 ((numerics s).fadd .f64)) d a b s

/-- VADDPD ymm1, ymm2, ymm3/m256 (44_three_operand_xmm_ymm_a.md R261). -/
def execVaddpdY (d a : Reg) (b : RegMem) (s : State) : Out :=
  opRVMfp 256 256 (packed2 ((numerics s).fadd .f64)) d a b s

/-- VADDSS xmm1, xmm2, xmm3/m32 (45_three_operand_xmm_fp.md R322). -/
def execVaddss (d a : Reg) (b : RegMem) (s : State) : Out :=
  opRVMfp 128 32 (scalar2 ((numerics s).fadd .f32)) d a b s

/-- VADDSD xmm1, xmm2, xmm3/m64 (45_three_operand_xmm_fp.md R321). -/
def execVaddsd (d a : Reg) (b : RegMem) (s : State) : Out :=
  opRVMfp 128 64 (scalar2 ((numerics s).fadd .f64)) d a b s

/-- VMULPS xmm1, xmm2, xmm3/m128 (44_three_operand_xmm_ymm_a.md R266). -/
def execVmulpsX (d a : Reg) (b : RegMem) (s : State) : Out :=
  opRVMfp 128 128 (packed2 ((numerics s).fmul .f32)) d a b s

/-- VMULPS ymm1, ymm2, ymm3/m256 (44_three_operand_xmm_ymm_a.md R266). -/
def execVmulpsY (d a : Reg) (b : RegMem) (s : State) : Out :=
  opRVMfp 256 256 (packed2 ((numerics s).fmul .f32)) d a b s

/-- VMULPD xmm1, xmm2, xmm3/m128 (44_three_operand_xmm_ymm_a.md R265). -/
def execVmulpdX (d a : Reg) (b : RegMem) (s : State) : Out :=
  opRVMfp 128 128 (packed2 ((numerics s).fmul .f64)) d a b s

/-- VMULPD ymm1, ymm2, ymm3/m256 (44_three_operand_xmm_ymm_a.md R265). -/
def execVmulpdY (d a : Reg) (b : RegMem) (s : State) : Out :=
  opRVMfp 256 256 (packed2 ((numerics s).fmul .f64)) d a b s

/-- VMULSS xmm1, xmm2, xmm3/m32 (44_three_operand_xmm_ymm_a.md R268). -/
def execVmulss (d a : Reg) (b : RegMem) (s : State) : Out :=
  opRVMfp 128 32 (scalar2 ((numerics s).fmul .f32)) d a b s

/-- VMULSD xmm1, xmm2, xmm3/m64 (44_three_operand_xmm_ymm_a.md R267). -/
def execVmulsd (d a : Reg) (b : RegMem) (s : State) : Out :=
  opRVMfp 128 64 (scalar2 ((numerics s).fmul .f64)) d a b s

/-- VSUBPS xmm1, xmm2, xmm3/m128 (44_three_operand_xmm_ymm_a.md R264). -/
def execVsubpsX (d a : Reg) (b : RegMem) (s : State) : Out :=
  opRVMfp 128 128 (packed2 ((numerics s).fsub .f32)) d a b s

/-- VSUBPS ymm1, ymm2, ymm3/m256 (44_three_operand_xmm_ymm_a.md R264). -/
def execVsubpsY (d a : Reg) (b : RegMem) (s : State) : Out :=
  opRVMfp 256 256 (packed2 ((numerics s).fsub .f32)) d a b s

/-- VSUBPD xmm1, xmm2, xmm3/m128 (44_three_operand_xmm_ymm_a.md R263). -/
def execVsubpdX (d a : Reg) (b : RegMem) (s : State) : Out :=
  opRVMfp 128 128 (packed2 ((numerics s).fsub .f64)) d a b s

/-- VSUBPD ymm1, ymm2, ymm3/m256 (44_three_operand_xmm_ymm_a.md R263). -/
def execVsubpdY (d a : Reg) (b : RegMem) (s : State) : Out :=
  opRVMfp 256 256 (packed2 ((numerics s).fsub .f64)) d a b s

/-- VSUBSS xmm1, xmm2, xmm3/m32 (45_three_operand_xmm_fp.md R324). -/
def execVsubss (d a : Reg) (b : RegMem) (s : State) : Out :=
  opRVMfp 128 32 (scalar2 ((numerics s).fsub .f32)) d a b s

/-- VSUBSD xmm1, xmm2, xmm3/m64 (45_three_operand_xmm_fp.md R323). -/
def execVsubsd (d a : Reg) (b : RegMem) (s : State) : Out :=
  opRVMfp 128 64 (scalar2 ((numerics s).fsub .f64)) d a b s

/-- VMINPS xmm1, xmm2, xmm3/m128 (44_three_operand_xmm_ymm_a.md R282). -/
def execVminpsX (d a : Reg) (b : RegMem) (s : State) : Out :=
  opRVMfp 128 128 (packed2 ((numerics s).fmin .f32)) d a b s

/-- VMINPS ymm1, ymm2, ymm3/m256 (44_three_operand_xmm_ymm_a.md R282). -/
def execVminpsY (d a : Reg) (b : RegMem) (s : State) : Out :=
  opRVMfp 256 256 (packed2 ((numerics s).fmin .f32)) d a b s

/-- VMINPD xmm1, xmm2, xmm3/m128 (44_three_operand_xmm_ymm_a.md R281). -/
def execVminpdX (d a : Reg) (b : RegMem) (s : State) : Out :=
  opRVMfp 128 128 (packed2 ((numerics s).fmin .f64)) d a b s

/-- VMINPD ymm1, ymm2, ymm3/m256 (44_three_operand_xmm_ymm_a.md R281). -/
def execVminpdY (d a : Reg) (b : RegMem) (s : State) : Out :=
  opRVMfp 256 256 (packed2 ((numerics s).fmin .f64)) d a b s

/-- VMINSS xmm1, xmm2, xmm3/m32 (45_three_operand_xmm_fp.md R328). -/
def execVminss (d a : Reg) (b : RegMem) (s : State) : Out :=
  opRVMfp 128 32 (scalar2 ((numerics s).fmin .f32)) d a b s

/-- VMINSD xmm1, xmm2, xmm3/m64 (45_three_operand_xmm_fp.md R327). -/
def execVminsd (d a : Reg) (b : RegMem) (s : State) : Out :=
  opRVMfp 128 64 (scalar2 ((numerics s).fmin .f64)) d a b s

/-- VDIVPS xmm1, xmm2, xmm3/m128 (44_three_operand_xmm_ymm_a.md R270). -/
def execVdivpsX (d a : Reg) (b : RegMem) (s : State) : Out :=
  opRVMfp 128 128 (packed2 ((numerics s).fdiv .f32)) d a b s

/-- VDIVPS ymm1, ymm2, ymm3/m256 (44_three_operand_xmm_ymm_a.md R270). -/
def execVdivpsY (d a : Reg) (b : RegMem) (s : State) : Out :=
  opRVMfp 256 256 (packed2 ((numerics s).fdiv .f32)) d a b s

/-- VDIVPD xmm1, xmm2, xmm3/m128 (44_three_operand_xmm_ymm_a.md R269). -/
def execVdivpdX (d a : Reg) (b : RegMem) (s : State) : Out :=
  opRVMfp 128 128 (packed2 ((numerics s).fdiv .f64)) d a b s

/-- VDIVPD ymm1, ymm2, ymm3/m256 (44_three_operand_xmm_ymm_a.md R269). -/
def execVdivpdY (d a : Reg) (b : RegMem) (s : State) : Out :=
  opRVMfp 256 256 (packed2 ((numerics s).fdiv .f64)) d a b s

/-- VDIVSS xmm1, xmm2, xmm3/m32 (44_three_operand_xmm_ymm_a.md R272). -/
def execVdivss (d a : Reg) (b : RegMem) (s : State) : Out :=
  opRVMfp 128 32 (scalar2 ((numerics s).fdiv .f32)) d a b s

/-- VDIVSD xmm1, xmm2, xmm3/m64 (44_three_operand_xmm_ymm_a.md R271). -/
def execVdivsd (d a : Reg) (b : RegMem) (s : State) : Out :=
  opRVMfp 128 64 (scalar2 ((numerics s).fdiv .f64)) d a b s

/-- VMAXPS xmm1, xmm2, xmm3/m128 (44_three_operand_xmm_ymm_a.md R280). -/
def execVmaxpsX (d a : Reg) (b : RegMem) (s : State) : Out :=
  opRVMfp 128 128 (packed2 ((numerics s).fmax .f32)) d a b s

/-- VMAXPS ymm1, ymm2, ymm3/m256 (44_three_operand_xmm_ymm_a.md R280). -/
def execVmaxpsY (d a : Reg) (b : RegMem) (s : State) : Out :=
  opRVMfp 256 256 (packed2 ((numerics s).fmax .f32)) d a b s

/-- VMAXPD xmm1, xmm2, xmm3/m128 (44_three_operand_xmm_ymm_a.md R279). -/
def execVmaxpdX (d a : Reg) (b : RegMem) (s : State) : Out :=
  opRVMfp 128 128 (packed2 ((numerics s).fmax .f64)) d a b s

/-- VMAXPD ymm1, ymm2, ymm3/m256 (44_three_operand_xmm_ymm_a.md R279). -/
def execVmaxpdY (d a : Reg) (b : RegMem) (s : State) : Out :=
  opRVMfp 256 256 (packed2 ((numerics s).fmax .f64)) d a b s

/-- VMAXSS xmm1, xmm2, xmm3/m32 (45_three_operand_xmm_fp.md R326). -/
def execVmaxss (d a : Reg) (b : RegMem) (s : State) : Out :=
  opRVMfp 128 32 (scalar2 ((numerics s).fmax .f32)) d a b s

/-- VMAXSD xmm1, xmm2, xmm3/m64 (45_three_operand_xmm_fp.md R325). -/
def execVmaxsd (d a : Reg) (b : RegMem) (s : State) : Out :=
  opRVMfp 128 64 (scalar2 ((numerics s).fmax .f64)) d a b s

/-- VHADDPD xmm1, xmm2, xmm3/m128 (44_three_operand_xmm_ymm_a.md R275). -/
def execVhaddpdX (d a : Reg) (b : RegMem) (s : State) : Out :=
  opRVMfp 128 128 (horizontal .f64 (fun _ => (numerics s).fadd .f64)) d a b s

/-- VHADDPD ymm1, ymm2, ymm3/m256 (44_three_operand_xmm_ymm_a.md R275). -/
def execVhaddpdY (d a : Reg) (b : RegMem) (s : State) : Out :=
  opRVMfp 256 256 (horizontal .f64 (fun _ => (numerics s).fadd .f64)) d a b s

/-- VHADDPS xmm1, xmm2, xmm3/m128 (44_three_operand_xmm_ymm_a.md R276). -/
def execVhaddpsX (d a : Reg) (b : RegMem) (s : State) : Out :=
  opRVMfp 128 128 (horizontal .f32 (fun _ => (numerics s).fadd .f32)) d a b s

/-- VHADDPS ymm1, ymm2, ymm3/m256 (44_three_operand_xmm_ymm_a.md R276). -/
def execVhaddpsY (d a : Reg) (b : RegMem) (s : State) : Out :=
  opRVMfp 256 256 (horizontal .f32 (fun _ => (numerics s).fadd .f32)) d a b s

/-- VHSUBPD xmm1, xmm2, xmm3/m128 (44_three_operand_xmm_ymm_a.md R277). -/
def execVhsubpdX (d a : Reg) (b : RegMem) (s : State) : Out :=
  opRVMfp 128 128 (horizontal .f64 (fun _ => (numerics s).fsub .f64)) d a b s

/-- VHSUBPD ymm1, ymm2, ymm3/m256 (44_three_operand_xmm_ymm_a.md R277). -/
def execVhsubpdY (d a : Reg) (b : RegMem) (s : State) : Out :=
  opRVMfp 256 256 (horizontal .f64 (fun _ => (numerics s).fsub .f64)) d a b s

/-- VHSUBPS xmm1, xmm2, xmm3/m128 (44_three_operand_xmm_ymm_a.md R278). -/
def execVhsubpsX (d a : Reg) (b : RegMem) (s : State) : Out :=
  opRVMfp 128 128 (horizontal .f32 (fun _ => (numerics s).fsub .f32)) d a b s

/-- VHSUBPS ymm1, ymm2, ymm3/m256 (44_three_operand_xmm_ymm_a.md R278). -/
def execVhsubpsY (d a : Reg) (b : RegMem) (s : State) : Out :=
  opRVMfp 256 256 (horizontal .f32 (fun _ => (numerics s).fsub .f32)) d a b s

/-- VCMPPS xmm1, xmm2, xmm3/m128, imm8 (44_three_operand_xmm_ymm_b.md R292). -/
def execVcmppsX (d a : Reg) (b : RegMem) (imm : BitVec 8) (s : State) : Out :=
  opRVMfp 128 128 (packed2 (cmpMask (numerics s) .f32 imm)) d a b s

/-- VCMPPS ymm1, ymm2, ymm3/m256, imm8 (44_three_operand_xmm_ymm_b.md R292). -/
def execVcmppsY (d a : Reg) (b : RegMem) (imm : BitVec 8) (s : State) : Out :=
  opRVMfp 256 256 (packed2 (cmpMask (numerics s) .f32 imm)) d a b s

/-- VCMPPD xmm1, xmm2, xmm3/m128, imm8 (44_three_operand_xmm_ymm_b.md R291). -/
def execVcmppdX (d a : Reg) (b : RegMem) (imm : BitVec 8) (s : State) : Out :=
  opRVMfp 128 128 (packed2 (cmpMask (numerics s) .f64 imm)) d a b s

/-- VCMPPD ymm1, ymm2, ymm3/m256, imm8 (44_three_operand_xmm_ymm_b.md R291). -/
def execVcmppdY (d a : Reg) (b : RegMem) (imm : BitVec 8) (s : State) : Out :=
  opRVMfp 256 256 (packed2 (cmpMask (numerics s) .f64 imm)) d a b s

/-- VCMPSS xmm1, xmm2, xmm3/m32, imm8 (44_three_operand_xmm_ymm_b.md R294). -/
def execVcmpss (d a : Reg) (b : RegMem) (imm : BitVec 8) (s : State) : Out :=
  opRVMfp 128 32 (scalar2 (cmpMask (numerics s) .f32 imm)) d a b s

/-- VCMPSD xmm1, xmm2, xmm3/m64, imm8 (44_three_operand_xmm_ymm_b.md R293). -/
def execVcmpsd (d a : Reg) (b : RegMem) (imm : BitVec 8) (s : State) : Out :=
  opRVMfp 128 64 (scalar2 (cmpMask (numerics s) .f64 imm)) d a b s

/-- VADDSUBPD xmm1, xmm2, xmm3/m128 (44_three_operand_xmm_ymm_a.md R273). -/
def execVaddsubpdX (d a : Reg) (b : RegMem) (s : State) : Out :=
  opRVMfp 128 128 (addSub (numerics s) .f64) d a b s

/-- VADDSUBPD ymm1, ymm2, ymm3/m256 (44_three_operand_xmm_ymm_a.md R273). -/
def execVaddsubpdY (d a : Reg) (b : RegMem) (s : State) : Out :=
  opRVMfp 256 256 (addSub (numerics s) .f64) d a b s

/-- VADDSUBPS xmm1, xmm2, xmm3/m128 (44_three_operand_xmm_ymm_a.md R274). -/
def execVaddsubpsX (d a : Reg) (b : RegMem) (s : State) : Out :=
  opRVMfp 128 128 (addSub (numerics s) .f32) d a b s

/-- VADDSUBPS ymm1, ymm2, ymm3/m256 (44_three_operand_xmm_ymm_a.md R274). -/
def execVaddsubpsY (d a : Reg) (b : RegMem) (s : State) : Out :=
  opRVMfp 256 256 (addSub (numerics s) .f32) d a b s

/-- VROUNDPS xmm1, xmm2/m128, imm8 (43_sse_on_ymm.md R245). -/
def execVroundpsX (d : Reg) (b : RegMem) (imm : BitVec 8) (s : State) : Out :=
  opRMfp 128 128 (packed1 (roundElem (numerics s) .f32 imm)) d b s

/-- VROUNDPS ymm1, ymm2/m256, imm8 (43_sse_on_ymm.md R245). -/
def execVroundpsY (d : Reg) (b : RegMem) (imm : BitVec 8) (s : State) : Out :=
  opRMfp 256 256 (packed1 (roundElem (numerics s) .f32 imm)) d b s

/-- VROUNDPD xmm1, xmm2/m128, imm8 (43_sse_on_ymm.md R244). -/
def execVroundpdX (d : Reg) (b : RegMem) (imm : BitVec 8) (s : State) : Out :=
  opRMfp 128 128 (packed1 (roundElem (numerics s) .f64 imm)) d b s

/-- VROUNDPD ymm1, ymm2/m256, imm8 (43_sse_on_ymm.md R244). -/
def execVroundpdY (d : Reg) (b : RegMem) (imm : BitVec 8) (s : State) : Out :=
  opRMfp 256 256 (packed1 (roundElem (numerics s) .f64 imm)) d b s

/-- VROUNDSS xmm1, xmm2, xmm3/m32, imm8 (44_three_operand_xmm_ymm_b.md R302). -/
def execVroundss (d a : Reg) (b : RegMem) (imm : BitVec 8) (s : State) : Out :=
  opRVMfp 128 32 (scalar1 (roundElem (numerics s) .f32 imm)) d a b s

/-- VROUNDSD xmm1, xmm2, xmm3/m64, imm8 (44_three_operand_xmm_ymm_b.md R301). -/
def execVroundsd (d a : Reg) (b : RegMem) (imm : BitVec 8) (s : State) : Out :=
  opRVMfp 128 64 (scalar1 (roundElem (numerics s) .f64 imm)) d a b s

/-- VDPPS xmm1, xmm2, xmm3/m128, imm8 (48_four_operand.md R465). -/
def execVdppsX (d a : Reg) (b : RegMem) (imm : BitVec 8) (s : State) : Out :=
  opRVMfp 128 128 (dotPs (numerics s) imm) d a b s

/-- VDPPS ymm1, ymm2, ymm3/m256, imm8 (48_four_operand.md R465). -/
def execVdppsY (d a : Reg) (b : RegMem) (imm : BitVec 8) (s : State) : Out :=
  opRVMfp 256 256 (dotPs (numerics s) imm) d a b s

/-- VDPPD xmm1, xmm2, xmm3/m128, imm8 (48_four_operand.md R468). -/
def execVdppd (d a : Reg) (b : RegMem) (imm : BitVec 8) (s : State) : Out :=
  opRVMfp 128 128 (dotPd (numerics s) imm) d a b s

end Sys2Proof.Machine
end

