-- ==== Sys2Proof/Machine/Convert.lean ====
section
/-! DEFINITION. Conversions between formats, between vectors of numbers and integers, and between a scalar and a general
register (files 43, 44 and 49). -/

namespace Sys2Proof.Machine

/-- Signed 32-bit integers to double precision, always exact (43_sse_on_ymm.md R221). -/
def cvtDqPd (N : Numerics) (n : Nat) {m : Nat} (c : Ctl) (a : BitVec m) : BitVec n × FpFlags :=
  (vec n 64 fun i => (N.cvtIF .f64 c (elem 32 i a)).1, 0)

/-- Signed 32-bit integers to single precision (43_sse_on_ymm.md R222). -/
def cvtDqPs (N : Numerics) {n : Nat} (c : Ctl) (a : BitVec n) : BitVec n × FpFlags :=
  vecFp n 32 fun i => N.cvtIF .f32 c (elem 32 i a)

/-- Double precision to signed 32-bit integers in an XMM register, zero above them (43_sse_on_ymm.md R223, R224). -/
def cvtPdDq (N : Numerics) (trunc : Bool) {m : Nat} (c : Ctl) (a : BitVec m) : BitVec 128 × FpFlags :=
  vecFpOf 128 32 (m / 64) fun i => N.cvtFI .f64 c 32 trunc (elem 64 i a)

/-- Single precision to signed 32-bit integers (43_sse_on_ymm.md R225, R226). -/
def cvtPsDq (N : Numerics) (trunc : Bool) {n : Nat} (c : Ctl) (a : BitVec n) : BitVec n × FpFlags :=
  vecFp n 32 fun i => N.cvtFI .f32 c 32 trunc (elem 32 i a)

/-- Double to single precision in an XMM register, zero above the results (43_sse_on_ymm.md R227). -/
def cvtPdPs (N : Numerics) {m : Nat} (c : Ctl) (a : BitVec m) : BitVec 128 × FpFlags :=
  vecFpOf 128 32 (m / 64) fun i => N.cvtFF .f64 .f32 c (elem 64 i a)

/-- Single to double precision (43_sse_on_ymm.md R228). -/
def cvtPsPd (N : Numerics) (n : Nat) {m : Nat} (c : Ctl) (a : BitVec m) : BitVec n × FpFlags :=
  vecFp n 64 fun i => N.cvtFF .f32 .f64 c (elem 32 i a)

/-- Element 0 of the second source in another format, the rest from the first (44_three_operand_xmm_ymm_b.md R295, R296). -/
def cvtScalar (N : Numerics) (F G : Fmt) (c : Ctl) (a : BitVec 128) (b : BitVec F.width) : BitVec 128 × FpFlags :=
  scalarFp G.width a (N.cvtFF F G c b)

/-- A scalar to an integer (49_conversions.md R476). -/
def cvtToInt (N : Numerics) (F : Fmt) (ibits : Nat) (trunc : Bool) (c : Ctl) (a : BitVec F.width) : BitVec ibits × FpFlags :=
  N.cvtFI F c ibits trunc a

/-- An integer to a scalar, the rest from the first source (49_conversions.md R478). -/
def cvtFromInt (N : Numerics) (F : Fmt) {ibits : Nat} (c : Ctl) (a : BitVec 128) (b : BitVec ibits) : BitVec 128 × FpFlags :=
  scalarFp F.width a (N.cvtIF F c b)

/-! ### The instructions -/

/-- VCVTSI2SS xmm1, xmm2, r/m32 (49_conversions.md R481). -/
def execVcvtsi2ssR32 (d a : Reg) (b : RegMem) (s : State) : Out :=
  opFromGpr 32 (cvtFromInt (numerics s) .f32) d a b s

/-- VCVTSI2SS xmm1, xmm2, r/m64 (49_conversions.md R481). -/
def execVcvtsi2ssR64 (d a : Reg) (b : RegMem) (s : State) : Out :=
  opFromGpr64 (cvtFromInt (numerics s) .f32) d a b s

/-- VCVTSI2SD xmm1, xmm2, r/m32 (49_conversions.md R478). -/
def execVcvtsi2sdR32 (d a : Reg) (b : RegMem) (s : State) : Out :=
  opFromGpr 32 (cvtFromInt (numerics s) .f64) d a b s

/-- VCVTSI2SD xmm1, xmm2, r/m64 (49_conversions.md R478). -/
def execVcvtsi2sdR64 (d a : Reg) (b : RegMem) (s : State) : Out :=
  opFromGpr64 (cvtFromInt (numerics s) .f64) d a b s

/-- VCVTTSS2SI r32, xmm1/m32 (49_conversions.md R480). -/
def execVcvttss2siR32 (d : Reg) (b : RegMem) (s : State) : Out :=
  opToGpr32 32 (cvtToInt (numerics s) .f32 32 true) d b s

/-- VCVTTSS2SI r64, xmm1/m32 (49_conversions.md R480). -/
def execVcvttss2siR64 (d : Reg) (b : RegMem) (s : State) : Out :=
  opToGpr64 32 (cvtToInt (numerics s) .f32 64 true) d b s

/-- VCVTTSD2SI r32, xmm1/m64 (49_conversions.md R477). -/
def execVcvttsd2siR32 (d : Reg) (b : RegMem) (s : State) : Out :=
  opToGpr32 64 (cvtToInt (numerics s) .f64 32 true) d b s

/-- VCVTTSD2SI r64, xmm1/m64 (49_conversions.md R477). -/
def execVcvttsd2siR64 (d : Reg) (b : RegMem) (s : State) : Out :=
  opToGpr64 64 (cvtToInt (numerics s) .f64 64 true) d b s

/-- VCVTSS2SI r32, xmm1/m32 (49_conversions.md R479). -/
def execVcvtss2siR32 (d : Reg) (b : RegMem) (s : State) : Out :=
  opToGpr32 32 (cvtToInt (numerics s) .f32 32 false) d b s

/-- VCVTSS2SI r64, xmm1/m32 (49_conversions.md R479). -/
def execVcvtss2siR64 (d : Reg) (b : RegMem) (s : State) : Out :=
  opToGpr64 32 (cvtToInt (numerics s) .f32 64 false) d b s

/-- VCVTSD2SI r32, xmm1/m64 (49_conversions.md R476). -/
def execVcvtsd2siR32 (d : Reg) (b : RegMem) (s : State) : Out :=
  opToGpr32 64 (cvtToInt (numerics s) .f64 32 false) d b s

/-- VCVTSD2SI r64, xmm1/m64 (49_conversions.md R476). -/
def execVcvtsd2siR64 (d : Reg) (b : RegMem) (s : State) : Out :=
  opToGpr64 64 (cvtToInt (numerics s) .f64 64 false) d b s

/-- VCVTPS2PD xmm1, xmm2/m64 (43_sse_on_ymm.md R228). -/
def execVcvtps2pdX (d : Reg) (b : RegMem) (s : State) : Out :=
  opRMfp 128 64 (cvtPsPd (numerics s) 128) d b s

/-- VCVTPS2PD ymm1, xmm2/m128 (43_sse_on_ymm.md R228). -/
def execVcvtps2pdY (d : Reg) (b : RegMem) (s : State) : Out :=
  opRMfp 256 128 (cvtPsPd (numerics s) 256) d b s

/-- VCVTPD2PS xmm1, xmm2/m128 (43_sse_on_ymm.md R227). -/
def execVcvtpd2psX (d : Reg) (b : RegMem) (s : State) : Out :=
  opRMfp 128 128 (cvtPdPs (numerics s)) d b s

/-- VCVTPD2PS xmm1, ymm2/m256 (43_sse_on_ymm.md R227). -/
def execVcvtpd2psY (d : Reg) (b : RegMem) (s : State) : Out :=
  opRMfp 128 256 (cvtPdPs (numerics s)) d b s

/-- VCVTSS2SD xmm1, xmm2, xmm3/m32 (44_three_operand_xmm_ymm_b.md R296). -/
def execVcvtss2sd (d a : Reg) (b : RegMem) (s : State) : Out :=
  opRVMfp 128 32 (cvtScalar (numerics s) .f32 .f64) d a b s

/-- VCVTSD2SS xmm1, xmm2, xmm3/m64 (44_three_operand_xmm_ymm_b.md R295). -/
def execVcvtsd2ss (d a : Reg) (b : RegMem) (s : State) : Out :=
  opRVMfp 128 64 (cvtScalar (numerics s) .f64 .f32) d a b s

/-- VCVTDQ2PS xmm1, xmm2/m128 (43_sse_on_ymm.md R222). -/
def execVcvtdq2psX (d : Reg) (b : RegMem) (s : State) : Out :=
  opRMfp 128 128 (cvtDqPs (numerics s)) d b s

/-- VCVTDQ2PS ymm1, ymm2/m256 (43_sse_on_ymm.md R222). -/
def execVcvtdq2psY (d : Reg) (b : RegMem) (s : State) : Out :=
  opRMfp 256 256 (cvtDqPs (numerics s)) d b s

/-- VCVTPS2DQ xmm1, xmm2/m128 (43_sse_on_ymm.md R225). -/
def execVcvtps2dqX (d : Reg) (b : RegMem) (s : State) : Out :=
  opRMfp 128 128 (cvtPsDq (numerics s) false) d b s

/-- VCVTPS2DQ ymm1, ymm2/m256 (43_sse_on_ymm.md R225). -/
def execVcvtps2dqY (d : Reg) (b : RegMem) (s : State) : Out :=
  opRMfp 256 256 (cvtPsDq (numerics s) false) d b s

/-- VCVTTPS2DQ xmm1, xmm2/m128 (43_sse_on_ymm.md R226). -/
def execVcvttps2dqX (d : Reg) (b : RegMem) (s : State) : Out :=
  opRMfp 128 128 (cvtPsDq (numerics s) true) d b s

/-- VCVTTPS2DQ ymm1, ymm2/m256 (43_sse_on_ymm.md R226). -/
def execVcvttps2dqY (d : Reg) (b : RegMem) (s : State) : Out :=
  opRMfp 256 256 (cvtPsDq (numerics s) true) d b s

/-- VCVTTPD2DQ xmm1, xmm2/m128 (43_sse_on_ymm.md R224). -/
def execVcvttpd2dqX (d : Reg) (b : RegMem) (s : State) : Out :=
  opRMfp 128 128 (cvtPdDq (numerics s) true) d b s

/-- VCVTTPD2DQ xmm1, ymm2/m256 (43_sse_on_ymm.md R224). -/
def execVcvttpd2dqY (d : Reg) (b : RegMem) (s : State) : Out :=
  opRMfp 128 256 (cvtPdDq (numerics s) true) d b s

/-- VCVTDQ2PD xmm1, xmm2/m64 (43_sse_on_ymm.md R221). -/
def execVcvtdq2pdX (d : Reg) (b : RegMem) (s : State) : Out :=
  opRMfp 128 64 (cvtDqPd (numerics s) 128) d b s

/-- VCVTDQ2PD ymm1, xmm2/m128 (43_sse_on_ymm.md R221). -/
def execVcvtdq2pdY (d : Reg) (b : RegMem) (s : State) : Out :=
  opRMfp 256 128 (cvtDqPd (numerics s) 256) d b s

/-- VCVTPD2DQ xmm1, xmm2/m128 (43_sse_on_ymm.md R223). -/
def execVcvtpd2dqX (d : Reg) (b : RegMem) (s : State) : Out :=
  opRMfp 128 128 (cvtPdDq (numerics s) false) d b s

/-- VCVTPD2DQ xmm1, ymm2/m256 (43_sse_on_ymm.md R223). -/
def execVcvtpd2dqY (d : Reg) (b : RegMem) (s : State) : Out :=
  opRMfp 128 256 (cvtPdDq (numerics s) false) d b s

end Sys2Proof.Machine
end

