-- ==== Sys2Proof/Machine/Fma.lean ====
section
/-! DEFINITION. The four-operand multiply-accumulate instructions (41_fma.md): one rounding; the scalar forms zero every
position above element 0; even elements subtract in VFMADDSUB, odd ones in VFMSUBADD (90_conflicts.md C13). -/

namespace Sys2Proof.Machine

/-- A packed form with the signs of product and addend (41_fma.md R181 to R196). -/
def fmaPacked (N : Numerics) {n : Nat} (F : Fmt) (negp negz : Bool) (c : Ctl) (x y z : BitVec n) : BitVec n × FpFlags :=
  vecFp n F.width fun i => N.ffma F c negp negz (elem F.width i x) (elem F.width i y) (elem F.width i z)

/-- A scalar form: the result in element 0, zero above (41_fma.md R183). -/
def fmaScalar (N : Numerics) (F : Fmt) (negp negz : Bool) (c : Ctl) (x y z : BitVec F.width) : BitVec 128 × FpFlags :=
  let r := N.ffma F c negp negz x y z
  (r.1.setWidth 128, r.2)

/-- An alternating form: the elements whose index modulo 2 is `sub` subtract, the others add (41_fma.md R197 to R200). -/
def fmaAlternate (N : Numerics) {n : Nat} (F : Fmt) (sub : Nat) (c : Ctl) (x y z : BitVec n) : BitVec n × FpFlags :=
  vecFp n F.width fun i =>
    N.ffma F c false (i % 2 == sub) (elem F.width i x) (elem F.width i y) (elem F.width i z)

/-! ### The instructions -/

/-- VFMADDSUBPS xmm1, xmm2, xmm3/m128, xmm4 (41_fma.md R198). -/
def execVfmaddsubpsX (d a : Reg) (b : RegMem) (c : Reg) (s : State) : Out :=
  opRVMRfp 128 128 (fmaAlternate (numerics s) .f32 0) d a b c s

/-- VFMADDSUBPS xmm1, xmm2, xmm3, xmm4/m128 (41_fma.md R198). -/
def execVfmaddsubpsXW1 (d a c : Reg) (b : RegMem) (s : State) : Out :=
  opRVRMfp 128 128 (fmaAlternate (numerics s) .f32 0) d a c b s

/-- VFMADDSUBPS ymm1, ymm2, ymm3/m256, ymm4 (41_fma.md R198). -/
def execVfmaddsubpsY (d a : Reg) (b : RegMem) (c : Reg) (s : State) : Out :=
  opRVMRfp 256 256 (fmaAlternate (numerics s) .f32 0) d a b c s

/-- VFMADDSUBPS ymm1, ymm2, ymm3, ymm4/m256 (41_fma.md R198). -/
def execVfmaddsubpsYW1 (d a c : Reg) (b : RegMem) (s : State) : Out :=
  opRVRMfp 256 256 (fmaAlternate (numerics s) .f32 0) d a c b s

/-- VFMADDSUBPD xmm1, xmm2, xmm3/m128, xmm4 (41_fma.md R197). -/
def execVfmaddsubpdX (d a : Reg) (b : RegMem) (c : Reg) (s : State) : Out :=
  opRVMRfp 128 128 (fmaAlternate (numerics s) .f64 0) d a b c s

/-- VFMADDSUBPD xmm1, xmm2, xmm3, xmm4/m128 (41_fma.md R197). -/
def execVfmaddsubpdXW1 (d a c : Reg) (b : RegMem) (s : State) : Out :=
  opRVRMfp 128 128 (fmaAlternate (numerics s) .f64 0) d a c b s

/-- VFMADDSUBPD ymm1, ymm2, ymm3/m256, ymm4 (41_fma.md R197). -/
def execVfmaddsubpdY (d a : Reg) (b : RegMem) (c : Reg) (s : State) : Out :=
  opRVMRfp 256 256 (fmaAlternate (numerics s) .f64 0) d a b c s

/-- VFMADDSUBPD ymm1, ymm2, ymm3, ymm4/m256 (41_fma.md R197). -/
def execVfmaddsubpdYW1 (d a c : Reg) (b : RegMem) (s : State) : Out :=
  opRVRMfp 256 256 (fmaAlternate (numerics s) .f64 0) d a c b s

/-- VFMSUBADDPS xmm1, xmm2, xmm3/m128, xmm4 (41_fma.md R200). -/
def execVfmsubaddpsX (d a : Reg) (b : RegMem) (c : Reg) (s : State) : Out :=
  opRVMRfp 128 128 (fmaAlternate (numerics s) .f32 1) d a b c s

/-- VFMSUBADDPS xmm1, xmm2, xmm3, xmm4/m128 (41_fma.md R200). -/
def execVfmsubaddpsXW1 (d a c : Reg) (b : RegMem) (s : State) : Out :=
  opRVRMfp 128 128 (fmaAlternate (numerics s) .f32 1) d a c b s

/-- VFMSUBADDPS ymm1, ymm2, ymm3/m256, ymm4 (41_fma.md R200). -/
def execVfmsubaddpsY (d a : Reg) (b : RegMem) (c : Reg) (s : State) : Out :=
  opRVMRfp 256 256 (fmaAlternate (numerics s) .f32 1) d a b c s

/-- VFMSUBADDPS ymm1, ymm2, ymm3, ymm4/m256 (41_fma.md R200). -/
def execVfmsubaddpsYW1 (d a c : Reg) (b : RegMem) (s : State) : Out :=
  opRVRMfp 256 256 (fmaAlternate (numerics s) .f32 1) d a c b s

/-- VFMSUBADDPD xmm1, xmm2, xmm3/m128, xmm4 (41_fma.md R199). -/
def execVfmsubaddpdX (d a : Reg) (b : RegMem) (c : Reg) (s : State) : Out :=
  opRVMRfp 128 128 (fmaAlternate (numerics s) .f64 1) d a b c s

/-- VFMSUBADDPD xmm1, xmm2, xmm3, xmm4/m128 (41_fma.md R199). -/
def execVfmsubaddpdXW1 (d a c : Reg) (b : RegMem) (s : State) : Out :=
  opRVRMfp 128 128 (fmaAlternate (numerics s) .f64 1) d a c b s

/-- VFMSUBADDPD ymm1, ymm2, ymm3/m256, ymm4 (41_fma.md R199). -/
def execVfmsubaddpdY (d a : Reg) (b : RegMem) (c : Reg) (s : State) : Out :=
  opRVMRfp 256 256 (fmaAlternate (numerics s) .f64 1) d a b c s

/-- VFMSUBADDPD ymm1, ymm2, ymm3, ymm4/m256 (41_fma.md R199). -/
def execVfmsubaddpdYW1 (d a c : Reg) (b : RegMem) (s : State) : Out :=
  opRVRMfp 256 256 (fmaAlternate (numerics s) .f64 1) d a c b s

/-- VFMADDPS xmm1, xmm2, xmm3/m128, xmm4 (41_fma.md R182). -/
def execVfmaddpsX (d a : Reg) (b : RegMem) (c : Reg) (s : State) : Out :=
  opRVMRfp 128 128 (fmaPacked (numerics s) .f32 false false) d a b c s

/-- VFMADDPS xmm1, xmm2, xmm3, xmm4/m128 (41_fma.md R182). -/
def execVfmaddpsXW1 (d a c : Reg) (b : RegMem) (s : State) : Out :=
  opRVRMfp 128 128 (fmaPacked (numerics s) .f32 false false) d a c b s

/-- VFMADDPS ymm1, ymm2, ymm3/m256, ymm4 (41_fma.md R182). -/
def execVfmaddpsY (d a : Reg) (b : RegMem) (c : Reg) (s : State) : Out :=
  opRVMRfp 256 256 (fmaPacked (numerics s) .f32 false false) d a b c s

/-- VFMADDPS ymm1, ymm2, ymm3, ymm4/m256 (41_fma.md R182). -/
def execVfmaddpsYW1 (d a c : Reg) (b : RegMem) (s : State) : Out :=
  opRVRMfp 256 256 (fmaPacked (numerics s) .f32 false false) d a c b s

/-- VFMADDPD xmm1, xmm2, xmm3/m128, xmm4 (41_fma.md R181). -/
def execVfmaddpdX (d a : Reg) (b : RegMem) (c : Reg) (s : State) : Out :=
  opRVMRfp 128 128 (fmaPacked (numerics s) .f64 false false) d a b c s

/-- VFMADDPD xmm1, xmm2, xmm3, xmm4/m128 (41_fma.md R181). -/
def execVfmaddpdXW1 (d a c : Reg) (b : RegMem) (s : State) : Out :=
  opRVRMfp 128 128 (fmaPacked (numerics s) .f64 false false) d a c b s

/-- VFMADDPD ymm1, ymm2, ymm3/m256, ymm4 (41_fma.md R181). -/
def execVfmaddpdY (d a : Reg) (b : RegMem) (c : Reg) (s : State) : Out :=
  opRVMRfp 256 256 (fmaPacked (numerics s) .f64 false false) d a b c s

/-- VFMADDPD ymm1, ymm2, ymm3, ymm4/m256 (41_fma.md R181). -/
def execVfmaddpdYW1 (d a c : Reg) (b : RegMem) (s : State) : Out :=
  opRVRMfp 256 256 (fmaPacked (numerics s) .f64 false false) d a c b s

/-- VFMADDSS xmm1, xmm2, xmm3/m32, xmm4 (41_fma.md R184). -/
def execVfmaddss (d a : Reg) (b : RegMem) (c : Reg) (s : State) : Out :=
  opRVMRfp 128 32 (fmaScalar (numerics s) .f32 false false) d a b c s

/-- VFMADDSS xmm1, xmm2, xmm3, xmm4/m32 (41_fma.md R184). -/
def execVfmaddssW1 (d a c : Reg) (b : RegMem) (s : State) : Out :=
  opRVRMfp 128 32 (fmaScalar (numerics s) .f32 false false) d a c b s

/-- VFMADDSD xmm1, xmm2, xmm3/m64, xmm4 (41_fma.md R183). -/
def execVfmaddsd (d a : Reg) (b : RegMem) (c : Reg) (s : State) : Out :=
  opRVMRfp 128 64 (fmaScalar (numerics s) .f64 false false) d a b c s

/-- VFMADDSD xmm1, xmm2, xmm3, xmm4/m64 (41_fma.md R183). -/
def execVfmaddsdW1 (d a c : Reg) (b : RegMem) (s : State) : Out :=
  opRVRMfp 128 64 (fmaScalar (numerics s) .f64 false false) d a c b s

/-- VFMSUBPS xmm1, xmm2, xmm3/m128, xmm4 (41_fma.md R186). -/
def execVfmsubpsX (d a : Reg) (b : RegMem) (c : Reg) (s : State) : Out :=
  opRVMRfp 128 128 (fmaPacked (numerics s) .f32 false true) d a b c s

/-- VFMSUBPS xmm1, xmm2, xmm3, xmm4/m128 (41_fma.md R186). -/
def execVfmsubpsXW1 (d a c : Reg) (b : RegMem) (s : State) : Out :=
  opRVRMfp 128 128 (fmaPacked (numerics s) .f32 false true) d a c b s

/-- VFMSUBPS ymm1, ymm2, ymm3/m256, ymm4 (41_fma.md R186). -/
def execVfmsubpsY (d a : Reg) (b : RegMem) (c : Reg) (s : State) : Out :=
  opRVMRfp 256 256 (fmaPacked (numerics s) .f32 false true) d a b c s

/-- VFMSUBPS ymm1, ymm2, ymm3, ymm4/m256 (41_fma.md R186). -/
def execVfmsubpsYW1 (d a c : Reg) (b : RegMem) (s : State) : Out :=
  opRVRMfp 256 256 (fmaPacked (numerics s) .f32 false true) d a c b s

/-- VFMSUBPD xmm1, xmm2, xmm3/m128, xmm4 (41_fma.md R185). -/
def execVfmsubpdX (d a : Reg) (b : RegMem) (c : Reg) (s : State) : Out :=
  opRVMRfp 128 128 (fmaPacked (numerics s) .f64 false true) d a b c s

/-- VFMSUBPD xmm1, xmm2, xmm3, xmm4/m128 (41_fma.md R185). -/
def execVfmsubpdXW1 (d a c : Reg) (b : RegMem) (s : State) : Out :=
  opRVRMfp 128 128 (fmaPacked (numerics s) .f64 false true) d a c b s

/-- VFMSUBPD ymm1, ymm2, ymm3/m256, ymm4 (41_fma.md R185). -/
def execVfmsubpdY (d a : Reg) (b : RegMem) (c : Reg) (s : State) : Out :=
  opRVMRfp 256 256 (fmaPacked (numerics s) .f64 false true) d a b c s

/-- VFMSUBPD ymm1, ymm2, ymm3, ymm4/m256 (41_fma.md R185). -/
def execVfmsubpdYW1 (d a c : Reg) (b : RegMem) (s : State) : Out :=
  opRVRMfp 256 256 (fmaPacked (numerics s) .f64 false true) d a c b s

/-- VFMSUBSS xmm1, xmm2, xmm3/m32, xmm4 (41_fma.md R188). -/
def execVfmsubss (d a : Reg) (b : RegMem) (c : Reg) (s : State) : Out :=
  opRVMRfp 128 32 (fmaScalar (numerics s) .f32 false true) d a b c s

/-- VFMSUBSS xmm1, xmm2, xmm3, xmm4/m32 (41_fma.md R188). -/
def execVfmsubssW1 (d a c : Reg) (b : RegMem) (s : State) : Out :=
  opRVRMfp 128 32 (fmaScalar (numerics s) .f32 false true) d a c b s

/-- VFMSUBSD xmm1, xmm2, xmm3/m64, xmm4 (41_fma.md R187). -/
def execVfmsubsd (d a : Reg) (b : RegMem) (c : Reg) (s : State) : Out :=
  opRVMRfp 128 64 (fmaScalar (numerics s) .f64 false true) d a b c s

/-- VFMSUBSD xmm1, xmm2, xmm3, xmm4/m64 (41_fma.md R187). -/
def execVfmsubsdW1 (d a c : Reg) (b : RegMem) (s : State) : Out :=
  opRVRMfp 128 64 (fmaScalar (numerics s) .f64 false true) d a c b s

/-- VFNMADDPS xmm1, xmm2, xmm3/m128, xmm4 (41_fma.md R190). -/
def execVfnmaddpsX (d a : Reg) (b : RegMem) (c : Reg) (s : State) : Out :=
  opRVMRfp 128 128 (fmaPacked (numerics s) .f32 true false) d a b c s

/-- VFNMADDPS xmm1, xmm2, xmm3, xmm4/m128 (41_fma.md R190). -/
def execVfnmaddpsXW1 (d a c : Reg) (b : RegMem) (s : State) : Out :=
  opRVRMfp 128 128 (fmaPacked (numerics s) .f32 true false) d a c b s

/-- VFNMADDPS ymm1, ymm2, ymm3/m256, ymm4 (41_fma.md R190). -/
def execVfnmaddpsY (d a : Reg) (b : RegMem) (c : Reg) (s : State) : Out :=
  opRVMRfp 256 256 (fmaPacked (numerics s) .f32 true false) d a b c s

/-- VFNMADDPS ymm1, ymm2, ymm3, ymm4/m256 (41_fma.md R190). -/
def execVfnmaddpsYW1 (d a c : Reg) (b : RegMem) (s : State) : Out :=
  opRVRMfp 256 256 (fmaPacked (numerics s) .f32 true false) d a c b s

/-- VFNMADDPD xmm1, xmm2, xmm3/m128, xmm4 (41_fma.md R189). -/
def execVfnmaddpdX (d a : Reg) (b : RegMem) (c : Reg) (s : State) : Out :=
  opRVMRfp 128 128 (fmaPacked (numerics s) .f64 true false) d a b c s

/-- VFNMADDPD xmm1, xmm2, xmm3, xmm4/m128 (41_fma.md R189). -/
def execVfnmaddpdXW1 (d a c : Reg) (b : RegMem) (s : State) : Out :=
  opRVRMfp 128 128 (fmaPacked (numerics s) .f64 true false) d a c b s

/-- VFNMADDPD ymm1, ymm2, ymm3/m256, ymm4 (41_fma.md R189). -/
def execVfnmaddpdY (d a : Reg) (b : RegMem) (c : Reg) (s : State) : Out :=
  opRVMRfp 256 256 (fmaPacked (numerics s) .f64 true false) d a b c s

/-- VFNMADDPD ymm1, ymm2, ymm3, ymm4/m256 (41_fma.md R189). -/
def execVfnmaddpdYW1 (d a c : Reg) (b : RegMem) (s : State) : Out :=
  opRVRMfp 256 256 (fmaPacked (numerics s) .f64 true false) d a c b s

/-- VFNMADDSS xmm1, xmm2, xmm3/m32, xmm4 (41_fma.md R192). -/
def execVfnmaddss (d a : Reg) (b : RegMem) (c : Reg) (s : State) : Out :=
  opRVMRfp 128 32 (fmaScalar (numerics s) .f32 true false) d a b c s

/-- VFNMADDSS xmm1, xmm2, xmm3, xmm4/m32 (41_fma.md R192). -/
def execVfnmaddssW1 (d a c : Reg) (b : RegMem) (s : State) : Out :=
  opRVRMfp 128 32 (fmaScalar (numerics s) .f32 true false) d a c b s

/-- VFNMADDSD xmm1, xmm2, xmm3/m64, xmm4 (41_fma.md R191). -/
def execVfnmaddsd (d a : Reg) (b : RegMem) (c : Reg) (s : State) : Out :=
  opRVMRfp 128 64 (fmaScalar (numerics s) .f64 true false) d a b c s

/-- VFNMADDSD xmm1, xmm2, xmm3, xmm4/m64 (41_fma.md R191). -/
def execVfnmaddsdW1 (d a c : Reg) (b : RegMem) (s : State) : Out :=
  opRVRMfp 128 64 (fmaScalar (numerics s) .f64 true false) d a c b s

/-- VFNMSUBPS xmm1, xmm2, xmm3/m128, xmm4 (41_fma.md R194). -/
def execVfnmsubpsX (d a : Reg) (b : RegMem) (c : Reg) (s : State) : Out :=
  opRVMRfp 128 128 (fmaPacked (numerics s) .f32 true true) d a b c s

/-- VFNMSUBPS xmm1, xmm2, xmm3, xmm4/m128 (41_fma.md R194). -/
def execVfnmsubpsXW1 (d a c : Reg) (b : RegMem) (s : State) : Out :=
  opRVRMfp 128 128 (fmaPacked (numerics s) .f32 true true) d a c b s

/-- VFNMSUBPS ymm1, ymm2, ymm3/m256, ymm4 (41_fma.md R194). -/
def execVfnmsubpsY (d a : Reg) (b : RegMem) (c : Reg) (s : State) : Out :=
  opRVMRfp 256 256 (fmaPacked (numerics s) .f32 true true) d a b c s

/-- VFNMSUBPS ymm1, ymm2, ymm3, ymm4/m256 (41_fma.md R194). -/
def execVfnmsubpsYW1 (d a c : Reg) (b : RegMem) (s : State) : Out :=
  opRVRMfp 256 256 (fmaPacked (numerics s) .f32 true true) d a c b s

/-- VFNMSUBPD xmm1, xmm2, xmm3/m128, xmm4 (41_fma.md R193). -/
def execVfnmsubpdX (d a : Reg) (b : RegMem) (c : Reg) (s : State) : Out :=
  opRVMRfp 128 128 (fmaPacked (numerics s) .f64 true true) d a b c s

/-- VFNMSUBPD xmm1, xmm2, xmm3, xmm4/m128 (41_fma.md R193). -/
def execVfnmsubpdXW1 (d a c : Reg) (b : RegMem) (s : State) : Out :=
  opRVRMfp 128 128 (fmaPacked (numerics s) .f64 true true) d a c b s

/-- VFNMSUBPD ymm1, ymm2, ymm3/m256, ymm4 (41_fma.md R193). -/
def execVfnmsubpdY (d a : Reg) (b : RegMem) (c : Reg) (s : State) : Out :=
  opRVMRfp 256 256 (fmaPacked (numerics s) .f64 true true) d a b c s

/-- VFNMSUBPD ymm1, ymm2, ymm3, ymm4/m256 (41_fma.md R193). -/
def execVfnmsubpdYW1 (d a c : Reg) (b : RegMem) (s : State) : Out :=
  opRVRMfp 256 256 (fmaPacked (numerics s) .f64 true true) d a c b s

/-- VFNMSUBSS xmm1, xmm2, xmm3/m32, xmm4 (41_fma.md R196). -/
def execVfnmsubss (d a : Reg) (b : RegMem) (c : Reg) (s : State) : Out :=
  opRVMRfp 128 32 (fmaScalar (numerics s) .f32 true true) d a b c s

/-- VFNMSUBSS xmm1, xmm2, xmm3, xmm4/m32 (41_fma.md R196). -/
def execVfnmsubssW1 (d a c : Reg) (b : RegMem) (s : State) : Out :=
  opRVRMfp 128 32 (fmaScalar (numerics s) .f32 true true) d a c b s

/-- VFNMSUBSD xmm1, xmm2, xmm3/m64, xmm4 (41_fma.md R195). -/
def execVfnmsubsd (d a : Reg) (b : RegMem) (c : Reg) (s : State) : Out :=
  opRVMRfp 128 64 (fmaScalar (numerics s) .f64 true true) d a b c s

/-- VFNMSUBSD xmm1, xmm2, xmm3, xmm4/m64 (41_fma.md R195). -/
def execVfnmsubsdW1 (d a c : Reg) (b : RegMem) (s : State) : Out :=
  opRVRMfp 128 64 (fmaScalar (numerics s) .f64 true true) d a c b s

end Sys2Proof.Machine
end

