-- ==== Sys2Proof/Machine/IntArith.lean ====
section
/-! DEFINITION. Integer vector arithmetic on 128 bits (files 46 and 47): sums, differences, products, averages, comparisons,
extremes, sums of absolute differences, insertion from a general register. -/

namespace Sys2Proof.Machine

/-- Signed saturating sum (46_three_operand_xmm_int_a.md R350). -/
def addSatS {w : Nat} (x y : BitVec w) : BitVec w := satS w (x.toInt + y.toInt)

/-- Signed saturating difference (46_three_operand_xmm_int_a.md R352). -/
def subSatS {w : Nat} (x y : BitVec w) : BitVec w := satS w (x.toInt - y.toInt)

/-- Unsigned saturating sum (46_three_operand_xmm_int_a.md R362). -/
def addSatU {w : Nat} (x y : BitVec w) : BitVec w := satU w (unsigned x + unsigned y)

/-- Unsigned saturating difference (46_three_operand_xmm_int_a.md R354). -/
def subSatU {w : Nat} (x y : BitVec w) : BitVec w := satU w (unsigned x - unsigned y)

/-- Adjacent elements, the pairs of the first source in the low half (46_three_operand_xmm_int_a.md R356). -/
def horizontalInt (w : Nat) (f : BitVec w → BitVec w → BitVec w) (a b : BitVec 128) : BitVec 128 :=
  let p := 64 / w
  vec 128 w fun i =>
    let x := if i < p then a else b
    f (elem w (2 * (i % p)) x) (elem w (2 * (i % p) + 1) x)

/-- Rounded-up unsigned average (46_three_operand_xmm_int_a.md R369). -/
def average {w : Nat} (x y : BitVec w) : BitVec w := BitVec.ofNat w ((x.toNat + y.toNat + 1) / 2)

/-- Equality as a mask (46_three_operand_xmm_int_a.md R371). -/
def eqMask {w : Nat} (x y : BitVec w) : BitVec w := maskOf w (x == y)

/-- Signed greater-than as a mask (46_three_operand_xmm_int_a.md R375). -/
def gtMask {w : Nat} (x y : BitVec w) : BitVec w := maskOf w (decide (y.toInt < x.toInt))

/-- Signed maximum (47_three_operand_xmm_int_b.md R403). -/
def maxS {w : Nat} (x y : BitVec w) : BitVec w := if x.toInt > y.toInt then x else y

/-- Signed minimum (47_three_operand_xmm_int_b.md R404). -/
def minS {w : Nat} (x y : BitVec w) : BitVec w := if x.toInt < y.toInt then x else y

/-- Unsigned maximum (47_three_operand_xmm_int_b.md R409). -/
def maxU {w : Nat} (x y : BitVec w) : BitVec w := if x.toNat > y.toNat then x else y

/-- Unsigned minimum (47_three_operand_xmm_int_b.md R410). -/
def minU {w : Nat} (x y : BitVec w) : BitVec w := if x.toNat < y.toNat then x else y

/-- Upper half of the unsigned product (47_three_operand_xmm_int_b.md R415). -/
def mulHighU {w : Nat} (x y : BitVec w) : BitVec w := BitVec.ofNat w (x.toNat * y.toNat / 2 ^ w)

/-- Upper half of the signed product (47_three_operand_xmm_int_b.md R416). -/
def mulHighS {w : Nat} (x y : BitVec w) : BitVec w := BitVec.ofInt w (x.toInt * y.toInt / 2 ^ w)

/-- Bits 30:15 of the rounded signed product (47_three_operand_xmm_int_b.md R417). -/
def mulRound (x y : BitVec 16) : BitVec 16 := BitVec.ofInt 16 ((x.toInt * y.toInt / 2 ^ 14 + 1) / 2)

/-- VPMULDQ: signed products of the even 32-bit elements (47_three_operand_xmm_int_b.md R420). -/
def mulEvenS (a b : BitVec 128) : BitVec 128 :=
  vec 128 64 fun i => BitVec.ofInt 64 ((elem 32 (2 * i) a).toInt * (elem 32 (2 * i) b).toInt)

/-- VPMULUDQ (47_three_operand_xmm_int_b.md R421). -/
def mulEvenU (a b : BitVec 128) : BitVec 128 :=
  vec 128 64 fun i => BitVec.ofNat 64 ((elem 32 (2 * i) a).toNat * (elem 32 (2 * i) b).toNat)

/-- VPMADDWD (47_three_operand_xmm_int_b.md R401). -/
def maddWd (a b : BitVec 128) : BitVec 128 :=
  vec 128 32 fun i =>
    BitVec.ofInt 32 ((elem 16 (2 * i) a).toInt * (elem 16 (2 * i) b).toInt +
      (elem 16 (2 * i + 1) a).toInt * (elem 16 (2 * i + 1) b).toInt)

/-- VPMADDUBSW: the first source unsigned, the second signed (47_three_operand_xmm_int_b.md R402). -/
def maddUbsw (a b : BitVec 128) : BitVec 128 :=
  vec 128 16 fun i =>
    satS 16 (unsigned (elem 8 (2 * i) a) * (elem 8 (2 * i) b).toInt +
      unsigned (elem 8 (2 * i + 1) a) * (elem 8 (2 * i + 1) b).toInt)

/-- VPSADBW (47_three_operand_xmm_int_b.md R422). -/
def sadBw (a b : BitVec 128) : BitVec 128 :=
  vec 128 64 fun h =>
    BitVec.ofNat 64 (sumNat (fun k => absDiff (elem 8 (8 * h + k) a) (elem 8 (8 * h + k) b)) 8)

/-- VMPSADBW (46_three_operand_xmm_int_a.md R341). -/
def mpsadBw (imm : BitVec 8) (a b : BitVec 128) : BitVec 128 :=
  let o1 := 4 * bitNat imm 2
  let o2 := 4 * fieldNat imm 0
  vec 128 16 fun i =>
    BitVec.ofNat 16 (sumNat (fun k => absDiff (elem 8 (o1 + i + k) a) (elem 8 (o2 + k) b)) 4)

/-- VPSIGN: negate, clear or copy by the sign of the second source (47_three_operand_xmm_int_c.md R427). -/
def signBy {w : Nat} (x y : BitVec w) : BitVec w := if y.toInt < 0 then 0 - x else if y = 0 then 0 else x

/-- VPINSR: the element that the low bits of the immediate name (46_three_operand_xmm_int_a.md R379 to R382). -/
def insertElem (w : Nat) (imm : BitVec 8) (a : BitVec 128) (v : BitVec w) : BitVec 128 :=
  setElem w (imm.toNat % (128 / w)) v a

/-! ### The instructions -/

/-- VPCMPGTB xmm1, xmm2, xmm3/m128 (46_three_operand_xmm_int_a.md R375). -/
def execVpcmpgtb (d a : Reg) (b : RegMem) (s : State) : Out :=
  opRVM 128 128 (zipVec 8 gtMask) d a b s

/-- VPCMPGTW xmm1, xmm2, xmm3/m128 (46_three_operand_xmm_int_a.md R376). -/
def execVpcmpgtw (d a : Reg) (b : RegMem) (s : State) : Out :=
  opRVM 128 128 (zipVec 16 gtMask) d a b s

/-- VPCMPGTD xmm1, xmm2, xmm3/m128 (46_three_operand_xmm_int_a.md R377). -/
def execVpcmpgtd (d a : Reg) (b : RegMem) (s : State) : Out :=
  opRVM 128 128 (zipVec 32 gtMask) d a b s

/-- VPCMPEQB xmm1, xmm2, xmm3/m128 (46_three_operand_xmm_int_a.md R371). -/
def execVpcmpeqb (d a : Reg) (b : RegMem) (s : State) : Out :=
  opRVM 128 128 (zipVec 8 eqMask) d a b s

/-- VPCMPEQW xmm1, xmm2, xmm3/m128 (46_three_operand_xmm_int_a.md R372). -/
def execVpcmpeqw (d a : Reg) (b : RegMem) (s : State) : Out :=
  opRVM 128 128 (zipVec 16 eqMask) d a b s

/-- VPCMPEQD xmm1, xmm2, xmm3/m128 (46_three_operand_xmm_int_a.md R373). -/
def execVpcmpeqd (d a : Reg) (b : RegMem) (s : State) : Out :=
  opRVM 128 128 (zipVec 32 eqMask) d a b s

/-- VPINSRW xmm1, xmm2, r32/m16, imm8 (46_three_operand_xmm_int_a.md R380). -/
def execVpinsrw (d a : Reg) (b : RegMem) (imm : BitVec 8) (s : State) : Out :=
  opFromGpr 16 (fun _ x v => (insertElem 16 imm x v, 0)) d a b s

/-- VPADDQ xmm1, xmm2, xmm3/m128 (46_three_operand_xmm_int_a.md R345). -/
def execVpaddq (d a : Reg) (b : RegMem) (s : State) : Out :=
  opRVM 128 128 (zipVec 64 (fun x y => x + y)) d a b s

/-- VPMULLW xmm1, xmm2, xmm3/m128 (47_three_operand_xmm_int_b.md R418). -/
def execVpmullw (d a : Reg) (b : RegMem) (s : State) : Out :=
  opRVM 128 128 (zipVec 16 (fun x y => x * y)) d a b s

/-- VPSUBUSB xmm1, xmm2, xmm3/m128 (46_three_operand_xmm_int_a.md R354). -/
def execVpsubusb (d a : Reg) (b : RegMem) (s : State) : Out :=
  opRVM 128 128 (zipVec 8 subSatU) d a b s

/-- VPSUBUSW xmm1, xmm2, xmm3/m128 (46_three_operand_xmm_int_a.md R355). -/
def execVpsubusw (d a : Reg) (b : RegMem) (s : State) : Out :=
  opRVM 128 128 (zipVec 16 subSatU) d a b s

/-- VPMINUB xmm1, xmm2, xmm3/m128 (47_three_operand_xmm_int_b.md R410). -/
def execVpminub (d a : Reg) (b : RegMem) (s : State) : Out :=
  opRVM 128 128 (zipVec 8 minU) d a b s

/-- VPADDUSB xmm1, xmm2, xmm3/m128 (46_three_operand_xmm_int_a.md R362). -/
def execVpaddusb (d a : Reg) (b : RegMem) (s : State) : Out :=
  opRVM 128 128 (zipVec 8 addSatU) d a b s

/-- VPADDUSW xmm1, xmm2, xmm3/m128 (46_three_operand_xmm_int_a.md R363). -/
def execVpaddusw (d a : Reg) (b : RegMem) (s : State) : Out :=
  opRVM 128 128 (zipVec 16 addSatU) d a b s

/-- VPMAXUB xmm1, xmm2, xmm3/m128 (47_three_operand_xmm_int_b.md R409). -/
def execVpmaxub (d a : Reg) (b : RegMem) (s : State) : Out :=
  opRVM 128 128 (zipVec 8 maxU) d a b s

/-- VPAVGB xmm1, xmm2, xmm3/m128 (46_three_operand_xmm_int_a.md R369). -/
def execVpavgb (d a : Reg) (b : RegMem) (s : State) : Out :=
  opRVM 128 128 (zipVec 8 average) d a b s

/-- VPAVGW xmm1, xmm2, xmm3/m128 (46_three_operand_xmm_int_a.md R370). -/
def execVpavgw (d a : Reg) (b : RegMem) (s : State) : Out :=
  opRVM 128 128 (zipVec 16 average) d a b s

/-- VPMULHUW xmm1, xmm2, xmm3/m128 (47_three_operand_xmm_int_b.md R415). -/
def execVpmulhuw (d a : Reg) (b : RegMem) (s : State) : Out :=
  opRVM 128 128 (zipVec 16 mulHighU) d a b s

/-- VPMULHW xmm1, xmm2, xmm3/m128 (47_three_operand_xmm_int_b.md R416). -/
def execVpmulhw (d a : Reg) (b : RegMem) (s : State) : Out :=
  opRVM 128 128 (zipVec 16 mulHighS) d a b s

/-- VPSUBSB xmm1, xmm2, xmm3/m128 (46_three_operand_xmm_int_a.md R352). -/
def execVpsubsb (d a : Reg) (b : RegMem) (s : State) : Out :=
  opRVM 128 128 (zipVec 8 subSatS) d a b s

/-- VPSUBSW xmm1, xmm2, xmm3/m128 (46_three_operand_xmm_int_a.md R353). -/
def execVpsubsw (d a : Reg) (b : RegMem) (s : State) : Out :=
  opRVM 128 128 (zipVec 16 subSatS) d a b s

/-- VPMINSW xmm1, xmm2, xmm3/m128 (47_three_operand_xmm_int_b.md R406). -/
def execVpminsw (d a : Reg) (b : RegMem) (s : State) : Out :=
  opRVM 128 128 (zipVec 16 minS) d a b s

/-- VPADDSB xmm1, xmm2, xmm3/m128 (46_three_operand_xmm_int_a.md R350). -/
def execVpaddsb (d a : Reg) (b : RegMem) (s : State) : Out :=
  opRVM 128 128 (zipVec 8 addSatS) d a b s

/-- VPADDSW xmm1, xmm2, xmm3/m128 (46_three_operand_xmm_int_a.md R351). -/
def execVpaddsw (d a : Reg) (b : RegMem) (s : State) : Out :=
  opRVM 128 128 (zipVec 16 addSatS) d a b s

/-- VPMAXSW xmm1, xmm2, xmm3/m128 (47_three_operand_xmm_int_b.md R405). -/
def execVpmaxsw (d a : Reg) (b : RegMem) (s : State) : Out :=
  opRVM 128 128 (zipVec 16 maxS) d a b s

/-- VPMULUDQ xmm1, xmm2, xmm3/m128 (47_three_operand_xmm_int_b.md R421). -/
def execVpmuludq (d a : Reg) (b : RegMem) (s : State) : Out :=
  opRVM 128 128 mulEvenU d a b s

/-- VPMADDWD xmm1, xmm2, xmm3/m128 (47_three_operand_xmm_int_b.md R401). -/
def execVpmaddwd (d a : Reg) (b : RegMem) (s : State) : Out :=
  opRVM 128 128 maddWd d a b s

/-- VPSADBW xmm1, xmm2, xmm3/m128 (47_three_operand_xmm_int_b.md R422). -/
def execVpsadbw (d a : Reg) (b : RegMem) (s : State) : Out :=
  opRVM 128 128 sadBw d a b s

/-- VPSUBB xmm1, xmm2, xmm3/m128 (46_three_operand_xmm_int_a.md R346). -/
def execVpsubb (d a : Reg) (b : RegMem) (s : State) : Out :=
  opRVM 128 128 (zipVec 8 (fun x y => x - y)) d a b s

/-- VPSUBW xmm1, xmm2, xmm3/m128 (46_three_operand_xmm_int_a.md R347). -/
def execVpsubw (d a : Reg) (b : RegMem) (s : State) : Out :=
  opRVM 128 128 (zipVec 16 (fun x y => x - y)) d a b s

/-- VPSUBD xmm1, xmm2, xmm3/m128 (46_three_operand_xmm_int_a.md R348). -/
def execVpsubd (d a : Reg) (b : RegMem) (s : State) : Out :=
  opRVM 128 128 (zipVec 32 (fun x y => x - y)) d a b s

/-- VPSUBQ xmm1, xmm2, xmm3/m128 (46_three_operand_xmm_int_a.md R349). -/
def execVpsubq (d a : Reg) (b : RegMem) (s : State) : Out :=
  opRVM 128 128 (zipVec 64 (fun x y => x - y)) d a b s

/-- VPADDB xmm1, xmm2, xmm3/m128 (46_three_operand_xmm_int_a.md R342). -/
def execVpaddb (d a : Reg) (b : RegMem) (s : State) : Out :=
  opRVM 128 128 (zipVec 8 (fun x y => x + y)) d a b s

/-- VPADDW xmm1, xmm2, xmm3/m128 (46_three_operand_xmm_int_a.md R343). -/
def execVpaddw (d a : Reg) (b : RegMem) (s : State) : Out :=
  opRVM 128 128 (zipVec 16 (fun x y => x + y)) d a b s

/-- VPADDD xmm1, xmm2, xmm3/m128 (46_three_operand_xmm_int_a.md R344). -/
def execVpaddd (d a : Reg) (b : RegMem) (s : State) : Out :=
  opRVM 128 128 (zipVec 32 (fun x y => x + y)) d a b s

/-- VPHADDW xmm1, xmm2, xmm3/m128 (46_three_operand_xmm_int_a.md R356). -/
def execVphaddw (d a : Reg) (b : RegMem) (s : State) : Out :=
  opRVM 128 128 (horizontalInt 16 (fun x y => x + y)) d a b s

/-- VPHADDD xmm1, xmm2, xmm3/m128 (46_three_operand_xmm_int_a.md R357). -/
def execVphaddd (d a : Reg) (b : RegMem) (s : State) : Out :=
  opRVM 128 128 (horizontalInt 32 (fun x y => x + y)) d a b s

/-- VPHADDSW xmm1, xmm2, xmm3/m128 (46_three_operand_xmm_int_a.md R360). -/
def execVphaddsw (d a : Reg) (b : RegMem) (s : State) : Out :=
  opRVM 128 128 (horizontalInt 16 addSatS) d a b s

/-- VPMADDUBSW xmm1, xmm2, xmm3/m128 (47_three_operand_xmm_int_b.md R402). -/
def execVpmaddubsw (d a : Reg) (b : RegMem) (s : State) : Out :=
  opRVM 128 128 maddUbsw d a b s

/-- VPHSUBW xmm1, xmm2, xmm3/m128 (46_three_operand_xmm_int_a.md R358). -/
def execVphsubw (d a : Reg) (b : RegMem) (s : State) : Out :=
  opRVM 128 128 (horizontalInt 16 (fun x y => x - y)) d a b s

/-- VPHSUBD xmm1, xmm2, xmm3/m128 (46_three_operand_xmm_int_a.md R359). -/
def execVphsubd (d a : Reg) (b : RegMem) (s : State) : Out :=
  opRVM 128 128 (horizontalInt 32 (fun x y => x - y)) d a b s

/-- VPHSUBSW xmm1, xmm2, xmm3/m128 (46_three_operand_xmm_int_a.md R361). -/
def execVphsubsw (d a : Reg) (b : RegMem) (s : State) : Out :=
  opRVM 128 128 (horizontalInt 16 subSatS) d a b s

/-- VPSIGNB xmm1, xmm2, xmm3/m128 (47_three_operand_xmm_int_c.md R427). -/
def execVpsignb (d a : Reg) (b : RegMem) (s : State) : Out :=
  opRVM 128 128 (zipVec 8 signBy) d a b s

/-- VPSIGNW xmm1, xmm2, xmm3/m128 (47_three_operand_xmm_int_c.md R428). -/
def execVpsignw (d a : Reg) (b : RegMem) (s : State) : Out :=
  opRVM 128 128 (zipVec 16 signBy) d a b s

/-- VPSIGND xmm1, xmm2, xmm3/m128 (47_three_operand_xmm_int_c.md R429). -/
def execVpsignd (d a : Reg) (b : RegMem) (s : State) : Out :=
  opRVM 128 128 (zipVec 32 signBy) d a b s

/-- VPMULHRSW xmm1, xmm2, xmm3/m128 (47_three_operand_xmm_int_b.md R417). -/
def execVpmulhrsw (d a : Reg) (b : RegMem) (s : State) : Out :=
  opRVM 128 128 (zipVec 16 mulRound) d a b s

/-- VPMULDQ xmm1, xmm2, xmm3/m128 (47_three_operand_xmm_int_b.md R420). -/
def execVpmuldq (d a : Reg) (b : RegMem) (s : State) : Out :=
  opRVM 128 128 mulEvenS d a b s

/-- VPCMPEQQ xmm1, xmm2, xmm3/m128 (46_three_operand_xmm_int_a.md R374). -/
def execVpcmpeqq (d a : Reg) (b : RegMem) (s : State) : Out :=
  opRVM 128 128 (zipVec 64 eqMask) d a b s

/-- VPCMPGTQ xmm1, xmm2, xmm3/m128 (46_three_operand_xmm_int_a.md R378). -/
def execVpcmpgtq (d a : Reg) (b : RegMem) (s : State) : Out :=
  opRVM 128 128 (zipVec 64 gtMask) d a b s

/-- VPMINSB xmm1, xmm2, xmm3/m128 (47_three_operand_xmm_int_b.md R404). -/
def execVpminsb (d a : Reg) (b : RegMem) (s : State) : Out :=
  opRVM 128 128 (zipVec 8 minS) d a b s

/-- VPMINSD xmm1, xmm2, xmm3/m128 (47_three_operand_xmm_int_b.md R408). -/
def execVpminsd (d a : Reg) (b : RegMem) (s : State) : Out :=
  opRVM 128 128 (zipVec 32 minS) d a b s

/-- VPMINUW xmm1, xmm2, xmm3/m128 (47_three_operand_xmm_int_b.md R412). -/
def execVpminuw (d a : Reg) (b : RegMem) (s : State) : Out :=
  opRVM 128 128 (zipVec 16 minU) d a b s

/-- VPMINUD xmm1, xmm2, xmm3/m128 (47_three_operand_xmm_int_b.md R414). -/
def execVpminud (d a : Reg) (b : RegMem) (s : State) : Out :=
  opRVM 128 128 (zipVec 32 minU) d a b s

/-- VPMAXSB xmm1, xmm2, xmm3/m128 (47_three_operand_xmm_int_b.md R403). -/
def execVpmaxsb (d a : Reg) (b : RegMem) (s : State) : Out :=
  opRVM 128 128 (zipVec 8 maxS) d a b s

/-- VPMAXSD xmm1, xmm2, xmm3/m128 (47_three_operand_xmm_int_b.md R407). -/
def execVpmaxsd (d a : Reg) (b : RegMem) (s : State) : Out :=
  opRVM 128 128 (zipVec 32 maxS) d a b s

/-- VPMAXUW xmm1, xmm2, xmm3/m128 (47_three_operand_xmm_int_b.md R411). -/
def execVpmaxuw (d a : Reg) (b : RegMem) (s : State) : Out :=
  opRVM 128 128 (zipVec 16 maxU) d a b s

/-- VPMAXUD xmm1, xmm2, xmm3/m128 (47_three_operand_xmm_int_b.md R413). -/
def execVpmaxud (d a : Reg) (b : RegMem) (s : State) : Out :=
  opRVM 128 128 (zipVec 32 maxU) d a b s

/-- VPMULLD xmm1, xmm2, xmm3/m128 (47_three_operand_xmm_int_b.md R419). -/
def execVpmulld (d a : Reg) (b : RegMem) (s : State) : Out :=
  opRVM 128 128 (zipVec 32 (fun x y => x * y)) d a b s

/-- VPINSRB xmm1, xmm2, r32/m8, imm8 (46_three_operand_xmm_int_a.md R379). -/
def execVpinsrb (d a : Reg) (b : RegMem) (imm : BitVec 8) (s : State) : Out :=
  opFromGpr 8 (fun _ x v => (insertElem 8 imm x v, 0)) d a b s

/-- VPINSRD xmm1, xmm2, r32/m32, imm8 (46_three_operand_xmm_int_a.md R381). -/
def execVpinsrd (d a : Reg) (b : RegMem) (imm : BitVec 8) (s : State) : Out :=
  opFromGpr 32 (fun _ x v => (insertElem 32 imm x v, 0)) d a b s

/-- VPINSRQ xmm1, xmm2, r64/m64, imm8 (46_three_operand_xmm_int_a.md R382). -/
def execVpinsrq (d a : Reg) (b : RegMem) (imm : BitVec 8) (s : State) : Out :=
  opFromGpr64 (fun _ x v => (insertElem 64 imm x v, 0)) d a b s

/-- VMPSADBW xmm1, xmm2, xmm3/m128, imm8 (46_three_operand_xmm_int_a.md R341). -/
def execVmpsadbw (d a : Reg) (b : RegMem) (imm : BitVec 8) (s : State) : Out :=
  opRVM 128 128 (mpsadBw imm) d a b s

end Sys2Proof.Machine
end

