-- ==== Sys2Proof/Machine/Shuffle.lean ====
section
/-! DEFINITION. Data movement between elements: broadcasts, insertion and extraction of halves, permutations, shuffles,
unpacks, blends, VINSERTPS (files 40, 43, 46, 47 and 48). -/

namespace Sys2Proof.Machine

/-- One value in every element (40_new_instructions.md R151). -/
def broadcast (n : Nat) {w : Nat} (v : BitVec w) : BitVec n := vec n w fun _ => v

/-- A half of a YMM source (40_new_instructions.md R154). -/
def extractHalf (imm : BitVec 8) (a : BitVec 256) : BitVec 128 := elem 128 (bitNat imm 0) a

/-- A YMM source with one half replaced (40_new_instructions.md R155). -/
def insertHalf (imm : BitVec 8) (a : BitVec 256) (v : BitVec 128) : BitVec 256 := setElem 128 (bitNat imm 0) v a

/-- VPERMILPD with a control vector: bit 1 of each control element (40_new_instructions.md R158). -/
def permilPd {n : Nat} (a ctrl : BitVec n) : BitVec n :=
  vec n 64 fun i => elem 64 (i / 2 * 2 + ((elem 64 i ctrl).getLsbD 1).toNat) a

/-- VPERMILPD with an immediate: one bit for each element (40_new_instructions.md R158). -/
def permilPdImm {n : Nat} (imm : BitVec 8) (a : BitVec n) : BitVec n :=
  vec n 64 fun i => elem 64 (i / 2 * 2 + bitNat imm i) a

/-- VPERMILPS with a control vector: bits 1:0 of each control element (40_new_instructions.md R159). -/
def permilPs {n : Nat} (a ctrl : BitVec n) : BitVec n :=
  vec n 32 fun i => elem 32 (i / 4 * 4 + ((elem 32 i ctrl).extractLsb' 0 2).toNat) a

/-- VPERMILPS with an immediate: the same four 2-bit fields in every lane (40_new_instructions.md R159). -/
def permilPsImm {n : Nat} (imm : BitVec 8) (a : BitVec n) : BitVec n :=
  vec n 32 fun i => elem 32 (i / 4 * 4 + fieldNat imm (2 * (i % 4))) a

/-- One element of VPERMIL2PD or VPERMIL2PS: `sel` picks among the `p` elements of the lane of each source, the match bit
and `imm2` may zero it (40_new_instructions.md R160, R161). -/
def permil2Elem {n : Nat} (w p : Nat) (imm2 : BitVec 2) (a b : BitVec n) (i sel : Nat) (matchBit : Bool) : BitVec w :=
  if (imm2 = 2 ∧ matchBit = true) ∨ (imm2 = 3 ∧ matchBit = false) then 0
  else if sel < p then elem w (i / p * p + sel) a
  else elem w (i / p * p + (sel - p)) b

/-- VPERMIL2PD: bits 2:1 of the selector element choose (40_new_instructions.md R160). -/
def permil2Pd {n : Nat} (imm2 : BitVec 2) (a b s : BitVec n) : BitVec n :=
  vec n 64 fun i =>
    permil2Elem 64 2 imm2 a b i ((elem 64 i s).extractLsb' 1 2).toNat ((elem 64 i s).getLsbD 3)

/-- VPERMIL2PS: bits 2:0 of the selector element choose (40_new_instructions.md R161). -/
def permil2Ps {n : Nat} (imm2 : BitVec 2) (a b s : BitVec n) : BitVec n :=
  vec n 32 fun i =>
    permil2Elem 32 4 imm2 a b i ((elem 32 i s).extractLsb' 0 3).toNat ((elem 32 i s).getLsbD 3)

/-- VPERMIL2PD and VPERMIL2PS have a meaning only under `Permil2Sem` (40_new_instructions.md R160). -/
def needPermil2 (s : State) (k : Out) : Out := if s.par.permil2Sem then k else .refused .permil2Off

/-- One half of VPERM2F128: four bits of the immediate at `lo` (40_new_instructions.md R162). -/
def perm2Half (imm : BitVec 8) (lo : Nat) (a b : BitVec 256) : BitVec 128 :=
  if imm.getLsbD (lo + 3) then 0
  else if imm.getLsbD (lo + 1) then elem 128 (bitNat imm lo) b
  else elem 128 (bitNat imm lo) a

/-- VPERM2F128 (40_new_instructions.md R162). -/
def perm2F128 (imm : BitVec 8) (a b : BitVec 256) : BitVec 256 :=
  vec 256 128 fun k => perm2Half imm (4 * k) a b

/-- VSHUFPD (43_sse_on_ymm.md R246). -/
def shufPd {n : Nat} (imm : BitVec 8) (a b : BitVec n) : BitVec n :=
  vec n 64 fun i => elem 64 (i / 2 * 2 + bitNat imm i) (if i % 2 = 0 then a else b)

/-- VSHUFPS (43_sse_on_ymm.md R247). -/
def shufPs {n : Nat} (imm : BitVec 8) (a b : BitVec n) : BitVec n :=
  vec n 32 fun i => elem 32 (i / 4 * 4 + fieldNat imm (2 * (i % 4))) (if i % 4 < 2 then a else b)

/-- The unpacks: in each lane the elements of the low or high half of the two sources by turns, the first source first
(43_sse_on_ymm.md R250 to R253, 47_three_operand_xmm_int_c.md R440 to R447). -/
def unpack {n : Nat} (w : Nat) (high : Bool) (a b : BitVec n) : BitVec n :=
  let p := 128 / w
  vec n w fun i =>
    elem w (i / p * p + (if high then p / 2 else 0) + i % p / 2) (if i % 2 = 0 then a else b)

/-- A choice of each element by a bit of the immediate (48_four_operand.md R461, R462, R467). -/
def blendImm {n : Nat} (w : Nat) (imm : BitVec 8) (a b : BitVec n) : BitVec n :=
  vec n w fun i => if imm.getLsbD i then elem w i b else elem w i a

/-- A choice of each element by the top bit of a mask element (48_four_operand.md R463, R464, R466). -/
def blendVar {n : Nat} (w : Nat) (a b m : BitVec n) : BitVec n :=
  vec n w fun i => if (elem w i m).getLsbD (w - 1) then elem w i b else elem w i a

/-- VINSERTPS: insertion, then zeroing (48_four_operand.md R469). -/
def insertPs (imm : BitVec 8) (a : BitVec 128) (e : BitVec 32) : BitVec 128 :=
  vec 128 32 fun i => if imm.getLsbD i then 0 else elem 32 i (setElem 32 (fieldNat imm 4) e a)

/-- VPSHUFB: bit 7 of a control byte zeroes, bits 3:0 choose (47_three_operand_xmm_int_b.md R423). -/
def shufB (a b : BitVec 128) : BitVec 128 :=
  vec 128 8 fun i =>
    if (elem 8 i b).getLsbD 7 then 0 else elem 8 ((elem 8 i b).extractLsb' 0 4).toNat a

/-- VPSHUFD (47_three_operand_xmm_int_b.md R424). -/
def shufD (imm : BitVec 8) (a : BitVec 128) : BitVec 128 := vec 128 32 fun i => elem 32 (fieldNat imm (2 * i)) a

/-- VPSHUFHW (47_three_operand_xmm_int_b.md R425). -/
def shufHW (imm : BitVec 8) (a : BitVec 128) : BitVec 128 :=
  vec 128 16 fun i => if i < 4 then elem 16 i a else elem 16 (4 + fieldNat imm (2 * (i - 4))) a

/-- VPSHUFLW (47_three_operand_xmm_int_b.md R426). -/
def shufLW (imm : BitVec 8) (a : BitVec 128) : BitVec 128 :=
  vec 128 16 fun i => if i < 4 then elem 16 (fieldNat imm (2 * i)) a else elem 16 i a

/-! ### The instructions -/

/-- VUNPCKLPS xmm1, xmm2, xmm3/m128 (43_sse_on_ymm.md R253). -/
def execVunpcklpsX (d a : Reg) (b : RegMem) (s : State) : Out :=
  opRVM 128 128 (unpack 32 false) d a b s

/-- VUNPCKLPS ymm1, ymm2, ymm3/m256 (43_sse_on_ymm.md R253). -/
def execVunpcklpsY (d a : Reg) (b : RegMem) (s : State) : Out :=
  opRVM 256 256 (unpack 32 false) d a b s

/-- VUNPCKLPD xmm1, xmm2, xmm3/m128 (43_sse_on_ymm.md R252). -/
def execVunpcklpdX (d a : Reg) (b : RegMem) (s : State) : Out :=
  opRVM 128 128 (unpack 64 false) d a b s

/-- VUNPCKLPD ymm1, ymm2, ymm3/m256 (43_sse_on_ymm.md R252). -/
def execVunpcklpdY (d a : Reg) (b : RegMem) (s : State) : Out :=
  opRVM 256 256 (unpack 64 false) d a b s

/-- VUNPCKHPS xmm1, xmm2, xmm3/m128 (43_sse_on_ymm.md R251). -/
def execVunpckhpsX (d a : Reg) (b : RegMem) (s : State) : Out :=
  opRVM 128 128 (unpack 32 true) d a b s

/-- VUNPCKHPS ymm1, ymm2, ymm3/m256 (43_sse_on_ymm.md R251). -/
def execVunpckhpsY (d a : Reg) (b : RegMem) (s : State) : Out :=
  opRVM 256 256 (unpack 32 true) d a b s

/-- VUNPCKHPD xmm1, xmm2, xmm3/m128 (43_sse_on_ymm.md R250). -/
def execVunpckhpdX (d a : Reg) (b : RegMem) (s : State) : Out :=
  opRVM 128 128 (unpack 64 true) d a b s

/-- VUNPCKHPD ymm1, ymm2, ymm3/m256 (43_sse_on_ymm.md R250). -/
def execVunpckhpdY (d a : Reg) (b : RegMem) (s : State) : Out :=
  opRVM 256 256 (unpack 64 true) d a b s

/-- VPSHUFD xmm1, xmm2/m128, imm8 (47_three_operand_xmm_int_b.md R424). -/
def execVpshufd (d : Reg) (b : RegMem) (imm : BitVec 8) (s : State) : Out :=
  opRM 128 128 (shufD imm) d b s

/-- VPSHUFHW xmm1, xmm2/m128, imm8 (47_three_operand_xmm_int_b.md R425). -/
def execVpshufhw (d : Reg) (b : RegMem) (imm : BitVec 8) (s : State) : Out :=
  opRM 128 128 (shufHW imm) d b s

/-- VPSHUFLW xmm1, xmm2/m128, imm8 (47_three_operand_xmm_int_b.md R426). -/
def execVpshuflw (d : Reg) (b : RegMem) (imm : BitVec 8) (s : State) : Out :=
  opRM 128 128 (shufLW imm) d b s

/-- VSHUFPS xmm1, xmm2, xmm3/m128, imm8 (43_sse_on_ymm.md R247). -/
def execVshufpsX (d a : Reg) (b : RegMem) (imm : BitVec 8) (s : State) : Out :=
  opRVM 128 128 (shufPs imm) d a b s

/-- VSHUFPS ymm1, ymm2, ymm3/m256, imm8 (43_sse_on_ymm.md R247). -/
def execVshufpsY (d a : Reg) (b : RegMem) (imm : BitVec 8) (s : State) : Out :=
  opRVM 256 256 (shufPs imm) d a b s

/-- VSHUFPD xmm1, xmm2, xmm3/m128, imm8 (43_sse_on_ymm.md R246). -/
def execVshufpdX (d a : Reg) (b : RegMem) (imm : BitVec 8) (s : State) : Out :=
  opRVM 128 128 (shufPd imm) d a b s

/-- VSHUFPD ymm1, ymm2, ymm3/m256, imm8 (43_sse_on_ymm.md R246). -/
def execVshufpdY (d a : Reg) (b : RegMem) (imm : BitVec 8) (s : State) : Out :=
  opRVM 256 256 (shufPd imm) d a b s

/-- VPSHUFB xmm1, xmm2, xmm3/m128 (47_three_operand_xmm_int_b.md R423). -/
def execVpshufb (d a : Reg) (b : RegMem) (s : State) : Out :=
  opRVM 128 128 shufB d a b s

/-- VPERMILPS xmm1, xmm2, xmm3/m128 (40_new_instructions.md R159). -/
def execVpermilpsX (d a : Reg) (b : RegMem) (s : State) : Out :=
  opRVM 128 128 permilPs d a b s

/-- VPERMILPS ymm1, ymm2, ymm3/m256 (40_new_instructions.md R159). -/
def execVpermilpsY (d a : Reg) (b : RegMem) (s : State) : Out :=
  opRVM 256 256 permilPs d a b s

/-- VPERMILPD xmm1, xmm2, xmm3/m128 (40_new_instructions.md R158). -/
def execVpermilpdX (d a : Reg) (b : RegMem) (s : State) : Out :=
  opRVM 128 128 permilPd d a b s

/-- VPERMILPD ymm1, ymm2, ymm3/m256 (40_new_instructions.md R158). -/
def execVpermilpdY (d a : Reg) (b : RegMem) (s : State) : Out :=
  opRVM 256 256 permilPd d a b s

/-- VBROADCASTSS xmm1, m32 (40_new_instructions.md R151). -/
def execVbroadcastssX (d : Reg) (b : MemOp) (s : State) : Out :=
  opRM 128 32 (broadcast 128) d (.mem b) s

/-- VBROADCASTSS ymm1, m32 (40_new_instructions.md R151). -/
def execVbroadcastssY (d : Reg) (b : MemOp) (s : State) : Out :=
  opRM 256 32 (broadcast 256) d (.mem b) s

/-- VBROADCASTSD ymm1, m64 (40_new_instructions.md R152). -/
def execVbroadcastsd (d : Reg) (b : MemOp) (s : State) : Out :=
  opRM 256 64 (broadcast 256) d (.mem b) s

/-- VBROADCASTF128 ymm1, m128 (40_new_instructions.md R153). -/
def execVbroadcastf128 (d : Reg) (b : MemOp) (s : State) : Out :=
  opRM 256 128 (broadcast 256) d (.mem b) s

/-- VPERMILPS xmm1, xmm2/m128, imm8 (40_new_instructions.md R159). -/
def execVpermilpsXImm (d : Reg) (b : RegMem) (imm : BitVec 8) (s : State) : Out :=
  opRM 128 128 (permilPsImm imm) d b s

/-- VPERMILPS ymm1, ymm2/m256, imm8 (40_new_instructions.md R159). -/
def execVpermilpsYImm (d : Reg) (b : RegMem) (imm : BitVec 8) (s : State) : Out :=
  opRM 256 256 (permilPsImm imm) d b s

/-- VPERMILPD xmm1, xmm2/m128, imm8 (40_new_instructions.md R158). -/
def execVpermilpdXImm (d : Reg) (b : RegMem) (imm : BitVec 8) (s : State) : Out :=
  opRM 128 128 (permilPdImm imm) d b s

/-- VPERMILPD ymm1, ymm2/m256, imm8 (40_new_instructions.md R158). -/
def execVpermilpdYImm (d : Reg) (b : RegMem) (imm : BitVec 8) (s : State) : Out :=
  opRM 256 256 (permilPdImm imm) d b s

/-- VPERM2F128 ymm1, ymm2, ymm3/m256, imm8 (40_new_instructions.md R162). -/
def execVperm2f128 (d a : Reg) (b : RegMem) (imm : BitVec 8) (s : State) : Out :=
  opRVM 256 256 (perm2F128 imm) d a b s

/-- VBLENDPS xmm1, xmm2, xmm3/m128, imm8 (48_four_operand.md R462). -/
def execVblendpsX (d a : Reg) (b : RegMem) (imm : BitVec 8) (s : State) : Out :=
  opRVM 128 128 (blendImm 32 imm) d a b s

/-- VBLENDPS ymm1, ymm2, ymm3/m256, imm8 (48_four_operand.md R462). -/
def execVblendpsY (d a : Reg) (b : RegMem) (imm : BitVec 8) (s : State) : Out :=
  opRVM 256 256 (blendImm 32 imm) d a b s

/-- VBLENDPD xmm1, xmm2, xmm3/m128, imm8 (48_four_operand.md R461). -/
def execVblendpdX (d a : Reg) (b : RegMem) (imm : BitVec 8) (s : State) : Out :=
  opRVM 128 128 (blendImm 64 imm) d a b s

/-- VBLENDPD ymm1, ymm2, ymm3/m256, imm8 (48_four_operand.md R461). -/
def execVblendpdY (d a : Reg) (b : RegMem) (imm : BitVec 8) (s : State) : Out :=
  opRVM 256 256 (blendImm 64 imm) d a b s

/-- VPBLENDW xmm1, xmm2, xmm3/m128, imm8 (48_four_operand.md R467). -/
def execVpblendw (d a : Reg) (b : RegMem) (imm : BitVec 8) (s : State) : Out :=
  opRVM 128 128 (blendImm 16 imm) d a b s

/-- VINSERTF128 ymm1, ymm2, xmm3/m128, imm8 (40_new_instructions.md R155). -/
def execVinsertf128 (d a : Reg) (b : RegMem) (imm : BitVec 8) (s : State) : Out :=
  opRVM 256 128 (insertHalf imm) d a b s

/-- VEXTRACTF128 xmm1/m128, ymm2, imm8 (40_new_instructions.md R154). -/
def execVextractf128 (d : RegMem) (a : Reg) (imm : BitVec 8) (s : State) : Out :=
  opMR 1 d a (fun t => extractHalf imm (readVec 256 t a)) s

/-- VINSERTPS xmm1, xmm2, xmm3/m32, imm8 (48_four_operand.md R469). -/
def execVinsertps (d a : Reg) (b : RegMem) (imm : BitVec 8) (s : State) : Out :=
  match b with
  | .reg _ => opRVM 128 128 (fun x v => insertPs imm x (elem 32 (fieldNat imm 6) v)) d a b s
  | .mem _ => opRVM 128 32 (insertPs imm) d a b s

/-- VPERMIL2PS xmm1, xmm2, xmm3/m128, xmm4, imm2 (40_new_instructions.md R161). -/
def execVpermil2psX (d a : Reg) (b : RegMem) (c : Reg) (imm : BitVec 2) (s : State) : Out :=
  needPermil2 s (opRVMR 128 (permil2Ps imm) d a b c s)

/-- VPERMIL2PS xmm1, xmm2, xmm3, xmm4/m128, imm2 (40_new_instructions.md R161). -/
def execVpermil2psXW1 (d a c : Reg) (b : RegMem) (imm : BitVec 2) (s : State) : Out :=
  needPermil2 s (opRVRM 128 (permil2Ps imm) d a c b s)

/-- VPERMIL2PS ymm1, ymm2, ymm3/m256, ymm4, imm2 (40_new_instructions.md R161). -/
def execVpermil2psY (d a : Reg) (b : RegMem) (c : Reg) (imm : BitVec 2) (s : State) : Out :=
  needPermil2 s (opRVMR 256 (permil2Ps imm) d a b c s)

/-- VPERMIL2PS ymm1, ymm2, ymm3, ymm4/m256, imm2 (40_new_instructions.md R161). -/
def execVpermil2psYW1 (d a c : Reg) (b : RegMem) (imm : BitVec 2) (s : State) : Out :=
  needPermil2 s (opRVRM 256 (permil2Ps imm) d a c b s)

/-- VPERMIL2PD xmm1, xmm2, xmm3/m128, xmm4, imm2 (40_new_instructions.md R160). -/
def execVpermil2pdX (d a : Reg) (b : RegMem) (c : Reg) (imm : BitVec 2) (s : State) : Out :=
  needPermil2 s (opRVMR 128 (permil2Pd imm) d a b c s)

/-- VPERMIL2PD xmm1, xmm2, xmm3, xmm4/m128, imm2 (40_new_instructions.md R160). -/
def execVpermil2pdXW1 (d a c : Reg) (b : RegMem) (imm : BitVec 2) (s : State) : Out :=
  needPermil2 s (opRVRM 128 (permil2Pd imm) d a c b s)

/-- VPERMIL2PD ymm1, ymm2, ymm3/m256, ymm4, imm2 (40_new_instructions.md R160). -/
def execVpermil2pdY (d a : Reg) (b : RegMem) (c : Reg) (imm : BitVec 2) (s : State) : Out :=
  needPermil2 s (opRVMR 256 (permil2Pd imm) d a b c s)

/-- VPERMIL2PD ymm1, ymm2, ymm3, ymm4/m256, imm2 (40_new_instructions.md R160). -/
def execVpermil2pdYW1 (d a c : Reg) (b : RegMem) (imm : BitVec 2) (s : State) : Out :=
  needPermil2 s (opRVRM 256 (permil2Pd imm) d a c b s)

/-- VBLENDVPS xmm1, xmm2, xmm3/m128, xmm4 (48_four_operand.md R464). -/
def execVblendvpsX (d a : Reg) (b : RegMem) (c : Reg) (s : State) : Out :=
  opRVMR 128 (blendVar 32) d a b c s

/-- VBLENDVPS ymm1, ymm2, ymm3/m256, ymm4 (48_four_operand.md R464). -/
def execVblendvpsY (d a : Reg) (b : RegMem) (c : Reg) (s : State) : Out :=
  opRVMR 256 (blendVar 32) d a b c s

/-- VBLENDVPD xmm1, xmm2, xmm3/m128, xmm4 (48_four_operand.md R463). -/
def execVblendvpdX (d a : Reg) (b : RegMem) (c : Reg) (s : State) : Out :=
  opRVMR 128 (blendVar 64) d a b c s

/-- VBLENDVPD ymm1, ymm2, ymm3/m256, ymm4 (48_four_operand.md R463). -/
def execVblendvpdY (d a : Reg) (b : RegMem) (c : Reg) (s : State) : Out :=
  opRVMR 256 (blendVar 64) d a b c s

/-- VPBLENDVB xmm1, xmm2, xmm3/m128, xmm4 (48_four_operand.md R466). -/
def execVpblendvb (d a : Reg) (b : RegMem) (c : Reg) (s : State) : Out :=
  opRVMR 128 (blendVar 8) d a b c s

end Sys2Proof.Machine
end

