-- ==== Sys2Proof/Machine/IntShift.lean ====
section
/-! DEFINITION. Integer logic, shifts, packs and unpacks on 128 bits (files 44, 46 and 47). -/

namespace Sys2Proof.Machine

/-- Bitwise and of the complement of the first source with the second (44_three_operand_xmm_ymm_a.md R285). -/
def andNot {n : Nat} (a b : BitVec n) : BitVec n := ~~~a &&& b

/-- Logical left shift of an element; a count of the width or more clears it (47_three_operand_xmm_int_c.md R432). -/
def shiftLeft {w : Nat} (cnt : Nat) (x : BitVec w) : BitVec w := if w ≤ cnt then 0 else x <<< cnt

/-- Logical right shift of an element (47_three_operand_xmm_int_c.md R437). -/
def shiftRight {w : Nat} (cnt : Nat) (x : BitVec w) : BitVec w := if w ≤ cnt then 0 else x >>> cnt

/-- Arithmetic right shift of an element (47_three_operand_xmm_int_c.md R435). -/
def shiftArith {w : Nat} (cnt : Nat) (x : BitVec w) : BitVec w := x.sshiftRight (min cnt (w - 1))

/-- The same shift on every element. -/
def shiftVec (w : Nat) (f : Nat → BitVec w → BitVec w) (cnt : Nat) (a : BitVec 128) : BitVec 128 :=
  vec 128 w fun i => f cnt (elem w i a)

/-- The count in the low 64 bits of the second source (47_three_operand_xmm_int_c.md R432). -/
def countOf (b : BitVec 128) : Nat := (b.extractLsb' 0 64).toNat

/-- VPSLLDQ (47_three_operand_xmm_int_c.md R430). -/
def byteShiftLeft (imm : BitVec 8) (a : BitVec 128) : BitVec 128 := a <<< (8 * min imm.toNat 16)

/-- VPSRLDQ (47_three_operand_xmm_int_c.md R431). -/
def byteShiftRight (imm : BitVec 8) (a : BitVec 128) : BitVec 128 := a >>> (8 * min imm.toNat 16)

/-- VPALIGNR (46_three_operand_xmm_int_a.md R364). -/
def alignRight (imm : BitVec 8) (a b : BitVec 128) : BitVec 128 :=
  if 32 ≤ imm.toNat then 0 else ((a ++ b : BitVec 256) >>> (8 * imm.toNat)).setWidth 128

/-- The packs: elements of width `2 * w` narrowed to `w`, the first source in the low half
(44_three_operand_xmm_ymm_b.md R305 to R308). -/
def packWith (w : Nat) (sat : Int → BitVec w) (a b : BitVec 128) : BitVec 128 :=
  let p := 64 / w
  vec 128 w fun i => sat (elem (2 * w) (i % p) (if i < p then a else b)).toInt

/-! ### The instructions -/

/-- VANDPS xmm1, xmm2, xmm3/m128 (44_three_operand_xmm_ymm_a.md R284). -/
def execVandpsX (d a : Reg) (b : RegMem) (s : State) : Out :=
  opRVM 128 128 (fun x v => x &&& v) d a b s

/-- VANDPS ymm1, ymm2, ymm3/m256 (44_three_operand_xmm_ymm_a.md R284). -/
def execVandpsY (d a : Reg) (b : RegMem) (s : State) : Out :=
  opRVM 256 256 (fun x v => x &&& v) d a b s

/-- VANDPD xmm1, xmm2, xmm3/m128 (44_three_operand_xmm_ymm_a.md R283). -/
def execVandpdX (d a : Reg) (b : RegMem) (s : State) : Out :=
  opRVM 128 128 (fun x v => x &&& v) d a b s

/-- VANDPD ymm1, ymm2, ymm3/m256 (44_three_operand_xmm_ymm_a.md R283). -/
def execVandpdY (d a : Reg) (b : RegMem) (s : State) : Out :=
  opRVM 256 256 (fun x v => x &&& v) d a b s

/-- VANDNPS xmm1, xmm2, xmm3/m128 (44_three_operand_xmm_ymm_a.md R286). -/
def execVandnpsX (d a : Reg) (b : RegMem) (s : State) : Out :=
  opRVM 128 128 andNot d a b s

/-- VANDNPS ymm1, ymm2, ymm3/m256 (44_three_operand_xmm_ymm_a.md R286). -/
def execVandnpsY (d a : Reg) (b : RegMem) (s : State) : Out :=
  opRVM 256 256 andNot d a b s

/-- VANDNPD xmm1, xmm2, xmm3/m128 (44_three_operand_xmm_ymm_a.md R285). -/
def execVandnpdX (d a : Reg) (b : RegMem) (s : State) : Out :=
  opRVM 128 128 andNot d a b s

/-- VANDNPD ymm1, ymm2, ymm3/m256 (44_three_operand_xmm_ymm_a.md R285). -/
def execVandnpdY (d a : Reg) (b : RegMem) (s : State) : Out :=
  opRVM 256 256 andNot d a b s

/-- VORPS xmm1, xmm2, xmm3/m128 (44_three_operand_xmm_ymm_a.md R288). -/
def execVorpsX (d a : Reg) (b : RegMem) (s : State) : Out :=
  opRVM 128 128 (fun x v => x ||| v) d a b s

/-- VORPS ymm1, ymm2, ymm3/m256 (44_three_operand_xmm_ymm_a.md R288). -/
def execVorpsY (d a : Reg) (b : RegMem) (s : State) : Out :=
  opRVM 256 256 (fun x v => x ||| v) d a b s

/-- VORPD xmm1, xmm2, xmm3/m128 (44_three_operand_xmm_ymm_a.md R287). -/
def execVorpdX (d a : Reg) (b : RegMem) (s : State) : Out :=
  opRVM 128 128 (fun x v => x ||| v) d a b s

/-- VORPD ymm1, ymm2, ymm3/m256 (44_three_operand_xmm_ymm_a.md R287). -/
def execVorpdY (d a : Reg) (b : RegMem) (s : State) : Out :=
  opRVM 256 256 (fun x v => x ||| v) d a b s

/-- VXORPS xmm1, xmm2, xmm3/m128 (44_three_operand_xmm_ymm_a.md R290). -/
def execVxorpsX (d a : Reg) (b : RegMem) (s : State) : Out :=
  opRVM 128 128 (fun x v => x ^^^ v) d a b s

/-- VXORPS ymm1, ymm2, ymm3/m256 (44_three_operand_xmm_ymm_a.md R290). -/
def execVxorpsY (d a : Reg) (b : RegMem) (s : State) : Out :=
  opRVM 256 256 (fun x v => x ^^^ v) d a b s

/-- VXORPD xmm1, xmm2, xmm3/m128 (44_three_operand_xmm_ymm_a.md R289). -/
def execVxorpdX (d a : Reg) (b : RegMem) (s : State) : Out :=
  opRVM 128 128 (fun x v => x ^^^ v) d a b s

/-- VXORPD ymm1, ymm2, ymm3/m256 (44_three_operand_xmm_ymm_a.md R289). -/
def execVxorpdY (d a : Reg) (b : RegMem) (s : State) : Out :=
  opRVM 256 256 (fun x v => x ^^^ v) d a b s

/-- VPUNPCKLBW xmm1, xmm2, xmm3/m128 (47_three_operand_xmm_int_c.md R440). -/
def execVpunpcklbw (d a : Reg) (b : RegMem) (s : State) : Out :=
  opRVM 128 128 (unpack 8 false) d a b s

/-- VPUNPCKLWD xmm1, xmm2, xmm3/m128 (47_three_operand_xmm_int_c.md R441). -/
def execVpunpcklwd (d a : Reg) (b : RegMem) (s : State) : Out :=
  opRVM 128 128 (unpack 16 false) d a b s

/-- VPUNPCKLDQ xmm1, xmm2, xmm3/m128 (47_three_operand_xmm_int_c.md R442). -/
def execVpunpckldq (d a : Reg) (b : RegMem) (s : State) : Out :=
  opRVM 128 128 (unpack 32 false) d a b s

/-- VPACKSSWB xmm1, xmm2, xmm3/m128 (44_three_operand_xmm_ymm_b.md R306). -/
def execVpacksswb (d a : Reg) (b : RegMem) (s : State) : Out :=
  opRVM 128 128 (packWith 8 (satS 8)) d a b s

/-- VPACKUSWB xmm1, xmm2, xmm3/m128 (44_three_operand_xmm_ymm_b.md R308). -/
def execVpackuswb (d a : Reg) (b : RegMem) (s : State) : Out :=
  opRVM 128 128 (packWith 8 (satU 8)) d a b s

/-- VPUNPCKHBW xmm1, xmm2, xmm3/m128 (47_three_operand_xmm_int_c.md R444). -/
def execVpunpckhbw (d a : Reg) (b : RegMem) (s : State) : Out :=
  opRVM 128 128 (unpack 8 true) d a b s

/-- VPUNPCKHWD xmm1, xmm2, xmm3/m128 (47_three_operand_xmm_int_c.md R445). -/
def execVpunpckhwd (d a : Reg) (b : RegMem) (s : State) : Out :=
  opRVM 128 128 (unpack 16 true) d a b s

/-- VPUNPCKHDQ xmm1, xmm2, xmm3/m128 (47_three_operand_xmm_int_c.md R446). -/
def execVpunpckhdq (d a : Reg) (b : RegMem) (s : State) : Out :=
  opRVM 128 128 (unpack 32 true) d a b s

/-- VPACKSSDW xmm1, xmm2, xmm3/m128 (44_three_operand_xmm_ymm_b.md R305). -/
def execVpackssdw (d a : Reg) (b : RegMem) (s : State) : Out :=
  opRVM 128 128 (packWith 16 (satS 16)) d a b s

/-- VPUNPCKLQDQ xmm1, xmm2, xmm3/m128 (47_three_operand_xmm_int_c.md R443). -/
def execVpunpcklqdq (d a : Reg) (b : RegMem) (s : State) : Out :=
  opRVM 128 128 (unpack 64 false) d a b s

/-- VPUNPCKHQDQ xmm1, xmm2, xmm3/m128 (47_three_operand_xmm_int_c.md R447). -/
def execVpunpckhqdq (d a : Reg) (b : RegMem) (s : State) : Out :=
  opRVM 128 128 (unpack 64 true) d a b s

/-- VPSRLW xmm1, xmm2, imm8 (47_three_operand_xmm_int_c.md R437). -/
def execVpsrlwImm (d a : Reg) (imm : BitVec 8) (s : State) : Out :=
  opRM 128 128 (shiftVec 16 shiftRight imm.toNat) d (.reg a) s

/-- VPSRAW xmm1, xmm2, imm8 (47_three_operand_xmm_int_c.md R435). -/
def execVpsrawImm (d a : Reg) (imm : BitVec 8) (s : State) : Out :=
  opRM 128 128 (shiftVec 16 shiftArith imm.toNat) d (.reg a) s

/-- VPSLLW xmm1, xmm2, imm8 (47_three_operand_xmm_int_c.md R432). -/
def execVpsllwImm (d a : Reg) (imm : BitVec 8) (s : State) : Out :=
  opRM 128 128 (shiftVec 16 shiftLeft imm.toNat) d (.reg a) s

/-- VPSRLD xmm1, xmm2, imm8 (47_three_operand_xmm_int_c.md R438). -/
def execVpsrldImm (d a : Reg) (imm : BitVec 8) (s : State) : Out :=
  opRM 128 128 (shiftVec 32 shiftRight imm.toNat) d (.reg a) s

/-- VPSRAD xmm1, xmm2, imm8 (47_three_operand_xmm_int_c.md R436). -/
def execVpsradImm (d a : Reg) (imm : BitVec 8) (s : State) : Out :=
  opRM 128 128 (shiftVec 32 shiftArith imm.toNat) d (.reg a) s

/-- VPSLLD xmm1, xmm2, imm8 (47_three_operand_xmm_int_c.md R433). -/
def execVpslldImm (d a : Reg) (imm : BitVec 8) (s : State) : Out :=
  opRM 128 128 (shiftVec 32 shiftLeft imm.toNat) d (.reg a) s

/-- VPSRLQ xmm1, xmm2, imm8 (47_three_operand_xmm_int_c.md R439). -/
def execVpsrlqImm (d a : Reg) (imm : BitVec 8) (s : State) : Out :=
  opRM 128 128 (shiftVec 64 shiftRight imm.toNat) d (.reg a) s

/-- VPSRLDQ xmm1, xmm2, imm8 (47_three_operand_xmm_int_c.md R431). -/
def execVpsrldq (d a : Reg) (imm : BitVec 8) (s : State) : Out :=
  opRM 128 128 (byteShiftRight imm) d (.reg a) s

/-- VPSLLQ xmm1, xmm2, imm8 (47_three_operand_xmm_int_c.md R434). -/
def execVpsllqImm (d a : Reg) (imm : BitVec 8) (s : State) : Out :=
  opRM 128 128 (shiftVec 64 shiftLeft imm.toNat) d (.reg a) s

/-- VPSLLDQ xmm1, xmm2, imm8 (47_three_operand_xmm_int_c.md R430). -/
def execVpslldq (d a : Reg) (imm : BitVec 8) (s : State) : Out :=
  opRM 128 128 (byteShiftLeft imm) d (.reg a) s

/-- VPSRLW xmm1, xmm2, xmm3/m128 (47_three_operand_xmm_int_c.md R437). -/
def execVpsrlw (d a : Reg) (b : RegMem) (s : State) : Out :=
  opRVM 128 128 (fun x v => shiftVec 16 shiftRight (countOf v) x) d a b s

/-- VPSRLD xmm1, xmm2, xmm3/m128 (47_three_operand_xmm_int_c.md R438). -/
def execVpsrld (d a : Reg) (b : RegMem) (s : State) : Out :=
  opRVM 128 128 (fun x v => shiftVec 32 shiftRight (countOf v) x) d a b s

/-- VPSRLQ xmm1, xmm2, xmm3/m128 (47_three_operand_xmm_int_c.md R439). -/
def execVpsrlq (d a : Reg) (b : RegMem) (s : State) : Out :=
  opRVM 128 128 (fun x v => shiftVec 64 shiftRight (countOf v) x) d a b s

/-- VPAND xmm1, xmm2, xmm3/m128 (46_three_operand_xmm_int_a.md R365). -/
def execVpand (d a : Reg) (b : RegMem) (s : State) : Out :=
  opRVM 128 128 (fun x v => x &&& v) d a b s

/-- VPANDN xmm1, xmm2, xmm3/m128 (46_three_operand_xmm_int_a.md R368). -/
def execVpandn (d a : Reg) (b : RegMem) (s : State) : Out :=
  opRVM 128 128 andNot d a b s

/-- VPSRAW xmm1, xmm2, xmm3/m128 (47_three_operand_xmm_int_c.md R435). -/
def execVpsraw (d a : Reg) (b : RegMem) (s : State) : Out :=
  opRVM 128 128 (fun x v => shiftVec 16 shiftArith (countOf v) x) d a b s

/-- VPSRAD xmm1, xmm2, xmm3/m128 (47_three_operand_xmm_int_c.md R436). -/
def execVpsrad (d a : Reg) (b : RegMem) (s : State) : Out :=
  opRVM 128 128 (fun x v => shiftVec 32 shiftArith (countOf v) x) d a b s

/-- VPOR xmm1, xmm2, xmm3/m128 (46_three_operand_xmm_int_a.md R366). -/
def execVpor (d a : Reg) (b : RegMem) (s : State) : Out :=
  opRVM 128 128 (fun x v => x ||| v) d a b s

/-- VPXOR xmm1, xmm2, xmm3/m128 (46_three_operand_xmm_int_a.md R367). -/
def execVpxor (d a : Reg) (b : RegMem) (s : State) : Out :=
  opRVM 128 128 (fun x v => x ^^^ v) d a b s

/-- VPSLLW xmm1, xmm2, xmm3/m128 (47_three_operand_xmm_int_c.md R432). -/
def execVpsllw (d a : Reg) (b : RegMem) (s : State) : Out :=
  opRVM 128 128 (fun x v => shiftVec 16 shiftLeft (countOf v) x) d a b s

/-- VPSLLD xmm1, xmm2, xmm3/m128 (47_three_operand_xmm_int_c.md R433). -/
def execVpslld (d a : Reg) (b : RegMem) (s : State) : Out :=
  opRVM 128 128 (fun x v => shiftVec 32 shiftLeft (countOf v) x) d a b s

/-- VPSLLQ xmm1, xmm2, xmm3/m128 (47_three_operand_xmm_int_c.md R434). -/
def execVpsllq (d a : Reg) (b : RegMem) (s : State) : Out :=
  opRVM 128 128 (fun x v => shiftVec 64 shiftLeft (countOf v) x) d a b s

/-- VPACKUSDW xmm1, xmm2, xmm3/m128 (44_three_operand_xmm_ymm_b.md R307). -/
def execVpackusdw (d a : Reg) (b : RegMem) (s : State) : Out :=
  opRVM 128 128 (packWith 16 (satU 16)) d a b s

/-- VPALIGNR xmm1, xmm2, xmm3/m128, imm8 (46_three_operand_xmm_int_a.md R364). -/
def execVpalignr (d a : Reg) (b : RegMem) (imm : BitVec 8) (s : State) : Out :=
  opRVM 128 128 (alignRight imm) d a b s

end Sys2Proof.Machine
end

