-- ==== Sys2Proof/Machine/Masked.lean ====
section
/-! DEFINITION. The masked moves VMASKMOVPS and VMASKMOVPD (40_new_instructions.md R156, R157): only the bytes of selected
elements are checked and accessed. -/

namespace Sys2Proof.Machine

/-- The selected elements: those whose mask element has its top bit set (40_new_instructions.md R156 point 1). -/
def selected {n : Nat} (w : Nat) (mask : BitVec n) : List Nat :=
  (List.range (n / w)).filter fun i => (elem w i mask).getLsbD (w - 1)

/-- The address of element `i` (40_new_instructions.md R156). -/
def elemAddr (m : Mode) (a : Addr) (w i : Nat) : Addr := wrap m (a + BitVec.ofNat 64 (w / 8 * i))

/-- The byte addresses of the selected elements. -/
def selectedSpan (m : Mode) (a : Addr) (w : Nat) (sel : List Nat) : List Addr :=
  sel.flatMap fun i => spanOf m (elemAddr m a w i) (w / 8)

/-- The checks of the selected elements: canonical addresses, then the map (40_new_instructions.md R156 points 3 and 5,
log 20). -/
def checkSelected (m : Mode) (ok : Addr → Bool) (a : Addr) (w : Nat) (sel : List Nat) : Res Unit :=
  if sel.all fun i => addressOk m (elemAddr m a w i) then checkMap ok (selectedSpan m a w sel) else raise .gp0

/-- The loaded vector: zero in the elements that are not selected (40_new_instructions.md R156). -/
def maskedValue {n : Nat} (w : Nat) (s : State) (a : Addr) (mask : BitVec n) : BitVec n :=
  vec n w fun i =>
    if (elem w i mask).getLsbD (w - 1) then
      Memory.value w s.mem (spanOf s.par.mode (elemAddr s.par.mode a w i) (w / 8))
    else 0

/-- The masked load, forms (a) and (b). -/
def opMaskedLoad (n w : Nat) (d a : Reg) (m : MemOp) (s : State) : Out :=
  finish do
    needOperands s [d, a] (.mem m)
    checkSelected s.par.mode (mapped s.par) (effAddr s m) w (selected w (readVec n s a))
    .ok (advance (writeVex s d (maskedValue w s (effAddr s m) (readVec n s a))))

/-- Memory with the selected elements of a vector written. -/
def Memory.writeSelected {n : Nat} (w : Nat) (mo : Mode) (a : Addr) (x : BitVec n) : Memory → List Nat → Memory
  | m, [] => m
  | m, i :: t =>
    Memory.writeSelected w mo a x
      (Memory.writeBytes m (spanOf mo (elemAddr mo a w i) (w / 8)) (elem w i x).toNat) t

/-- The masked store, forms (c) and (d). -/
def opMaskedStore (n w : Nat) (m : MemOp) (a b : Reg) (s : State) : Out :=
  finish do
    needOperands s [a, b] (.mem m)
    checkSelected s.par.mode (writable s.par) (effAddr s m) w (selected w (readVec n s a))
    if (selectedSpan s.par.mode (effAddr s m) w (selected w (readVec n s a))).any (inProgram s.par) then
      refuse .storeIntoProgram
    else
      .ok (advance { s with
        mem := Memory.writeSelected w s.par.mode (effAddr s m) (readVec n s b) s.mem (selected w (readVec n s a)) })

/-! ### The instructions -/

/-- VMASKMOVPS xmm1, xmm2, m128 (40_new_instructions.md R156). -/
def execVmaskmovpsXLoad (d a : Reg) (b : MemOp) (s : State) : Out :=
  opMaskedLoad 128 32 d a b s

/-- VMASKMOVPS ymm1, ymm2, m256 (40_new_instructions.md R156). -/
def execVmaskmovpsYLoad (d a : Reg) (b : MemOp) (s : State) : Out :=
  opMaskedLoad 256 32 d a b s

/-- VMASKMOVPD xmm1, xmm2, m128 (40_new_instructions.md R157). -/
def execVmaskmovpdXLoad (d a : Reg) (b : MemOp) (s : State) : Out :=
  opMaskedLoad 128 64 d a b s

/-- VMASKMOVPD ymm1, ymm2, m256 (40_new_instructions.md R157). -/
def execVmaskmovpdYLoad (d a : Reg) (b : MemOp) (s : State) : Out :=
  opMaskedLoad 256 64 d a b s

/-- VMASKMOVPS m128, xmm1, xmm2 (40_new_instructions.md R156). -/
def execVmaskmovpsXStore (d : MemOp) (a b : Reg) (s : State) : Out :=
  opMaskedStore 128 32 d a b s

/-- VMASKMOVPS m256, ymm1, ymm2 (40_new_instructions.md R156). -/
def execVmaskmovpsYStore (d : MemOp) (a b : Reg) (s : State) : Out :=
  opMaskedStore 256 32 d a b s

/-- VMASKMOVPD m128, xmm1, xmm2 (40_new_instructions.md R157). -/
def execVmaskmovpdXStore (d : MemOp) (a b : Reg) (s : State) : Out :=
  opMaskedStore 128 64 d a b s

/-- VMASKMOVPD m256, ymm1, ymm2 (40_new_instructions.md R157). -/
def execVmaskmovpdYStore (d : MemOp) (a b : Reg) (s : State) : Out :=
  opMaskedStore 256 64 d a b s

end Sys2Proof.Machine
end

