-- ==== Sys2Proof/Machine/Moves.lean ====
section
/-! DEFINITION. Moves: unaligned, aligned, scalar, 64-bit halves, duplications, sign masks (files 43, 44 and 45). -/

namespace Sys2Proof.Machine

/-- Element 0 replaced, the rest of the 128 bits from the first source (44_three_operand_xmm_ymm_b.md R297 a). -/
def mergeLow (w : Nat) (a : BitVec 128) (v : BitVec w) : BitVec 128 := setElem w 0 v a

/-- The upper 64 bits replaced (45_three_operand_xmm_fp.md R331). -/
def mergeHigh (a : BitVec 128) (v : BitVec 64) : BitVec 128 := setElem 64 1 v a

/-- Every element is the element of its pair at this position (43_sse_on_ymm.md R236, R239, R240). -/
def duplicate {n : Nat} (w odd : Nat) (a : BitVec n) : BitVec n := vec n w fun i => elem w (i / 2 * 2 + odd) a

/-- The sign bits of the elements (43_sse_on_ymm.md R237, R238). -/
def signBits {n : Nat} (w : Nat) (a : BitVec n) : BitVec 32 :=
  build 32 1 (fun i => elem 1 (w * i + (w - 1)) a) (n / w)

/-! ### The instructions -/

/-- VMOVUPS xmm1, xmm2/m128 (43_sse_on_ymm.md R232). -/
def execVmovupsX (d : Reg) (b : RegMem) (s : State) : Out :=
  opRM 128 128 (fun v => v) d b s

/-- VMOVUPS ymm1, ymm2/m256 (43_sse_on_ymm.md R232). -/
def execVmovupsY (d : Reg) (b : RegMem) (s : State) : Out :=
  opRM 256 256 (fun v => v) d b s

/-- VMOVUPD xmm1, xmm2/m128 (43_sse_on_ymm.md R231). -/
def execVmovupdX (d : Reg) (b : RegMem) (s : State) : Out :=
  opRM 128 128 (fun v => v) d b s

/-- VMOVUPD ymm1, ymm2/m256 (43_sse_on_ymm.md R231). -/
def execVmovupdY (d : Reg) (b : RegMem) (s : State) : Out :=
  opRM 256 256 (fun v => v) d b s

/-- VMOVSS xmm1, xmm2, xmm3 (44_three_operand_xmm_ymm_b.md R298). -/
def execVmovssReg (d a b : Reg) (s : State) : Out :=
  opRVM 128 32 (mergeLow 32) d a (.reg b) s

/-- VMOVSS xmm1, m32 (44_three_operand_xmm_ymm_b.md R298). -/
def execVmovssLoad (d : Reg) (b : MemOp) (s : State) : Out :=
  opRM 128 32 (fun v => v.setWidth 128) d (.mem b) s

/-- VMOVSD xmm1, xmm2, xmm3 (44_three_operand_xmm_ymm_b.md R297). -/
def execVmovsdReg (d a b : Reg) (s : State) : Out :=
  opRVM 128 64 (mergeLow 64) d a (.reg b) s

/-- VMOVSD xmm1, m64 (44_three_operand_xmm_ymm_b.md R297). -/
def execVmovsdLoad (d : Reg) (b : MemOp) (s : State) : Out :=
  opRM 128 64 (fun v => v.setWidth 128) d (.mem b) s

/-- VMOVUPS xmm2/m128, xmm1 (43_sse_on_ymm.md R232). -/
def execVmovupsXStore (d : RegMem) (a : Reg) (s : State) : Out :=
  opMR 1 d a (fun t => readVec 128 t a) s

/-- VMOVUPS ymm2/m256, ymm1 (43_sse_on_ymm.md R232). -/
def execVmovupsYStore (d : RegMem) (a : Reg) (s : State) : Out :=
  opMR 1 d a (fun t => readVec 256 t a) s

/-- VMOVUPD xmm2/m128, xmm1 (43_sse_on_ymm.md R231). -/
def execVmovupdXStore (d : RegMem) (a : Reg) (s : State) : Out :=
  opMR 1 d a (fun t => readVec 128 t a) s

/-- VMOVUPD ymm2/m256, ymm1 (43_sse_on_ymm.md R231). -/
def execVmovupdYStore (d : RegMem) (a : Reg) (s : State) : Out :=
  opMR 1 d a (fun t => readVec 256 t a) s

/-- VMOVSS m32, xmm1 (44_three_operand_xmm_ymm_b.md R298). -/
def execVmovssStore (d : MemOp) (a : Reg) (s : State) : Out :=
  opStore 1 d [a] (fun t => readVec 32 t a) s

/-- VMOVSS xmm1, xmm2, xmm3 (44_three_operand_xmm_ymm_b.md R298). -/
def execVmovssReg2 (d a b : Reg) (s : State) : Out :=
  opRVM 128 32 (mergeLow 32) d a (.reg b) s

/-- VMOVSD m64, xmm1 (44_three_operand_xmm_ymm_b.md R297). -/
def execVmovsdStore (d : MemOp) (a : Reg) (s : State) : Out :=
  opStore 1 d [a] (fun t => readVec 64 t a) s

/-- VMOVSD xmm1, xmm2, xmm3 (44_three_operand_xmm_ymm_b.md R297). -/
def execVmovsdReg2 (d a b : Reg) (s : State) : Out :=
  opRVM 128 64 (mergeLow 64) d a (.reg b) s

/-- VMOVHLPS xmm1, xmm2, xmm3 (45_three_operand_xmm_fp.md R329). -/
def execVmovhlps (d a b : Reg) (s : State) : Out :=
  opRVM 128 128 (fun x v => mergeLow 64 x (elem 64 1 v)) d a (.reg b) s

/-- VMOVLPS xmm1, xmm2, m64 (45_three_operand_xmm_fp.md R334). -/
def execVmovlpsLoad (d a : Reg) (b : MemOp) (s : State) : Out :=
  opRVM 128 64 (mergeLow 64) d a (.mem b) s

/-- VMOVLPD xmm1, xmm2, m64 (45_three_operand_xmm_fp.md R333). -/
def execVmovlpdLoad (d a : Reg) (b : MemOp) (s : State) : Out :=
  opRVM 128 64 (mergeLow 64) d a (.mem b) s

/-- VMOVSLDUP xmm1, xmm2/m128 (43_sse_on_ymm.md R240). -/
def execVmovsldupX (d : Reg) (b : RegMem) (s : State) : Out :=
  opRM 128 128 (duplicate 32 0) d b s

/-- VMOVSLDUP ymm1, ymm2/m256 (43_sse_on_ymm.md R240). -/
def execVmovsldupY (d : Reg) (b : RegMem) (s : State) : Out :=
  opRM 256 256 (duplicate 32 0) d b s

/-- VMOVDDUP xmm1, xmm2/m64 (43_sse_on_ymm.md R236). -/
def execVmovddupX (d : Reg) (b : RegMem) (s : State) : Out :=
  opRM 128 64 (fun v => vec 128 64 fun _ => v) d b s

/-- VMOVDDUP ymm1, ymm2/m256 (43_sse_on_ymm.md R236). -/
def execVmovddupY (d : Reg) (b : RegMem) (s : State) : Out :=
  opRM 256 256 (duplicate 64 0) d b s

/-- VMOVLPS m64, xmm1 (45_three_operand_xmm_fp.md R334). -/
def execVmovlpsStore (d : MemOp) (a : Reg) (s : State) : Out :=
  opStore 1 d [a] (fun t => elem 64 0 (readVec 128 t a)) s

/-- VMOVLPD m64, xmm1 (45_three_operand_xmm_fp.md R333). -/
def execVmovlpdStore (d : MemOp) (a : Reg) (s : State) : Out :=
  opStore 1 d [a] (fun t => elem 64 0 (readVec 128 t a)) s

/-- VMOVLHPS xmm1, xmm2, xmm3 (45_three_operand_xmm_fp.md R330). -/
def execVmovlhps (d a b : Reg) (s : State) : Out :=
  opRVM 128 128 (fun x v => mergeHigh x (elem 64 0 v)) d a (.reg b) s

/-- VMOVHPS xmm1, xmm2, m64 (45_three_operand_xmm_fp.md R332). -/
def execVmovhpsLoad (d a : Reg) (b : MemOp) (s : State) : Out :=
  opRVM 128 64 mergeHigh d a (.mem b) s

/-- VMOVHPD xmm1, xmm2, m64 (45_three_operand_xmm_fp.md R331). -/
def execVmovhpdLoad (d a : Reg) (b : MemOp) (s : State) : Out :=
  opRVM 128 64 mergeHigh d a (.mem b) s

/-- VMOVSHDUP xmm1, xmm2/m128 (43_sse_on_ymm.md R239). -/
def execVmovshdupX (d : Reg) (b : RegMem) (s : State) : Out :=
  opRM 128 128 (duplicate 32 1) d b s

/-- VMOVSHDUP ymm1, ymm2/m256 (43_sse_on_ymm.md R239). -/
def execVmovshdupY (d : Reg) (b : RegMem) (s : State) : Out :=
  opRM 256 256 (duplicate 32 1) d b s

/-- VMOVHPS m64, xmm1 (45_three_operand_xmm_fp.md R332). -/
def execVmovhpsStore (d : MemOp) (a : Reg) (s : State) : Out :=
  opStore 1 d [a] (fun t => elem 64 1 (readVec 128 t a)) s

/-- VMOVHPD m64, xmm1 (45_three_operand_xmm_fp.md R331). -/
def execVmovhpdStore (d : MemOp) (a : Reg) (s : State) : Out :=
  opStore 1 d [a] (fun t => elem 64 1 (readVec 128 t a)) s

/-- VMOVAPS xmm1, xmm2/m128 (43_sse_on_ymm.md R234). -/
def execVmovapsX (d : Reg) (b : RegMem) (s : State) : Out :=
  opMoveAligned 128 d b s

/-- VMOVAPS ymm1, ymm2/m256 (43_sse_on_ymm.md R234). -/
def execVmovapsY (d : Reg) (b : RegMem) (s : State) : Out :=
  opMoveAligned 256 d b s

/-- VMOVAPD xmm1, xmm2/m128 (43_sse_on_ymm.md R233). -/
def execVmovapdX (d : Reg) (b : RegMem) (s : State) : Out :=
  opMoveAligned 128 d b s

/-- VMOVAPD ymm1, ymm2/m256 (43_sse_on_ymm.md R233). -/
def execVmovapdY (d : Reg) (b : RegMem) (s : State) : Out :=
  opMoveAligned 256 d b s

/-- VMOVAPS xmm2/m128, xmm1 (43_sse_on_ymm.md R234). -/
def execVmovapsXStore (d : RegMem) (a : Reg) (s : State) : Out :=
  opMR 16 d a (fun t => readVec 128 t a) s

/-- VMOVAPS ymm2/m256, ymm1 (43_sse_on_ymm.md R234). -/
def execVmovapsYStore (d : RegMem) (a : Reg) (s : State) : Out :=
  opMR 32 d a (fun t => readVec 256 t a) s

/-- VMOVAPD xmm2/m128, xmm1 (43_sse_on_ymm.md R233). -/
def execVmovapdXStore (d : RegMem) (a : Reg) (s : State) : Out :=
  opMR 16 d a (fun t => readVec 128 t a) s

/-- VMOVAPD ymm2/m256, ymm1 (43_sse_on_ymm.md R233). -/
def execVmovapdYStore (d : RegMem) (a : Reg) (s : State) : Out :=
  opMR 32 d a (fun t => readVec 256 t a) s

/-- VMOVMSKPS reg, xmm2 (43_sse_on_ymm.md R238). -/
def execVmovmskpsX (d b : Reg) (s : State) : Out :=
  opToGpr32 128 (fun _ v => (signBits 32 v, 0)) d (.reg b) s

/-- VMOVMSKPS reg, ymm2 (43_sse_on_ymm.md R238). -/
def execVmovmskpsY (d b : Reg) (s : State) : Out :=
  opToGpr32 256 (fun _ v => (signBits 32 v, 0)) d (.reg b) s

/-- VMOVMSKPD reg, xmm2 (43_sse_on_ymm.md R237). -/
def execVmovmskpdX (d b : Reg) (s : State) : Out :=
  opToGpr32 128 (fun _ v => (signBits 64 v, 0)) d (.reg b) s

/-- VMOVMSKPD reg, ymm2 (43_sse_on_ymm.md R237). -/
def execVmovmskpdY (d b : Reg) (s : State) : Out :=
  opToGpr32 256 (fun _ v => (signBits 64 v, 0)) d (.reg b) s

/-- VMOVDQA xmm1, xmm2/m128 (43_sse_on_ymm.md R235). -/
def execVmovdqaX (d : Reg) (b : RegMem) (s : State) : Out :=
  opMoveAligned 128 d b s

/-- VMOVDQA ymm1, ymm2/m256 (43_sse_on_ymm.md R235). -/
def execVmovdqaY (d : Reg) (b : RegMem) (s : State) : Out :=
  opMoveAligned 256 d b s

/-- VMOVDQU xmm1, xmm2/m128 (43_sse_on_ymm.md R230). -/
def execVmovdquX (d : Reg) (b : RegMem) (s : State) : Out :=
  opRM 128 128 (fun v => v) d b s

/-- VMOVDQU ymm1, ymm2/m256 (43_sse_on_ymm.md R230). -/
def execVmovdquY (d : Reg) (b : RegMem) (s : State) : Out :=
  opRM 256 256 (fun v => v) d b s

/-- VMOVDQA xmm2/m128, xmm1 (43_sse_on_ymm.md R235). -/
def execVmovdqaXStore (d : RegMem) (a : Reg) (s : State) : Out :=
  opMR 16 d a (fun t => readVec 128 t a) s

/-- VMOVDQA ymm2/m256, ymm1 (43_sse_on_ymm.md R235). -/
def execVmovdqaYStore (d : RegMem) (a : Reg) (s : State) : Out :=
  opMR 32 d a (fun t => readVec 256 t a) s

/-- VMOVDQU xmm2/m128, xmm1 (43_sse_on_ymm.md R230). -/
def execVmovdquXStore (d : RegMem) (a : Reg) (s : State) : Out :=
  opMR 1 d a (fun t => readVec 128 t a) s

/-- VMOVDQU ymm2/m256, ymm1 (43_sse_on_ymm.md R230). -/
def execVmovdquYStore (d : RegMem) (a : Reg) (s : State) : Out :=
  opMR 1 d a (fun t => readVec 256 t a) s

/-- VLDDQU xmm1, m128 (43_sse_on_ymm.md R229). -/
def execVlddquX (d : Reg) (b : MemOp) (s : State) : Out :=
  opRM 128 128 (fun v => v) d (.mem b) s

/-- VLDDQU ymm1, m256 (43_sse_on_ymm.md R229). -/
def execVlddquY (d : Reg) (b : MemOp) (s : State) : Out :=
  opRM 256 256 (fun v => v) d (.mem b) s

end Sys2Proof.Machine
end

