-- ==== Sys2Proof/Machine/System.lean ====
section
/-! DEFINITION. Register-state and control instructions and the tests: VZEROALL, VZEROUPPER, VLDMXCSR, VSTMXCSR, VTESTPS,
VTESTPD, VPTEST (files 40 and 43). -/

namespace Sys2Proof.Machine

/-- The sixteen registers. -/
def allRegs : List Reg := [0, 1, 2, 3, 4, 5, 6, 7, 8, 9, 10, 11, 12, 13, 14, 15]

/-- Every register of a list updated. -/
def updateYmm (f : BitVec 256 → BitVec 256) (s : State) : List Reg → State
  | [] => s
  | r :: t => updateYmm f (setYmm s r (f (readYmm s r))) t

/-- The registers that the mode can name, updated (00_scope.md R9). -/
def updateReachable (f : BitVec 256 → BitVec 256) (s : State) : State :=
  updateYmm f s (allRegs.filter s.par.mode.names)

/-- The value VLDMXCSR loads: `GP(0)` when a reserved bit is set (40_new_instructions.md R168, 10_state.md R49 d). -/
def loadMxcsr (s : State) (v : BitVec 32) : Res State :=
  if v.extractLsb' 16 16 = 0 then .ok { s with mxcsr := v } else raise .gp0

/-- Some element has its sign bit set (40_new_instructions.md R164). -/
def anySign {n : Nat} (w : Nat) (x : BitVec n) : Bool :=
  (List.range (n / w)).any fun i => (elem w i x).getLsbD (w - 1)

/-- The flags of VTESTPS and VTESTPD (40_new_instructions.md R164, R165). -/
def signTestFlags {n : Nat} (w : Nat) (x y : BitVec n) : StatusFlags :=
  testFlags (!anySign w (x &&& y)) (!anySign w (~~~x &&& y))

/-! ### The instructions -/

/-- VZEROUPPER (40_new_instructions.md R167). -/
def execVzeroupper (s : State) : Out :=
  .next (advance (updateReachable (fun x => (x.setWidth 128).setWidth 256) s))

/-- VZEROALL (40_new_instructions.md R166). -/
def execVzeroall (s : State) : Out :=
  .next (advance (updateReachable (fun _ => 0) s))

/-- VLDMXCSR m32 (40_new_instructions.md R168). -/
def execVldmxcsr (m : MemOp) (s : State) : Out :=
  finish do
    needOperands s [] (.mem m)
    let v ← load s (effAddr s m) 32 1
    let t ← loadMxcsr s v
    .ok (advance t)

/-- VSTMXCSR m32 (40_new_instructions.md R169). -/
def execVstmxcsr (m : MemOp) (s : State) : Out :=
  opStore 1 m [] readMxcsr s

/-- VTESTPS xmm1, xmm2/m128 (40_new_instructions.md R164). -/
def execVtestpsX (a : Reg) (b : RegMem) (s : State) : Out :=
  opTest 128 (signTestFlags 32) a b s

/-- VTESTPS ymm1, ymm2/m256 (40_new_instructions.md R164). -/
def execVtestpsY (a : Reg) (b : RegMem) (s : State) : Out :=
  opTest 256 (signTestFlags 32) a b s

/-- VTESTPD xmm1, xmm2/m128 (40_new_instructions.md R165). -/
def execVtestpdX (a : Reg) (b : RegMem) (s : State) : Out :=
  opTest 128 (signTestFlags 64) a b s

/-- VTESTPD ymm1, ymm2/m256 (40_new_instructions.md R165). -/
def execVtestpdY (a : Reg) (b : RegMem) (s : State) : Out :=
  opTest 256 (signTestFlags 64) a b s

/-- VPTEST xmm1, xmm2/m128 (43_sse_on_ymm.md R241). -/
def execVptestX (a : Reg) (b : RegMem) (s : State) : Out :=
  opTest 128 ptestFlags a b s

/-- VPTEST ymm1, ymm2/m256 (43_sse_on_ymm.md R241). -/
def execVptestY (a : Reg) (b : RegMem) (s : State) : Out :=
  opTest 256 ptestFlags a b s

end Sys2Proof.Machine
end

