-- ==== Sys2Proof/Machine/Dispatch.lean ====
section
/-! DEFINITION. The dispatch: one arm per instruction, each one call of its meaning. -/

namespace Sys2Proof.Machine

def exec (i : Instr) (s : State) : Host.Outcome State Fault Refusal :=
  match i with
  | .vmovupsX d b => Sys2Proof.Machine.execVmovupsX d b s
  | .vmovupsY d b => Sys2Proof.Machine.execVmovupsY d b s
  | .vmovupdX d b => Sys2Proof.Machine.execVmovupdX d b s
  | .vmovupdY d b => Sys2Proof.Machine.execVmovupdY d b s
  | .vmovssReg d a b => Sys2Proof.Machine.execVmovssReg d a b s
  | .vmovssLoad d b => Sys2Proof.Machine.execVmovssLoad d b s
  | .vmovsdReg d a b => Sys2Proof.Machine.execVmovsdReg d a b s
  | .vmovsdLoad d b => Sys2Proof.Machine.execVmovsdLoad d b s
  | .vmovupsXStore d a => Sys2Proof.Machine.execVmovupsXStore d a s
  | .vmovupsYStore d a => Sys2Proof.Machine.execVmovupsYStore d a s
  | .vmovupdXStore d a => Sys2Proof.Machine.execVmovupdXStore d a s
  | .vmovupdYStore d a => Sys2Proof.Machine.execVmovupdYStore d a s
  | .vmovssStore d a => Sys2Proof.Machine.execVmovssStore d a s
  | .vmovssReg2 d a b => Sys2Proof.Machine.execVmovssReg2 d a b s
  | .vmovsdStore d a => Sys2Proof.Machine.execVmovsdStore d a s
  | .vmovsdReg2 d a b => Sys2Proof.Machine.execVmovsdReg2 d a b s
  | .vmovhlps d a b => Sys2Proof.Machine.execVmovhlps d a b s
  | .vmovlpsLoad d a b => Sys2Proof.Machine.execVmovlpsLoad d a b s
  | .vmovlpdLoad d a b => Sys2Proof.Machine.execVmovlpdLoad d a b s
  | .vmovsldupX d b => Sys2Proof.Machine.execVmovsldupX d b s
  | .vmovsldupY d b => Sys2Proof.Machine.execVmovsldupY d b s
  | .vmovddupX d b => Sys2Proof.Machine.execVmovddupX d b s
  | .vmovddupY d b => Sys2Proof.Machine.execVmovddupY d b s
  | .vmovlpsStore d a => Sys2Proof.Machine.execVmovlpsStore d a s
  | .vmovlpdStore d a => Sys2Proof.Machine.execVmovlpdStore d a s
  | .vunpcklpsX d a b => Sys2Proof.Machine.execVunpcklpsX d a b s
  | .vunpcklpsY d a b => Sys2Proof.Machine.execVunpcklpsY d a b s
  | .vunpcklpdX d a b => Sys2Proof.Machine.execVunpcklpdX d a b s
  | .vunpcklpdY d a b => Sys2Proof.Machine.execVunpcklpdY d a b s
  | .vunpckhpsX d a b => Sys2Proof.Machine.execVunpckhpsX d a b s
  | .vunpckhpsY d a b => Sys2Proof.Machine.execVunpckhpsY d a b s
  | .vunpckhpdX d a b => Sys2Proof.Machine.execVunpckhpdX d a b s
  | .vunpckhpdY d a b => Sys2Proof.Machine.execVunpckhpdY d a b s
  | .vmovlhps d a b => Sys2Proof.Machine.execVmovlhps d a b s
  | .vmovhpsLoad d a b => Sys2Proof.Machine.execVmovhpsLoad d a b s
  | .vmovhpdLoad d a b => Sys2Proof.Machine.execVmovhpdLoad d a b s
  | .vmovshdupX d b => Sys2Proof.Machine.execVmovshdupX d b s
  | .vmovshdupY d b => Sys2Proof.Machine.execVmovshdupY d b s
  | .vmovhpsStore d a => Sys2Proof.Machine.execVmovhpsStore d a s
  | .vmovhpdStore d a => Sys2Proof.Machine.execVmovhpdStore d a s
  | .vmovapsX d b => Sys2Proof.Machine.execVmovapsX d b s
  | .vmovapsY d b => Sys2Proof.Machine.execVmovapsY d b s
  | .vmovapdX d b => Sys2Proof.Machine.execVmovapdX d b s
  | .vmovapdY d b => Sys2Proof.Machine.execVmovapdY d b s
  | .vmovapsXStore d a => Sys2Proof.Machine.execVmovapsXStore d a s
  | .vmovapsYStore d a => Sys2Proof.Machine.execVmovapsYStore d a s
  | .vmovapdXStore d a => Sys2Proof.Machine.execVmovapdXStore d a s
  | .vmovapdYStore d a => Sys2Proof.Machine.execVmovapdYStore d a s
  | .vcvtsi2ssR32 d a b => Sys2Proof.Machine.execVcvtsi2ssR32 d a b s
  | .vcvtsi2ssR64 d a b => Sys2Proof.Machine.execVcvtsi2ssR64 d a b s
  | .vcvtsi2sdR32 d a b => Sys2Proof.Machine.execVcvtsi2sdR32 d a b s
  | .vcvtsi2sdR64 d a b => Sys2Proof.Machine.execVcvtsi2sdR64 d a b s
  | .vcvttss2siR32 d b => Sys2Proof.Machine.execVcvttss2siR32 d b s
  | .vcvttss2siR64 d b => Sys2Proof.Machine.execVcvttss2siR64 d b s
  | .vcvttsd2siR32 d b => Sys2Proof.Machine.execVcvttsd2siR32 d b s
  | .vcvttsd2siR64 d b => Sys2Proof.Machine.execVcvttsd2siR64 d b s
  | .vcvtss2siR32 d b => Sys2Proof.Machine.execVcvtss2siR32 d b s
  | .vcvtss2siR64 d b => Sys2Proof.Machine.execVcvtss2siR64 d b s
  | .vcvtsd2siR32 d b => Sys2Proof.Machine.execVcvtsd2siR32 d b s
  | .vcvtsd2siR64 d b => Sys2Proof.Machine.execVcvtsd2siR64 d b s
  | .vmovmskpsX d b => Sys2Proof.Machine.execVmovmskpsX d b s
  | .vmovmskpsY d b => Sys2Proof.Machine.execVmovmskpsY d b s
  | .vmovmskpdX d b => Sys2Proof.Machine.execVmovmskpdX d b s
  | .vmovmskpdY d b => Sys2Proof.Machine.execVmovmskpdY d b s
  | .vsqrtpsX d b => Sys2Proof.Machine.execVsqrtpsX d b s
  | .vsqrtpsY d b => Sys2Proof.Machine.execVsqrtpsY d b s
  | .vsqrtpdX d b => Sys2Proof.Machine.execVsqrtpdX d b s
  | .vsqrtpdY d b => Sys2Proof.Machine.execVsqrtpdY d b s
  | .vsqrtss d a b => Sys2Proof.Machine.execVsqrtss d a b s
  | .vsqrtsd d a b => Sys2Proof.Machine.execVsqrtsd d a b s
  | .vrsqrtpsX d b => Sys2Proof.Machine.execVrsqrtpsX d b s
  | .vrsqrtpsY d b => Sys2Proof.Machine.execVrsqrtpsY d b s
  | .vrsqrtss d a b => Sys2Proof.Machine.execVrsqrtss d a b s
  | .vrcppsX d b => Sys2Proof.Machine.execVrcppsX d b s
  | .vrcppsY d b => Sys2Proof.Machine.execVrcppsY d b s
  | .vrcpss d a b => Sys2Proof.Machine.execVrcpss d a b s
  | .vandpsX d a b => Sys2Proof.Machine.execVandpsX d a b s
  | .vandpsY d a b => Sys2Proof.Machine.execVandpsY d a b s
  | .vandpdX d a b => Sys2Proof.Machine.execVandpdX d a b s
  | .vandpdY d a b => Sys2Proof.Machine.execVandpdY d a b s
  | .vandnpsX d a b => Sys2Proof.Machine.execVandnpsX d a b s
  | .vandnpsY d a b => Sys2Proof.Machine.execVandnpsY d a b s
  | .vandnpdX d a b => Sys2Proof.Machine.execVandnpdX d a b s
  | .vandnpdY d a b => Sys2Proof.Machine.execVandnpdY d a b s
  | .vorpsX d a b => Sys2Proof.Machine.execVorpsX d a b s
  | .vorpsY d a b => Sys2Proof.Machine.execVorpsY d a b s
  | .vorpdX d a b => Sys2Proof.Machine.execVorpdX d a b s
  | .vorpdY d a b => Sys2Proof.Machine.execVorpdY d a b s
  | .vxorpsX d a b => Sys2Proof.Machine.execVxorpsX d a b s
  | .vxorpsY d a b => Sys2Proof.Machine.execVxorpsY d a b s
  | .vxorpdX d a b => Sys2Proof.Machine.execVxorpdX d a b s
  | .vxorpdY d a b => Sys2Proof.Machine.execVxorpdY d a b s
  | .vaddpsX d a b => Sys2Proof.Machine.execVaddpsX d a b s
  | .vaddpsY d a b => Sys2Proof.Machine.execVaddpsY d a b s
  | .vaddpdX d a b => Sys2Proof.Machine.execVaddpdX d a b s
  | .vaddpdY d a b => Sys2Proof.Machine.execVaddpdY d a b s
  | .vaddss d a b => Sys2Proof.Machine.execVaddss d a b s
  | .vaddsd d a b => Sys2Proof.Machine.execVaddsd d a b s
  | .vmulpsX d a b => Sys2Proof.Machine.execVmulpsX d a b s
  | .vmulpsY d a b => Sys2Proof.Machine.execVmulpsY d a b s
  | .vmulpdX d a b => Sys2Proof.Machine.execVmulpdX d a b s
  | .vmulpdY d a b => Sys2Proof.Machine.execVmulpdY d a b s
  | .vmulss d a b => Sys2Proof.Machine.execVmulss d a b s
  | .vmulsd d a b => Sys2Proof.Machine.execVmulsd d a b s
  | .vcvtps2pdX d b => Sys2Proof.Machine.execVcvtps2pdX d b s
  | .vcvtps2pdY d b => Sys2Proof.Machine.execVcvtps2pdY d b s
  | .vcvtpd2psX d b => Sys2Proof.Machine.execVcvtpd2psX d b s
  | .vcvtpd2psY d b => Sys2Proof.Machine.execVcvtpd2psY d b s
  | .vcvtss2sd d a b => Sys2Proof.Machine.execVcvtss2sd d a b s
  | .vcvtsd2ss d a b => Sys2Proof.Machine.execVcvtsd2ss d a b s
  | .vcvtdq2psX d b => Sys2Proof.Machine.execVcvtdq2psX d b s
  | .vcvtdq2psY d b => Sys2Proof.Machine.execVcvtdq2psY d b s
  | .vcvtps2dqX d b => Sys2Proof.Machine.execVcvtps2dqX d b s
  | .vcvtps2dqY d b => Sys2Proof.Machine.execVcvtps2dqY d b s
  | .vcvttps2dqX d b => Sys2Proof.Machine.execVcvttps2dqX d b s
  | .vcvttps2dqY d b => Sys2Proof.Machine.execVcvttps2dqY d b s
  | .vsubpsX d a b => Sys2Proof.Machine.execVsubpsX d a b s
  | .vsubpsY d a b => Sys2Proof.Machine.execVsubpsY d a b s
  | .vsubpdX d a b => Sys2Proof.Machine.execVsubpdX d a b s
  | .vsubpdY d a b => Sys2Proof.Machine.execVsubpdY d a b s
  | .vsubss d a b => Sys2Proof.Machine.execVsubss d a b s
  | .vsubsd d a b => Sys2Proof.Machine.execVsubsd d a b s
  | .vminpsX d a b => Sys2Proof.Machine.execVminpsX d a b s
  | .vminpsY d a b => Sys2Proof.Machine.execVminpsY d a b s
  | .vminpdX d a b => Sys2Proof.Machine.execVminpdX d a b s
  | .vminpdY d a b => Sys2Proof.Machine.execVminpdY d a b s
  | .vminss d a b => Sys2Proof.Machine.execVminss d a b s
  | .vminsd d a b => Sys2Proof.Machine.execVminsd d a b s
  | .vdivpsX d a b => Sys2Proof.Machine.execVdivpsX d a b s
  | .vdivpsY d a b => Sys2Proof.Machine.execVdivpsY d a b s
  | .vdivpdX d a b => Sys2Proof.Machine.execVdivpdX d a b s
  | .vdivpdY d a b => Sys2Proof.Machine.execVdivpdY d a b s
  | .vdivss d a b => Sys2Proof.Machine.execVdivss d a b s
  | .vdivsd d a b => Sys2Proof.Machine.execVdivsd d a b s
  | .vmaxpsX d a b => Sys2Proof.Machine.execVmaxpsX d a b s
  | .vmaxpsY d a b => Sys2Proof.Machine.execVmaxpsY d a b s
  | .vmaxpdX d a b => Sys2Proof.Machine.execVmaxpdX d a b s
  | .vmaxpdY d a b => Sys2Proof.Machine.execVmaxpdY d a b s
  | .vmaxss d a b => Sys2Proof.Machine.execVmaxss d a b s
  | .vmaxsd d a b => Sys2Proof.Machine.execVmaxsd d a b s
  | .vpunpcklbw d a b => Sys2Proof.Machine.execVpunpcklbw d a b s
  | .vpunpcklwd d a b => Sys2Proof.Machine.execVpunpcklwd d a b s
  | .vpunpckldq d a b => Sys2Proof.Machine.execVpunpckldq d a b s
  | .vpacksswb d a b => Sys2Proof.Machine.execVpacksswb d a b s
  | .vpcmpgtb d a b => Sys2Proof.Machine.execVpcmpgtb d a b s
  | .vpcmpgtw d a b => Sys2Proof.Machine.execVpcmpgtw d a b s
  | .vpcmpgtd d a b => Sys2Proof.Machine.execVpcmpgtd d a b s
  | .vpackuswb d a b => Sys2Proof.Machine.execVpackuswb d a b s
  | .vpunpckhbw d a b => Sys2Proof.Machine.execVpunpckhbw d a b s
  | .vpunpckhwd d a b => Sys2Proof.Machine.execVpunpckhwd d a b s
  | .vpunpckhdq d a b => Sys2Proof.Machine.execVpunpckhdq d a b s
  | .vpackssdw d a b => Sys2Proof.Machine.execVpackssdw d a b s
  | .vpunpcklqdq d a b => Sys2Proof.Machine.execVpunpcklqdq d a b s
  | .vpunpckhqdq d a b => Sys2Proof.Machine.execVpunpckhqdq d a b s
  | .vmovdqaX d b => Sys2Proof.Machine.execVmovdqaX d b s
  | .vmovdqaY d b => Sys2Proof.Machine.execVmovdqaY d b s
  | .vmovdquX d b => Sys2Proof.Machine.execVmovdquX d b s
  | .vmovdquY d b => Sys2Proof.Machine.execVmovdquY d b s
  | .vpshufd d b imm => Sys2Proof.Machine.execVpshufd d b imm s
  | .vpshufhw d b imm => Sys2Proof.Machine.execVpshufhw d b imm s
  | .vpshuflw d b imm => Sys2Proof.Machine.execVpshuflw d b imm s
  | .vpsrlwImm d a imm => Sys2Proof.Machine.execVpsrlwImm d a imm s
  | .vpsrawImm d a imm => Sys2Proof.Machine.execVpsrawImm d a imm s
  | .vpsllwImm d a imm => Sys2Proof.Machine.execVpsllwImm d a imm s
  | .vpsrldImm d a imm => Sys2Proof.Machine.execVpsrldImm d a imm s
  | .vpsradImm d a imm => Sys2Proof.Machine.execVpsradImm d a imm s
  | .vpslldImm d a imm => Sys2Proof.Machine.execVpslldImm d a imm s
  | .vpsrlqImm d a imm => Sys2Proof.Machine.execVpsrlqImm d a imm s
  | .vpsrldq d a imm => Sys2Proof.Machine.execVpsrldq d a imm s
  | .vpsllqImm d a imm => Sys2Proof.Machine.execVpsllqImm d a imm s
  | .vpslldq d a imm => Sys2Proof.Machine.execVpslldq d a imm s
  | .vpcmpeqb d a b => Sys2Proof.Machine.execVpcmpeqb d a b s
  | .vpcmpeqw d a b => Sys2Proof.Machine.execVpcmpeqw d a b s
  | .vpcmpeqd d a b => Sys2Proof.Machine.execVpcmpeqd d a b s
  | .vzeroupper => Sys2Proof.Machine.execVzeroupper s
  | .vzeroall => Sys2Proof.Machine.execVzeroall s
  | .vhaddpdX d a b => Sys2Proof.Machine.execVhaddpdX d a b s
  | .vhaddpdY d a b => Sys2Proof.Machine.execVhaddpdY d a b s
  | .vhaddpsX d a b => Sys2Proof.Machine.execVhaddpsX d a b s
  | .vhaddpsY d a b => Sys2Proof.Machine.execVhaddpsY d a b s
  | .vhsubpdX d a b => Sys2Proof.Machine.execVhsubpdX d a b s
  | .vhsubpdY d a b => Sys2Proof.Machine.execVhsubpdY d a b s
  | .vhsubpsX d a b => Sys2Proof.Machine.execVhsubpsX d a b s
  | .vhsubpsY d a b => Sys2Proof.Machine.execVhsubpsY d a b s
  | .vmovdqaXStore d a => Sys2Proof.Machine.execVmovdqaXStore d a s
  | .vmovdqaYStore d a => Sys2Proof.Machine.execVmovdqaYStore d a s
  | .vmovdquXStore d a => Sys2Proof.Machine.execVmovdquXStore d a s
  | .vmovdquYStore d a => Sys2Proof.Machine.execVmovdquYStore d a s
  | .vldmxcsr m => Sys2Proof.Machine.execVldmxcsr m s
  | .vstmxcsr m => Sys2Proof.Machine.execVstmxcsr m s
  | .vcmppsX d a b imm => Sys2Proof.Machine.execVcmppsX d a b imm s
  | .vcmppsY d a b imm => Sys2Proof.Machine.execVcmppsY d a b imm s
  | .vcmppdX d a b imm => Sys2Proof.Machine.execVcmppdX d a b imm s
  | .vcmppdY d a b imm => Sys2Proof.Machine.execVcmppdY d a b imm s
  | .vcmpss d a b imm => Sys2Proof.Machine.execVcmpss d a b imm s
  | .vcmpsd d a b imm => Sys2Proof.Machine.execVcmpsd d a b imm s
  | .vpinsrw d a b imm => Sys2Proof.Machine.execVpinsrw d a b imm s
  | .vshufpsX d a b imm => Sys2Proof.Machine.execVshufpsX d a b imm s
  | .vshufpsY d a b imm => Sys2Proof.Machine.execVshufpsY d a b imm s
  | .vshufpdX d a b imm => Sys2Proof.Machine.execVshufpdX d a b imm s
  | .vshufpdY d a b imm => Sys2Proof.Machine.execVshufpdY d a b imm s
  | .vaddsubpdX d a b => Sys2Proof.Machine.execVaddsubpdX d a b s
  | .vaddsubpdY d a b => Sys2Proof.Machine.execVaddsubpdY d a b s
  | .vaddsubpsX d a b => Sys2Proof.Machine.execVaddsubpsX d a b s
  | .vaddsubpsY d a b => Sys2Proof.Machine.execVaddsubpsY d a b s
  | .vpsrlw d a b => Sys2Proof.Machine.execVpsrlw d a b s
  | .vpsrld d a b => Sys2Proof.Machine.execVpsrld d a b s
  | .vpsrlq d a b => Sys2Proof.Machine.execVpsrlq d a b s
  | .vpaddq d a b => Sys2Proof.Machine.execVpaddq d a b s
  | .vpmullw d a b => Sys2Proof.Machine.execVpmullw d a b s
  | .vpsubusb d a b => Sys2Proof.Machine.execVpsubusb d a b s
  | .vpsubusw d a b => Sys2Proof.Machine.execVpsubusw d a b s
  | .vpminub d a b => Sys2Proof.Machine.execVpminub d a b s
  | .vpand d a b => Sys2Proof.Machine.execVpand d a b s
  | .vpaddusb d a b => Sys2Proof.Machine.execVpaddusb d a b s
  | .vpaddusw d a b => Sys2Proof.Machine.execVpaddusw d a b s
  | .vpmaxub d a b => Sys2Proof.Machine.execVpmaxub d a b s
  | .vpandn d a b => Sys2Proof.Machine.execVpandn d a b s
  | .vpavgb d a b => Sys2Proof.Machine.execVpavgb d a b s
  | .vpsraw d a b => Sys2Proof.Machine.execVpsraw d a b s
  | .vpsrad d a b => Sys2Proof.Machine.execVpsrad d a b s
  | .vpavgw d a b => Sys2Proof.Machine.execVpavgw d a b s
  | .vpmulhuw d a b => Sys2Proof.Machine.execVpmulhuw d a b s
  | .vpmulhw d a b => Sys2Proof.Machine.execVpmulhw d a b s
  | .vcvttpd2dqX d b => Sys2Proof.Machine.execVcvttpd2dqX d b s
  | .vcvttpd2dqY d b => Sys2Proof.Machine.execVcvttpd2dqY d b s
  | .vcvtdq2pdX d b => Sys2Proof.Machine.execVcvtdq2pdX d b s
  | .vcvtdq2pdY d b => Sys2Proof.Machine.execVcvtdq2pdY d b s
  | .vcvtpd2dqX d b => Sys2Proof.Machine.execVcvtpd2dqX d b s
  | .vcvtpd2dqY d b => Sys2Proof.Machine.execVcvtpd2dqY d b s
  | .vpsubsb d a b => Sys2Proof.Machine.execVpsubsb d a b s
  | .vpsubsw d a b => Sys2Proof.Machine.execVpsubsw d a b s
  | .vpminsw d a b => Sys2Proof.Machine.execVpminsw d a b s
  | .vpor d a b => Sys2Proof.Machine.execVpor d a b s
  | .vpaddsb d a b => Sys2Proof.Machine.execVpaddsb d a b s
  | .vpaddsw d a b => Sys2Proof.Machine.execVpaddsw d a b s
  | .vpmaxsw d a b => Sys2Proof.Machine.execVpmaxsw d a b s
  | .vpxor d a b => Sys2Proof.Machine.execVpxor d a b s
  | .vlddquX d b => Sys2Proof.Machine.execVlddquX d b s
  | .vlddquY d b => Sys2Proof.Machine.execVlddquY d b s
  | .vpsllw d a b => Sys2Proof.Machine.execVpsllw d a b s
  | .vpslld d a b => Sys2Proof.Machine.execVpslld d a b s
  | .vpsllq d a b => Sys2Proof.Machine.execVpsllq d a b s
  | .vpmuludq d a b => Sys2Proof.Machine.execVpmuludq d a b s
  | .vpmaddwd d a b => Sys2Proof.Machine.execVpmaddwd d a b s
  | .vpsadbw d a b => Sys2Proof.Machine.execVpsadbw d a b s
  | .vpsubb d a b => Sys2Proof.Machine.execVpsubb d a b s
  | .vpsubw d a b => Sys2Proof.Machine.execVpsubw d a b s
  | .vpsubd d a b => Sys2Proof.Machine.execVpsubd d a b s
  | .vpsubq d a b => Sys2Proof.Machine.execVpsubq d a b s
  | .vpaddb d a b => Sys2Proof.Machine.execVpaddb d a b s
  | .vpaddw d a b => Sys2Proof.Machine.execVpaddw d a b s
  | .vpaddd d a b => Sys2Proof.Machine.execVpaddd d a b s
  | .vpshufb d a b => Sys2Proof.Machine.execVpshufb d a b s
  | .vphaddw d a b => Sys2Proof.Machine.execVphaddw d a b s
  | .vphaddd d a b => Sys2Proof.Machine.execVphaddd d a b s
  | .vphaddsw d a b => Sys2Proof.Machine.execVphaddsw d a b s
  | .vpmaddubsw d a b => Sys2Proof.Machine.execVpmaddubsw d a b s
  | .vphsubw d a b => Sys2Proof.Machine.execVphsubw d a b s
  | .vphsubd d a b => Sys2Proof.Machine.execVphsubd d a b s
  | .vphsubsw d a b => Sys2Proof.Machine.execVphsubsw d a b s
  | .vpsignb d a b => Sys2Proof.Machine.execVpsignb d a b s
  | .vpsignw d a b => Sys2Proof.Machine.execVpsignw d a b s
  | .vpsignd d a b => Sys2Proof.Machine.execVpsignd d a b s
  | .vpmulhrsw d a b => Sys2Proof.Machine.execVpmulhrsw d a b s
  | .vpermilpsX d a b => Sys2Proof.Machine.execVpermilpsX d a b s
  | .vpermilpsY d a b => Sys2Proof.Machine.execVpermilpsY d a b s
  | .vpermilpdX d a b => Sys2Proof.Machine.execVpermilpdX d a b s
  | .vpermilpdY d a b => Sys2Proof.Machine.execVpermilpdY d a b s
  | .vtestpsX a b => Sys2Proof.Machine.execVtestpsX a b s
  | .vtestpsY a b => Sys2Proof.Machine.execVtestpsY a b s
  | .vtestpdX a b => Sys2Proof.Machine.execVtestpdX a b s
  | .vtestpdY a b => Sys2Proof.Machine.execVtestpdY a b s
  | .vptestX a b => Sys2Proof.Machine.execVptestX a b s
  | .vptestY a b => Sys2Proof.Machine.execVptestY a b s
  | .vbroadcastssX d b => Sys2Proof.Machine.execVbroadcastssX d b s
  | .vbroadcastssY d b => Sys2Proof.Machine.execVbroadcastssY d b s
  | .vbroadcastsd d b => Sys2Proof.Machine.execVbroadcastsd d b s
  | .vbroadcastf128 d b => Sys2Proof.Machine.execVbroadcastf128 d b s
  | .vpmuldq d a b => Sys2Proof.Machine.execVpmuldq d a b s
  | .vpcmpeqq d a b => Sys2Proof.Machine.execVpcmpeqq d a b s
  | .vpackusdw d a b => Sys2Proof.Machine.execVpackusdw d a b s
  | .vmaskmovpsXLoad d a b => Sys2Proof.Machine.execVmaskmovpsXLoad d a b s
  | .vmaskmovpsYLoad d a b => Sys2Proof.Machine.execVmaskmovpsYLoad d a b s
  | .vmaskmovpdXLoad d a b => Sys2Proof.Machine.execVmaskmovpdXLoad d a b s
  | .vmaskmovpdYLoad d a b => Sys2Proof.Machine.execVmaskmovpdYLoad d a b s
  | .vmaskmovpsXStore d a b => Sys2Proof.Machine.execVmaskmovpsXStore d a b s
  | .vmaskmovpsYStore d a b => Sys2Proof.Machine.execVmaskmovpsYStore d a b s
  | .vmaskmovpdXStore d a b => Sys2Proof.Machine.execVmaskmovpdXStore d a b s
  | .vmaskmovpdYStore d a b => Sys2Proof.Machine.execVmaskmovpdYStore d a b s
  | .vpcmpgtq d a b => Sys2Proof.Machine.execVpcmpgtq d a b s
  | .vpminsb d a b => Sys2Proof.Machine.execVpminsb d a b s
  | .vpminsd d a b => Sys2Proof.Machine.execVpminsd d a b s
  | .vpminuw d a b => Sys2Proof.Machine.execVpminuw d a b s
  | .vpminud d a b => Sys2Proof.Machine.execVpminud d a b s
  | .vpmaxsb d a b => Sys2Proof.Machine.execVpmaxsb d a b s
  | .vpmaxsd d a b => Sys2Proof.Machine.execVpmaxsd d a b s
  | .vpmaxuw d a b => Sys2Proof.Machine.execVpmaxuw d a b s
  | .vpmaxud d a b => Sys2Proof.Machine.execVpmaxud d a b s
  | .vpmulld d a b => Sys2Proof.Machine.execVpmulld d a b s
  | .aesimc d b => Sys2Proof.Machine.execAesimc d b s
  | .vaesimc d b => Sys2Proof.Machine.execVaesimc d b s
  | .aesenc d b => Sys2Proof.Machine.execAesenc d b s
  | .vaesenc d a b => Sys2Proof.Machine.execVaesenc d a b s
  | .aesenclast d b => Sys2Proof.Machine.execAesenclast d b s
  | .vaesenclast d a b => Sys2Proof.Machine.execVaesenclast d a b s
  | .aesdec d b => Sys2Proof.Machine.execAesdec d b s
  | .vaesdec d a b => Sys2Proof.Machine.execVaesdec d a b s
  | .aesdeclast d b => Sys2Proof.Machine.execAesdeclast d b s
  | .vaesdeclast d a b => Sys2Proof.Machine.execVaesdeclast d a b s
  | .vpermilpsXImm d b imm => Sys2Proof.Machine.execVpermilpsXImm d b imm s
  | .vpermilpsYImm d b imm => Sys2Proof.Machine.execVpermilpsYImm d b imm s
  | .vpermilpdXImm d b imm => Sys2Proof.Machine.execVpermilpdXImm d b imm s
  | .vpermilpdYImm d b imm => Sys2Proof.Machine.execVpermilpdYImm d b imm s
  | .vperm2f128 d a b imm => Sys2Proof.Machine.execVperm2f128 d a b imm s
  | .vroundpsX d b imm => Sys2Proof.Machine.execVroundpsX d b imm s
  | .vroundpsY d b imm => Sys2Proof.Machine.execVroundpsY d b imm s
  | .vroundpdX d b imm => Sys2Proof.Machine.execVroundpdX d b imm s
  | .vroundpdY d b imm => Sys2Proof.Machine.execVroundpdY d b imm s
  | .vroundss d a b imm => Sys2Proof.Machine.execVroundss d a b imm s
  | .vroundsd d a b imm => Sys2Proof.Machine.execVroundsd d a b imm s
  | .vblendpsX d a b imm => Sys2Proof.Machine.execVblendpsX d a b imm s
  | .vblendpsY d a b imm => Sys2Proof.Machine.execVblendpsY d a b imm s
  | .vblendpdX d a b imm => Sys2Proof.Machine.execVblendpdX d a b imm s
  | .vblendpdY d a b imm => Sys2Proof.Machine.execVblendpdY d a b imm s
  | .vpblendw d a b imm => Sys2Proof.Machine.execVpblendw d a b imm s
  | .vpalignr d a b imm => Sys2Proof.Machine.execVpalignr d a b imm s
  | .vinsertf128 d a b imm => Sys2Proof.Machine.execVinsertf128 d a b imm s
  | .vextractf128 d a imm => Sys2Proof.Machine.execVextractf128 d a imm s
  | .vpinsrb d a b imm => Sys2Proof.Machine.execVpinsrb d a b imm s
  | .vinsertps d a b imm => Sys2Proof.Machine.execVinsertps d a b imm s
  | .vpinsrd d a b imm => Sys2Proof.Machine.execVpinsrd d a b imm s
  | .vpinsrq d a b imm => Sys2Proof.Machine.execVpinsrq d a b imm s
  | .vdppsX d a b imm => Sys2Proof.Machine.execVdppsX d a b imm s
  | .vdppsY d a b imm => Sys2Proof.Machine.execVdppsY d a b imm s
  | .vdppd d a b imm => Sys2Proof.Machine.execVdppd d a b imm s
  | .vmpsadbw d a b imm => Sys2Proof.Machine.execVmpsadbw d a b imm s
  | .pclmulqdq d b imm => Sys2Proof.Machine.execPclmulqdq d b imm s
  | .vpclmulqdq d a b imm => Sys2Proof.Machine.execVpclmulqdq d a b imm s
  | .vpermil2psX d a b c imm => Sys2Proof.Machine.execVpermil2psX d a b c imm s
  | .vpermil2psXW1 d a c b imm => Sys2Proof.Machine.execVpermil2psXW1 d a c b imm s
  | .vpermil2psY d a b c imm => Sys2Proof.Machine.execVpermil2psY d a b c imm s
  | .vpermil2psYW1 d a c b imm => Sys2Proof.Machine.execVpermil2psYW1 d a c b imm s
  | .vpermil2pdX d a b c imm => Sys2Proof.Machine.execVpermil2pdX d a b c imm s
  | .vpermil2pdXW1 d a c b imm => Sys2Proof.Machine.execVpermil2pdXW1 d a c b imm s
  | .vpermil2pdY d a b c imm => Sys2Proof.Machine.execVpermil2pdY d a b c imm s
  | .vpermil2pdYW1 d a c b imm => Sys2Proof.Machine.execVpermil2pdYW1 d a c b imm s
  | .vblendvpsX d a b c => Sys2Proof.Machine.execVblendvpsX d a b c s
  | .vblendvpsY d a b c => Sys2Proof.Machine.execVblendvpsY d a b c s
  | .vblendvpdX d a b c => Sys2Proof.Machine.execVblendvpdX d a b c s
  | .vblendvpdY d a b c => Sys2Proof.Machine.execVblendvpdY d a b c s
  | .vpblendvb d a b c => Sys2Proof.Machine.execVpblendvb d a b c s
  | .vfmaddsubpsX d a b c => Sys2Proof.Machine.execVfmaddsubpsX d a b c s
  | .vfmaddsubpsXW1 d a c b => Sys2Proof.Machine.execVfmaddsubpsXW1 d a c b s
  | .vfmaddsubpsY d a b c => Sys2Proof.Machine.execVfmaddsubpsY d a b c s
  | .vfmaddsubpsYW1 d a c b => Sys2Proof.Machine.execVfmaddsubpsYW1 d a c b s
  | .vfmaddsubpdX d a b c => Sys2Proof.Machine.execVfmaddsubpdX d a b c s
  | .vfmaddsubpdXW1 d a c b => Sys2Proof.Machine.execVfmaddsubpdXW1 d a c b s
  | .vfmaddsubpdY d a b c => Sys2Proof.Machine.execVfmaddsubpdY d a b c s
  | .vfmaddsubpdYW1 d a c b => Sys2Proof.Machine.execVfmaddsubpdYW1 d a c b s
  | .vfmsubaddpsX d a b c => Sys2Proof.Machine.execVfmsubaddpsX d a b c s
  | .vfmsubaddpsXW1 d a c b => Sys2Proof.Machine.execVfmsubaddpsXW1 d a c b s
  | .vfmsubaddpsY d a b c => Sys2Proof.Machine.execVfmsubaddpsY d a b c s
  | .vfmsubaddpsYW1 d a c b => Sys2Proof.Machine.execVfmsubaddpsYW1 d a c b s
  | .vfmsubaddpdX d a b c => Sys2Proof.Machine.execVfmsubaddpdX d a b c s
  | .vfmsubaddpdXW1 d a c b => Sys2Proof.Machine.execVfmsubaddpdXW1 d a c b s
  | .vfmsubaddpdY d a b c => Sys2Proof.Machine.execVfmsubaddpdY d a b c s
  | .vfmsubaddpdYW1 d a c b => Sys2Proof.Machine.execVfmsubaddpdYW1 d a c b s
  | .vfmaddpsX d a b c => Sys2Proof.Machine.execVfmaddpsX d a b c s
  | .vfmaddpsXW1 d a c b => Sys2Proof.Machine.execVfmaddpsXW1 d a c b s
  | .vfmaddpsY d a b c => Sys2Proof.Machine.execVfmaddpsY d a b c s
  | .vfmaddpsYW1 d a c b => Sys2Proof.Machine.execVfmaddpsYW1 d a c b s
  | .vfmaddpdX d a b c => Sys2Proof.Machine.execVfmaddpdX d a b c s
  | .vfmaddpdXW1 d a c b => Sys2Proof.Machine.execVfmaddpdXW1 d a c b s
  | .vfmaddpdY d a b c => Sys2Proof.Machine.execVfmaddpdY d a b c s
  | .vfmaddpdYW1 d a c b => Sys2Proof.Machine.execVfmaddpdYW1 d a c b s
  | .vfmaddss d a b c => Sys2Proof.Machine.execVfmaddss d a b c s
  | .vfmaddssW1 d a c b => Sys2Proof.Machine.execVfmaddssW1 d a c b s
  | .vfmaddsd d a b c => Sys2Proof.Machine.execVfmaddsd d a b c s
  | .vfmaddsdW1 d a c b => Sys2Proof.Machine.execVfmaddsdW1 d a c b s
  | .vfmsubpsX d a b c => Sys2Proof.Machine.execVfmsubpsX d a b c s
  | .vfmsubpsXW1 d a c b => Sys2Proof.Machine.execVfmsubpsXW1 d a c b s
  | .vfmsubpsY d a b c => Sys2Proof.Machine.execVfmsubpsY d a b c s
  | .vfmsubpsYW1 d a c b => Sys2Proof.Machine.execVfmsubpsYW1 d a c b s
  | .vfmsubpdX d a b c => Sys2Proof.Machine.execVfmsubpdX d a b c s
  | .vfmsubpdXW1 d a c b => Sys2Proof.Machine.execVfmsubpdXW1 d a c b s
  | .vfmsubpdY d a b c => Sys2Proof.Machine.execVfmsubpdY d a b c s
  | .vfmsubpdYW1 d a c b => Sys2Proof.Machine.execVfmsubpdYW1 d a c b s
  | .vfmsubss d a b c => Sys2Proof.Machine.execVfmsubss d a b c s
  | .vfmsubssW1 d a c b => Sys2Proof.Machine.execVfmsubssW1 d a c b s
  | .vfmsubsd d a b c => Sys2Proof.Machine.execVfmsubsd d a b c s
  | .vfmsubsdW1 d a c b => Sys2Proof.Machine.execVfmsubsdW1 d a c b s
  | .vfnmaddpsX d a b c => Sys2Proof.Machine.execVfnmaddpsX d a b c s
  | .vfnmaddpsXW1 d a c b => Sys2Proof.Machine.execVfnmaddpsXW1 d a c b s
  | .vfnmaddpsY d a b c => Sys2Proof.Machine.execVfnmaddpsY d a b c s
  | .vfnmaddpsYW1 d a c b => Sys2Proof.Machine.execVfnmaddpsYW1 d a c b s
  | .vfnmaddpdX d a b c => Sys2Proof.Machine.execVfnmaddpdX d a b c s
  | .vfnmaddpdXW1 d a c b => Sys2Proof.Machine.execVfnmaddpdXW1 d a c b s
  | .vfnmaddpdY d a b c => Sys2Proof.Machine.execVfnmaddpdY d a b c s
  | .vfnmaddpdYW1 d a c b => Sys2Proof.Machine.execVfnmaddpdYW1 d a c b s
  | .vfnmaddss d a b c => Sys2Proof.Machine.execVfnmaddss d a b c s
  | .vfnmaddssW1 d a c b => Sys2Proof.Machine.execVfnmaddssW1 d a c b s
  | .vfnmaddsd d a b c => Sys2Proof.Machine.execVfnmaddsd d a b c s
  | .vfnmaddsdW1 d a c b => Sys2Proof.Machine.execVfnmaddsdW1 d a c b s
  | .vfnmsubpsX d a b c => Sys2Proof.Machine.execVfnmsubpsX d a b c s
  | .vfnmsubpsXW1 d a c b => Sys2Proof.Machine.execVfnmsubpsXW1 d a c b s
  | .vfnmsubpsY d a b c => Sys2Proof.Machine.execVfnmsubpsY d a b c s
  | .vfnmsubpsYW1 d a c b => Sys2Proof.Machine.execVfnmsubpsYW1 d a c b s
  | .vfnmsubpdX d a b c => Sys2Proof.Machine.execVfnmsubpdX d a b c s
  | .vfnmsubpdXW1 d a c b => Sys2Proof.Machine.execVfnmsubpdXW1 d a c b s
  | .vfnmsubpdY d a b c => Sys2Proof.Machine.execVfnmsubpdY d a b c s
  | .vfnmsubpdYW1 d a c b => Sys2Proof.Machine.execVfnmsubpdYW1 d a c b s
  | .vfnmsubss d a b c => Sys2Proof.Machine.execVfnmsubss d a b c s
  | .vfnmsubssW1 d a c b => Sys2Proof.Machine.execVfnmsubssW1 d a c b s
  | .vfnmsubsd d a b c => Sys2Proof.Machine.execVfnmsubsd d a b c s
  | .vfnmsubsdW1 d a c b => Sys2Proof.Machine.execVfnmsubsdW1 d a c b s
  | .aeskeygenassist d b imm => Sys2Proof.Machine.execAeskeygenassist d b imm s
  | .vaeskeygenassist d b imm => Sys2Proof.Machine.execVaeskeygenassist d b imm s

end Sys2Proof.Machine
end

