-- ==== Sys2Proof/Machine/Fetch.lean ====
section
/-! DEFINITION. Fetching and decoding the instruction at the program counter (10_state.md R51, 30_encoding.md R127), the end of
the run (60_exceptions.md R518), and placing a program in memory. -/

namespace Sys2Proof.Machine

/-- The address of byte `k` of the instruction at the program counter. -/
def fetchAddr (s : State) (k : Nat) : Addr := wrap s.par.mode (s.pc + BitVec.ofNat 64 k)

/-- Byte `k` may be fetched without crossing the canonical boundary or the top of the address space in Mode64; Mode32 wraps
(10_state.md R51). -/
def fetchInside (s : State) (k : Nat) : Bool :=
  match s.par.mode with
  | .mode64 => canonical (fetchAddr s k) && decide (s.pc.toNat + k < 2 ^ 64)
  | .mode32 => true

/-- The bytes that can be fetched from byte `k` on, at most `fuel`, and what stops the fetch where they end short
(30_encoding.md R127, log 18). -/
def fetchFrom (s : State) : Nat → Nat → List Byte × Option Stop
  | 0, _ => ([], none)
  | fuel + 1, k =>
    if !fetchInside s k then ([], some (.refused .fetchBoundary))
    else if !mapped s.par (fetchAddr s k) then ([], some (.fault (.pf (fetchAddr s k))))
    else (readByte s (fetchAddr s k) :: (fetchFrom s fuel (k + 1)).1, (fetchFrom s fuel (k + 1)).2)

/-- The bytes at the program counter, up to the longest instruction. -/
def fetchWindow (s : State) : List Byte × Option Stop := fetchFrom s maxLength 0

/-- What a decoding result makes of a fetch: the instruction and its length, or the end of the step. Bytes past the end of
the instruction are never needed; where the instruction needs a byte that cannot be fetched, the fetch's own stop ends the
step (60_exceptions.md R511 step 1). -/
def fetched {α : Type} (r : DecodeResult α) (stop : Option Stop) : Res (α × Nat) :=
  match r with
  | .ok i len => .ok (i, len)
  | .ud => raise .ud
  | .refused why => refuse (.encoding why)
  | .more =>
    match stop with
    | some e => .error e
    | none => refuse (.encoding .notListed)

/-- At mnemonic level, the term with index pc, of length 1; a term that matches no listed form is refused (10_state.md R51,
30_encoding.md R111, R112, log 29). -/
def termAt (s : State) : Res (Instr × Nat) :=
  match s.par.terms[s.pc.toNat]? with
  | none => refuse .runEnded
  | some i => if i.termOk then .ok (i, 1) else refuse .termForm

/-- The instruction at the program counter, with its length: decoded from the bytes there, or at mnemonic level the term there
(30_encoding.md R112). -/
noncomputable def fetch (s : State) : Res (Instr × Nat) :=
  if s.par.encGk then fetched (decode s.par.mode s.par.encFma4 (fetchWindow s).1) (fetchWindow s).2
  else termAt s

/-- pc is just past the program's last byte, or at mnemonic level past its last index: the run is over (60_exceptions.md R518,
log 14). No more than this address is compared: where the last instruction runs past the recorded end, its bytes beyond the
end are fetched, pc passes the end and the run goes on. DESIGN CHOICE, unsafe (log 35). -/
def runOver (s : State) : Bool :=
  if s.par.encGk then
    match s.par.program with
    | none => false
    | some e => s.pc == wrap s.par.mode (e.base + BitVec.ofNat 64 e.size)
  else decide (s.par.terms.length ≤ s.pc.toNat)

/-- What a step makes of a fetch: the instruction is handed to `run` in the state that knows its length. -/
def afterFetch {α : Type} (run : α → State → Host.Outcome State Fault Refusal) (s : State) :
    Res (α × Nat) → Host.Outcome State Fault Refusal
  | .ok (i, len) => run i { s with length := len }
  | .error (.fault f) => .fault f
  | .error (.refused r) => .refused r

/-- One instruction: fetched, then run. -/
noncomputable def stepWith (run : Instr → State → Host.Outcome State Fault Refusal) (s : State) :
    Host.Outcome State Fault Refusal :=
  if runOver s then .refused .runEnded else afterFetch run s (fetch s)

/-- Loading a program from outside the machine (log 7): the bytes at the program counter, mapped where they were not, and
known as the program, which the step then decodes. -/
def loadProgram (s : State) (bs : List Byte) : State :=
  let as := (List.range bs.length).map (fetchAddr s)
  let new : List Region := (as.filter fun a => !mapped s.par a).map fun a => { base := a.toNat, size := 1, writable := false }
  { s with
    par :=
      { s.par with
        encGk := true, memMap := new ++ s.par.memMap, program := some { base := s.pc, size := bs.length } }
    mem := Memory.writeBytes s.mem as (leNat bs) }

end Sys2Proof.Machine
end

