-- ==== Sys2Proof/Machine/Run.lean ====
section
/-! DEFINITION. The step as a program that runs: the same dispatch from a decoded row and its operand fields, without building
the term of the instruction, which Lean's code generator cannot do for a type of 418 constructors (log 28). Both are proved
equal, so nothing here adds to the meaning of the model. -/

namespace Sys2Proof.Machine

/-- The meaning of a row with operand fields `o`. -/
def execFields (f : Form) (o : Operands) (s : State) : Host.Outcome State Fault Refusal :=
  match f with
  | .vmovupsX => execVmovupsX o.reg o.rm s
  | .vmovupsY => execVmovupsY o.reg o.rm s
  | .vmovupdX => execVmovupdX o.reg o.rm s
  | .vmovupdY => execVmovupdY o.reg o.rm s
  | .vmovssReg => execVmovssReg o.reg o.v o.rm.theReg s
  | .vmovssLoad => execVmovssLoad o.reg o.rm.theMem s
  | .vmovsdReg => execVmovsdReg o.reg o.v o.rm.theReg s
  | .vmovsdLoad => execVmovsdLoad o.reg o.rm.theMem s
  | .vmovupsXStore => execVmovupsXStore o.rm o.reg s
  | .vmovupsYStore => execVmovupsYStore o.rm o.reg s
  | .vmovupdXStore => execVmovupdXStore o.rm o.reg s
  | .vmovupdYStore => execVmovupdYStore o.rm o.reg s
  | .vmovssStore => execVmovssStore o.rm.theMem o.reg s
  | .vmovssReg2 => execVmovssReg2 o.rm.theReg o.v o.reg s
  | .vmovsdStore => execVmovsdStore o.rm.theMem o.reg s
  | .vmovsdReg2 => execVmovsdReg2 o.rm.theReg o.v o.reg s
  | .vmovhlps => execVmovhlps o.reg o.v o.rm.theReg s
  | .vmovlpsLoad => execVmovlpsLoad o.reg o.v o.rm.theMem s
  | .vmovlpdLoad => execVmovlpdLoad o.reg o.v o.rm.theMem s
  | .vmovsldupX => execVmovsldupX o.reg o.rm s
  | .vmovsldupY => execVmovsldupY o.reg o.rm s
  | .vmovddupX => execVmovddupX o.reg o.rm s
  | .vmovddupY => execVmovddupY o.reg o.rm s
  | .vmovlpsStore => execVmovlpsStore o.rm.theMem o.reg s
  | .vmovlpdStore => execVmovlpdStore o.rm.theMem o.reg s
  | .vunpcklpsX => execVunpcklpsX o.reg o.v o.rm s
  | .vunpcklpsY => execVunpcklpsY o.reg o.v o.rm s
  | .vunpcklpdX => execVunpcklpdX o.reg o.v o.rm s
  | .vunpcklpdY => execVunpcklpdY o.reg o.v o.rm s
  | .vunpckhpsX => execVunpckhpsX o.reg o.v o.rm s
  | .vunpckhpsY => execVunpckhpsY o.reg o.v o.rm s
  | .vunpckhpdX => execVunpckhpdX o.reg o.v o.rm s
  | .vunpckhpdY => execVunpckhpdY o.reg o.v o.rm s
  | .vmovlhps => execVmovlhps o.reg o.v o.rm.theReg s
  | .vmovhpsLoad => execVmovhpsLoad o.reg o.v o.rm.theMem s
  | .vmovhpdLoad => execVmovhpdLoad o.reg o.v o.rm.theMem s
  | .vmovshdupX => execVmovshdupX o.reg o.rm s
  | .vmovshdupY => execVmovshdupY o.reg o.rm s
  | .vmovhpsStore => execVmovhpsStore o.rm.theMem o.reg s
  | .vmovhpdStore => execVmovhpdStore o.rm.theMem o.reg s
  | .vmovapsX => execVmovapsX o.reg o.rm s
  | .vmovapsY => execVmovapsY o.reg o.rm s
  | .vmovapdX => execVmovapdX o.reg o.rm s
  | .vmovapdY => execVmovapdY o.reg o.rm s
  | .vmovapsXStore => execVmovapsXStore o.rm o.reg s
  | .vmovapsYStore => execVmovapsYStore o.rm o.reg s
  | .vmovapdXStore => execVmovapdXStore o.rm o.reg s
  | .vmovapdYStore => execVmovapdYStore o.rm o.reg s
  | .vcvtsi2ssR32 => execVcvtsi2ssR32 o.reg o.v o.rm s
  | .vcvtsi2ssR64 => execVcvtsi2ssR64 o.reg o.v o.rm s
  | .vcvtsi2sdR32 => execVcvtsi2sdR32 o.reg o.v o.rm s
  | .vcvtsi2sdR64 => execVcvtsi2sdR64 o.reg o.v o.rm s
  | .vcvttss2siR32 => execVcvttss2siR32 o.reg o.rm s
  | .vcvttss2siR64 => execVcvttss2siR64 o.reg o.rm s
  | .vcvttsd2siR32 => execVcvttsd2siR32 o.reg o.rm s
  | .vcvttsd2siR64 => execVcvttsd2siR64 o.reg o.rm s
  | .vcvtss2siR32 => execVcvtss2siR32 o.reg o.rm s
  | .vcvtss2siR64 => execVcvtss2siR64 o.reg o.rm s
  | .vcvtsd2siR32 => execVcvtsd2siR32 o.reg o.rm s
  | .vcvtsd2siR64 => execVcvtsd2siR64 o.reg o.rm s
  | .vmovmskpsX => execVmovmskpsX o.reg o.rm.theReg s
  | .vmovmskpsY => execVmovmskpsY o.reg o.rm.theReg s
  | .vmovmskpdX => execVmovmskpdX o.reg o.rm.theReg s
  | .vmovmskpdY => execVmovmskpdY o.reg o.rm.theReg s
  | .vsqrtpsX => execVsqrtpsX o.reg o.rm s
  | .vsqrtpsY => execVsqrtpsY o.reg o.rm s
  | .vsqrtpdX => execVsqrtpdX o.reg o.rm s
  | .vsqrtpdY => execVsqrtpdY o.reg o.rm s
  | .vsqrtss => execVsqrtss o.reg o.v o.rm s
  | .vsqrtsd => execVsqrtsd o.reg o.v o.rm s
  | .vrsqrtpsX => execVrsqrtpsX o.reg o.rm s
  | .vrsqrtpsY => execVrsqrtpsY o.reg o.rm s
  | .vrsqrtss => execVrsqrtss o.reg o.v o.rm s
  | .vrcppsX => execVrcppsX o.reg o.rm s
  | .vrcppsY => execVrcppsY o.reg o.rm s
  | .vrcpss => execVrcpss o.reg o.v o.rm s
  | .vandpsX => execVandpsX o.reg o.v o.rm s
  | .vandpsY => execVandpsY o.reg o.v o.rm s
  | .vandpdX => execVandpdX o.reg o.v o.rm s
  | .vandpdY => execVandpdY o.reg o.v o.rm s
  | .vandnpsX => execVandnpsX o.reg o.v o.rm s
  | .vandnpsY => execVandnpsY o.reg o.v o.rm s
  | .vandnpdX => execVandnpdX o.reg o.v o.rm s
  | .vandnpdY => execVandnpdY o.reg o.v o.rm s
  | .vorpsX => execVorpsX o.reg o.v o.rm s
  | .vorpsY => execVorpsY o.reg o.v o.rm s
  | .vorpdX => execVorpdX o.reg o.v o.rm s
  | .vorpdY => execVorpdY o.reg o.v o.rm s
  | .vxorpsX => execVxorpsX o.reg o.v o.rm s
  | .vxorpsY => execVxorpsY o.reg o.v o.rm s
  | .vxorpdX => execVxorpdX o.reg o.v o.rm s
  | .vxorpdY => execVxorpdY o.reg o.v o.rm s
  | .vaddpsX => execVaddpsX o.reg o.v o.rm s
  | .vaddpsY => execVaddpsY o.reg o.v o.rm s
  | .vaddpdX => execVaddpdX o.reg o.v o.rm s
  | .vaddpdY => execVaddpdY o.reg o.v o.rm s
  | .vaddss => execVaddss o.reg o.v o.rm s
  | .vaddsd => execVaddsd o.reg o.v o.rm s
  | .vmulpsX => execVmulpsX o.reg o.v o.rm s
  | .vmulpsY => execVmulpsY o.reg o.v o.rm s
  | .vmulpdX => execVmulpdX o.reg o.v o.rm s
  | .vmulpdY => execVmulpdY o.reg o.v o.rm s
  | .vmulss => execVmulss o.reg o.v o.rm s
  | .vmulsd => execVmulsd o.reg o.v o.rm s
  | .vcvtps2pdX => execVcvtps2pdX o.reg o.rm s
  | .vcvtps2pdY => execVcvtps2pdY o.reg o.rm s
  | .vcvtpd2psX => execVcvtpd2psX o.reg o.rm s
  | .vcvtpd2psY => execVcvtpd2psY o.reg o.rm s
  | .vcvtss2sd => execVcvtss2sd o.reg o.v o.rm s
  | .vcvtsd2ss => execVcvtsd2ss o.reg o.v o.rm s
  | .vcvtdq2psX => execVcvtdq2psX o.reg o.rm s
  | .vcvtdq2psY => execVcvtdq2psY o.reg o.rm s
  | .vcvtps2dqX => execVcvtps2dqX o.reg o.rm s
  | .vcvtps2dqY => execVcvtps2dqY o.reg o.rm s
  | .vcvttps2dqX => execVcvttps2dqX o.reg o.rm s
  | .vcvttps2dqY => execVcvttps2dqY o.reg o.rm s
  | .vsubpsX => execVsubpsX o.reg o.v o.rm s
  | .vsubpsY => execVsubpsY o.reg o.v o.rm s
  | .vsubpdX => execVsubpdX o.reg o.v o.rm s
  | .vsubpdY => execVsubpdY o.reg o.v o.rm s
  | .vsubss => execVsubss o.reg o.v o.rm s
  | .vsubsd => execVsubsd o.reg o.v o.rm s
  | .vminpsX => execVminpsX o.reg o.v o.rm s
  | .vminpsY => execVminpsY o.reg o.v o.rm s
  | .vminpdX => execVminpdX o.reg o.v o.rm s
  | .vminpdY => execVminpdY o.reg o.v o.rm s
  | .vminss => execVminss o.reg o.v o.rm s
  | .vminsd => execVminsd o.reg o.v o.rm s
  | .vdivpsX => execVdivpsX o.reg o.v o.rm s
  | .vdivpsY => execVdivpsY o.reg o.v o.rm s
  | .vdivpdX => execVdivpdX o.reg o.v o.rm s
  | .vdivpdY => execVdivpdY o.reg o.v o.rm s
  | .vdivss => execVdivss o.reg o.v o.rm s
  | .vdivsd => execVdivsd o.reg o.v o.rm s
  | .vmaxpsX => execVmaxpsX o.reg o.v o.rm s
  | .vmaxpsY => execVmaxpsY o.reg o.v o.rm s
  | .vmaxpdX => execVmaxpdX o.reg o.v o.rm s
  | .vmaxpdY => execVmaxpdY o.reg o.v o.rm s
  | .vmaxss => execVmaxss o.reg o.v o.rm s
  | .vmaxsd => execVmaxsd o.reg o.v o.rm s
  | .vpunpcklbw => execVpunpcklbw o.reg o.v o.rm s
  | .vpunpcklwd => execVpunpcklwd o.reg o.v o.rm s
  | .vpunpckldq => execVpunpckldq o.reg o.v o.rm s
  | .vpacksswb => execVpacksswb o.reg o.v o.rm s
  | .vpcmpgtb => execVpcmpgtb o.reg o.v o.rm s
  | .vpcmpgtw => execVpcmpgtw o.reg o.v o.rm s
  | .vpcmpgtd => execVpcmpgtd o.reg o.v o.rm s
  | .vpackuswb => execVpackuswb o.reg o.v o.rm s
  | .vpunpckhbw => execVpunpckhbw o.reg o.v o.rm s
  | .vpunpckhwd => execVpunpckhwd o.reg o.v o.rm s
  | .vpunpckhdq => execVpunpckhdq o.reg o.v o.rm s
  | .vpackssdw => execVpackssdw o.reg o.v o.rm s
  | .vpunpcklqdq => execVpunpcklqdq o.reg o.v o.rm s
  | .vpunpckhqdq => execVpunpckhqdq o.reg o.v o.rm s
  | .vmovdqaX => execVmovdqaX o.reg o.rm s
  | .vmovdqaY => execVmovdqaY o.reg o.rm s
  | .vmovdquX => execVmovdquX o.reg o.rm s
  | .vmovdquY => execVmovdquY o.reg o.rm s
  | .vpshufd => execVpshufd o.reg o.rm o.imm s
  | .vpshufhw => execVpshufhw o.reg o.rm o.imm s
  | .vpshuflw => execVpshuflw o.reg o.rm o.imm s
  | .vpsrlwImm => execVpsrlwImm o.v o.rm.theReg o.imm s
  | .vpsrawImm => execVpsrawImm o.v o.rm.theReg o.imm s
  | .vpsllwImm => execVpsllwImm o.v o.rm.theReg o.imm s
  | .vpsrldImm => execVpsrldImm o.v o.rm.theReg o.imm s
  | .vpsradImm => execVpsradImm o.v o.rm.theReg o.imm s
  | .vpslldImm => execVpslldImm o.v o.rm.theReg o.imm s
  | .vpsrlqImm => execVpsrlqImm o.v o.rm.theReg o.imm s
  | .vpsrldq => execVpsrldq o.v o.rm.theReg o.imm s
  | .vpsllqImm => execVpsllqImm o.v o.rm.theReg o.imm s
  | .vpslldq => execVpslldq o.v o.rm.theReg o.imm s
  | .vpcmpeqb => execVpcmpeqb o.reg o.v o.rm s
  | .vpcmpeqw => execVpcmpeqw o.reg o.v o.rm s
  | .vpcmpeqd => execVpcmpeqd o.reg o.v o.rm s
  | .vzeroupper => execVzeroupper s
  | .vzeroall => execVzeroall s
  | .vhaddpdX => execVhaddpdX o.reg o.v o.rm s
  | .vhaddpdY => execVhaddpdY o.reg o.v o.rm s
  | .vhaddpsX => execVhaddpsX o.reg o.v o.rm s
  | .vhaddpsY => execVhaddpsY o.reg o.v o.rm s
  | .vhsubpdX => execVhsubpdX o.reg o.v o.rm s
  | .vhsubpdY => execVhsubpdY o.reg o.v o.rm s
  | .vhsubpsX => execVhsubpsX o.reg o.v o.rm s
  | .vhsubpsY => execVhsubpsY o.reg o.v o.rm s
  | .vmovdqaXStore => execVmovdqaXStore o.rm o.reg s
  | .vmovdqaYStore => execVmovdqaYStore o.rm o.reg s
  | .vmovdquXStore => execVmovdquXStore o.rm o.reg s
  | .vmovdquYStore => execVmovdquYStore o.rm o.reg s
  | .vldmxcsr => execVldmxcsr o.rm.theMem s
  | .vstmxcsr => execVstmxcsr o.rm.theMem s
  | .vcmppsX => execVcmppsX o.reg o.v o.rm o.imm s
  | .vcmppsY => execVcmppsY o.reg o.v o.rm o.imm s
  | .vcmppdX => execVcmppdX o.reg o.v o.rm o.imm s
  | .vcmppdY => execVcmppdY o.reg o.v o.rm o.imm s
  | .vcmpss => execVcmpss o.reg o.v o.rm o.imm s
  | .vcmpsd => execVcmpsd o.reg o.v o.rm o.imm s
  | .vpinsrw => execVpinsrw o.reg o.v o.rm o.imm s
  | .vshufpsX => execVshufpsX o.reg o.v o.rm o.imm s
  | .vshufpsY => execVshufpsY o.reg o.v o.rm o.imm s
  | .vshufpdX => execVshufpdX o.reg o.v o.rm o.imm s
  | .vshufpdY => execVshufpdY o.reg o.v o.rm o.imm s
  | .vaddsubpdX => execVaddsubpdX o.reg o.v o.rm s
  | .vaddsubpdY => execVaddsubpdY o.reg o.v o.rm s
  | .vaddsubpsX => execVaddsubpsX o.reg o.v o.rm s
  | .vaddsubpsY => execVaddsubpsY o.reg o.v o.rm s
  | .vpsrlw => execVpsrlw o.reg o.v o.rm s
  | .vpsrld => execVpsrld o.reg o.v o.rm s
  | .vpsrlq => execVpsrlq o.reg o.v o.rm s
  | .vpaddq => execVpaddq o.reg o.v o.rm s
  | .vpmullw => execVpmullw o.reg o.v o.rm s
  | .vpsubusb => execVpsubusb o.reg o.v o.rm s
  | .vpsubusw => execVpsubusw o.reg o.v o.rm s
  | .vpminub => execVpminub o.reg o.v o.rm s
  | .vpand => execVpand o.reg o.v o.rm s
  | .vpaddusb => execVpaddusb o.reg o.v o.rm s
  | .vpaddusw => execVpaddusw o.reg o.v o.rm s
  | .vpmaxub => execVpmaxub o.reg o.v o.rm s
  | .vpandn => execVpandn o.reg o.v o.rm s
  | .vpavgb => execVpavgb o.reg o.v o.rm s
  | .vpsraw => execVpsraw o.reg o.v o.rm s
  | .vpsrad => execVpsrad o.reg o.v o.rm s
  | .vpavgw => execVpavgw o.reg o.v o.rm s
  | .vpmulhuw => execVpmulhuw o.reg o.v o.rm s
  | .vpmulhw => execVpmulhw o.reg o.v o.rm s
  | .vcvttpd2dqX => execVcvttpd2dqX o.reg o.rm s
  | .vcvttpd2dqY => execVcvttpd2dqY o.reg o.rm s
  | .vcvtdq2pdX => execVcvtdq2pdX o.reg o.rm s
  | .vcvtdq2pdY => execVcvtdq2pdY o.reg o.rm s
  | .vcvtpd2dqX => execVcvtpd2dqX o.reg o.rm s
  | .vcvtpd2dqY => execVcvtpd2dqY o.reg o.rm s
  | .vpsubsb => execVpsubsb o.reg o.v o.rm s
  | .vpsubsw => execVpsubsw o.reg o.v o.rm s
  | .vpminsw => execVpminsw o.reg o.v o.rm s
  | .vpor => execVpor o.reg o.v o.rm s
  | .vpaddsb => execVpaddsb o.reg o.v o.rm s
  | .vpaddsw => execVpaddsw o.reg o.v o.rm s
  | .vpmaxsw => execVpmaxsw o.reg o.v o.rm s
  | .vpxor => execVpxor o.reg o.v o.rm s
  | .vlddquX => execVlddquX o.reg o.rm.theMem s
  | .vlddquY => execVlddquY o.reg o.rm.theMem s
  | .vpsllw => execVpsllw o.reg o.v o.rm s
  | .vpslld => execVpslld o.reg o.v o.rm s
  | .vpsllq => execVpsllq o.reg o.v o.rm s
  | .vpmuludq => execVpmuludq o.reg o.v o.rm s
  | .vpmaddwd => execVpmaddwd o.reg o.v o.rm s
  | .vpsadbw => execVpsadbw o.reg o.v o.rm s
  | .vpsubb => execVpsubb o.reg o.v o.rm s
  | .vpsubw => execVpsubw o.reg o.v o.rm s
  | .vpsubd => execVpsubd o.reg o.v o.rm s
  | .vpsubq => execVpsubq o.reg o.v o.rm s
  | .vpaddb => execVpaddb o.reg o.v o.rm s
  | .vpaddw => execVpaddw o.reg o.v o.rm s
  | .vpaddd => execVpaddd o.reg o.v o.rm s
  | .vpshufb => execVpshufb o.reg o.v o.rm s
  | .vphaddw => execVphaddw o.reg o.v o.rm s
  | .vphaddd => execVphaddd o.reg o.v o.rm s
  | .vphaddsw => execVphaddsw o.reg o.v o.rm s
  | .vpmaddubsw => execVpmaddubsw o.reg o.v o.rm s
  | .vphsubw => execVphsubw o.reg o.v o.rm s
  | .vphsubd => execVphsubd o.reg o.v o.rm s
  | .vphsubsw => execVphsubsw o.reg o.v o.rm s
  | .vpsignb => execVpsignb o.reg o.v o.rm s
  | .vpsignw => execVpsignw o.reg o.v o.rm s
  | .vpsignd => execVpsignd o.reg o.v o.rm s
  | .vpmulhrsw => execVpmulhrsw o.reg o.v o.rm s
  | .vpermilpsX => execVpermilpsX o.reg o.v o.rm s
  | .vpermilpsY => execVpermilpsY o.reg o.v o.rm s
  | .vpermilpdX => execVpermilpdX o.reg o.v o.rm s
  | .vpermilpdY => execVpermilpdY o.reg o.v o.rm s
  | .vtestpsX => execVtestpsX o.reg o.rm s
  | .vtestpsY => execVtestpsY o.reg o.rm s
  | .vtestpdX => execVtestpdX o.reg o.rm s
  | .vtestpdY => execVtestpdY o.reg o.rm s
  | .vptestX => execVptestX o.reg o.rm s
  | .vptestY => execVptestY o.reg o.rm s
  | .vbroadcastssX => execVbroadcastssX o.reg o.rm.theMem s
  | .vbroadcastssY => execVbroadcastssY o.reg o.rm.theMem s
  | .vbroadcastsd => execVbroadcastsd o.reg o.rm.theMem s
  | .vbroadcastf128 => execVbroadcastf128 o.reg o.rm.theMem s
  | .vpmuldq => execVpmuldq o.reg o.v o.rm s
  | .vpcmpeqq => execVpcmpeqq o.reg o.v o.rm s
  | .vpackusdw => execVpackusdw o.reg o.v o.rm s
  | .vmaskmovpsXLoad => execVmaskmovpsXLoad o.reg o.v o.rm.theMem s
  | .vmaskmovpsYLoad => execVmaskmovpsYLoad o.reg o.v o.rm.theMem s
  | .vmaskmovpdXLoad => execVmaskmovpdXLoad o.reg o.v o.rm.theMem s
  | .vmaskmovpdYLoad => execVmaskmovpdYLoad o.reg o.v o.rm.theMem s
  | .vmaskmovpsXStore => execVmaskmovpsXStore o.rm.theMem o.v o.reg s
  | .vmaskmovpsYStore => execVmaskmovpsYStore o.rm.theMem o.v o.reg s
  | .vmaskmovpdXStore => execVmaskmovpdXStore o.rm.theMem o.v o.reg s
  | .vmaskmovpdYStore => execVmaskmovpdYStore o.rm.theMem o.v o.reg s
  | .vpcmpgtq => execVpcmpgtq o.reg o.v o.rm s
  | .vpminsb => execVpminsb o.reg o.v o.rm s
  | .vpminsd => execVpminsd o.reg o.v o.rm s
  | .vpminuw => execVpminuw o.reg o.v o.rm s
  | .vpminud => execVpminud o.reg o.v o.rm s
  | .vpmaxsb => execVpmaxsb o.reg o.v o.rm s
  | .vpmaxsd => execVpmaxsd o.reg o.v o.rm s
  | .vpmaxuw => execVpmaxuw o.reg o.v o.rm s
  | .vpmaxud => execVpmaxud o.reg o.v o.rm s
  | .vpmulld => execVpmulld o.reg o.v o.rm s
  | .aesimc => execAesimc o.reg o.rm s
  | .vaesimc => execVaesimc o.reg o.rm s
  | .aesenc => execAesenc o.reg o.rm s
  | .vaesenc => execVaesenc o.reg o.v o.rm s
  | .aesenclast => execAesenclast o.reg o.rm s
  | .vaesenclast => execVaesenclast o.reg o.v o.rm s
  | .aesdec => execAesdec o.reg o.rm s
  | .vaesdec => execVaesdec o.reg o.v o.rm s
  | .aesdeclast => execAesdeclast o.reg o.rm s
  | .vaesdeclast => execVaesdeclast o.reg o.v o.rm s
  | .vpermilpsXImm => execVpermilpsXImm o.reg o.rm o.imm s
  | .vpermilpsYImm => execVpermilpsYImm o.reg o.rm o.imm s
  | .vpermilpdXImm => execVpermilpdXImm o.reg o.rm o.imm s
  | .vpermilpdYImm => execVpermilpdYImm o.reg o.rm o.imm s
  | .vperm2f128 => execVperm2f128 o.reg o.v o.rm o.imm s
  | .vroundpsX => execVroundpsX o.reg o.rm o.imm s
  | .vroundpsY => execVroundpsY o.reg o.rm o.imm s
  | .vroundpdX => execVroundpdX o.reg o.rm o.imm s
  | .vroundpdY => execVroundpdY o.reg o.rm o.imm s
  | .vroundss => execVroundss o.reg o.v o.rm o.imm s
  | .vroundsd => execVroundsd o.reg o.v o.rm o.imm s
  | .vblendpsX => execVblendpsX o.reg o.v o.rm o.imm s
  | .vblendpsY => execVblendpsY o.reg o.v o.rm o.imm s
  | .vblendpdX => execVblendpdX o.reg o.v o.rm o.imm s
  | .vblendpdY => execVblendpdY o.reg o.v o.rm o.imm s
  | .vpblendw => execVpblendw o.reg o.v o.rm o.imm s
  | .vpalignr => execVpalignr o.reg o.v o.rm o.imm s
  | .vinsertf128 => execVinsertf128 o.reg o.v o.rm o.imm s
  | .vextractf128 => execVextractf128 o.rm o.reg o.imm s
  | .vpinsrb => execVpinsrb o.reg o.v o.rm o.imm s
  | .vinsertps => execVinsertps o.reg o.v o.rm o.imm s
  | .vpinsrd => execVpinsrd o.reg o.v o.rm o.imm s
  | .vpinsrq => execVpinsrq o.reg o.v o.rm o.imm s
  | .vdppsX => execVdppsX o.reg o.v o.rm o.imm s
  | .vdppsY => execVdppsY o.reg o.v o.rm o.imm s
  | .vdppd => execVdppd o.reg o.v o.rm o.imm s
  | .vmpsadbw => execVmpsadbw o.reg o.v o.rm o.imm s
  | .pclmulqdq => execPclmulqdq o.reg o.rm o.imm s
  | .vpclmulqdq => execVpclmulqdq o.reg o.v o.rm o.imm s
  | .vpermil2psX => execVpermil2psX o.reg o.v o.rm o.is4 (o.imm.setWidth 2) s
  | .vpermil2psXW1 => execVpermil2psXW1 o.reg o.v o.is4 o.rm (o.imm.setWidth 2) s
  | .vpermil2psY => execVpermil2psY o.reg o.v o.rm o.is4 (o.imm.setWidth 2) s
  | .vpermil2psYW1 => execVpermil2psYW1 o.reg o.v o.is4 o.rm (o.imm.setWidth 2) s
  | .vpermil2pdX => execVpermil2pdX o.reg o.v o.rm o.is4 (o.imm.setWidth 2) s
  | .vpermil2pdXW1 => execVpermil2pdXW1 o.reg o.v o.is4 o.rm (o.imm.setWidth 2) s
  | .vpermil2pdY => execVpermil2pdY o.reg o.v o.rm o.is4 (o.imm.setWidth 2) s
  | .vpermil2pdYW1 => execVpermil2pdYW1 o.reg o.v o.is4 o.rm (o.imm.setWidth 2) s
  | .vblendvpsX => execVblendvpsX o.reg o.v o.rm o.is4 s
  | .vblendvpsY => execVblendvpsY o.reg o.v o.rm o.is4 s
  | .vblendvpdX => execVblendvpdX o.reg o.v o.rm o.is4 s
  | .vblendvpdY => execVblendvpdY o.reg o.v o.rm o.is4 s
  | .vpblendvb => execVpblendvb o.reg o.v o.rm o.is4 s
  | .vfmaddsubpsX => execVfmaddsubpsX o.reg o.v o.rm o.is4 s
  | .vfmaddsubpsXW1 => execVfmaddsubpsXW1 o.reg o.v o.is4 o.rm s
  | .vfmaddsubpsY => execVfmaddsubpsY o.reg o.v o.rm o.is4 s
  | .vfmaddsubpsYW1 => execVfmaddsubpsYW1 o.reg o.v o.is4 o.rm s
  | .vfmaddsubpdX => execVfmaddsubpdX o.reg o.v o.rm o.is4 s
  | .vfmaddsubpdXW1 => execVfmaddsubpdXW1 o.reg o.v o.is4 o.rm s
  | .vfmaddsubpdY => execVfmaddsubpdY o.reg o.v o.rm o.is4 s
  | .vfmaddsubpdYW1 => execVfmaddsubpdYW1 o.reg o.v o.is4 o.rm s
  | .vfmsubaddpsX => execVfmsubaddpsX o.reg o.v o.rm o.is4 s
  | .vfmsubaddpsXW1 => execVfmsubaddpsXW1 o.reg o.v o.is4 o.rm s
  | .vfmsubaddpsY => execVfmsubaddpsY o.reg o.v o.rm o.is4 s
  | .vfmsubaddpsYW1 => execVfmsubaddpsYW1 o.reg o.v o.is4 o.rm s
  | .vfmsubaddpdX => execVfmsubaddpdX o.reg o.v o.rm o.is4 s
  | .vfmsubaddpdXW1 => execVfmsubaddpdXW1 o.reg o.v o.is4 o.rm s
  | .vfmsubaddpdY => execVfmsubaddpdY o.reg o.v o.rm o.is4 s
  | .vfmsubaddpdYW1 => execVfmsubaddpdYW1 o.reg o.v o.is4 o.rm s
  | .vfmaddpsX => execVfmaddpsX o.reg o.v o.rm o.is4 s
  | .vfmaddpsXW1 => execVfmaddpsXW1 o.reg o.v o.is4 o.rm s
  | .vfmaddpsY => execVfmaddpsY o.reg o.v o.rm o.is4 s
  | .vfmaddpsYW1 => execVfmaddpsYW1 o.reg o.v o.is4 o.rm s
  | .vfmaddpdX => execVfmaddpdX o.reg o.v o.rm o.is4 s
  | .vfmaddpdXW1 => execVfmaddpdXW1 o.reg o.v o.is4 o.rm s
  | .vfmaddpdY => execVfmaddpdY o.reg o.v o.rm o.is4 s
  | .vfmaddpdYW1 => execVfmaddpdYW1 o.reg o.v o.is4 o.rm s
  | .vfmaddss => execVfmaddss o.reg o.v o.rm o.is4 s
  | .vfmaddssW1 => execVfmaddssW1 o.reg o.v o.is4 o.rm s
  | .vfmaddsd => execVfmaddsd o.reg o.v o.rm o.is4 s
  | .vfmaddsdW1 => execVfmaddsdW1 o.reg o.v o.is4 o.rm s
  | .vfmsubpsX => execVfmsubpsX o.reg o.v o.rm o.is4 s
  | .vfmsubpsXW1 => execVfmsubpsXW1 o.reg o.v o.is4 o.rm s
  | .vfmsubpsY => execVfmsubpsY o.reg o.v o.rm o.is4 s
  | .vfmsubpsYW1 => execVfmsubpsYW1 o.reg o.v o.is4 o.rm s
  | .vfmsubpdX => execVfmsubpdX o.reg o.v o.rm o.is4 s
  | .vfmsubpdXW1 => execVfmsubpdXW1 o.reg o.v o.is4 o.rm s
  | .vfmsubpdY => execVfmsubpdY o.reg o.v o.rm o.is4 s
  | .vfmsubpdYW1 => execVfmsubpdYW1 o.reg o.v o.is4 o.rm s
  | .vfmsubss => execVfmsubss o.reg o.v o.rm o.is4 s
  | .vfmsubssW1 => execVfmsubssW1 o.reg o.v o.is4 o.rm s
  | .vfmsubsd => execVfmsubsd o.reg o.v o.rm o.is4 s
  | .vfmsubsdW1 => execVfmsubsdW1 o.reg o.v o.is4 o.rm s
  | .vfnmaddpsX => execVfnmaddpsX o.reg o.v o.rm o.is4 s
  | .vfnmaddpsXW1 => execVfnmaddpsXW1 o.reg o.v o.is4 o.rm s
  | .vfnmaddpsY => execVfnmaddpsY o.reg o.v o.rm o.is4 s
  | .vfnmaddpsYW1 => execVfnmaddpsYW1 o.reg o.v o.is4 o.rm s
  | .vfnmaddpdX => execVfnmaddpdX o.reg o.v o.rm o.is4 s
  | .vfnmaddpdXW1 => execVfnmaddpdXW1 o.reg o.v o.is4 o.rm s
  | .vfnmaddpdY => execVfnmaddpdY o.reg o.v o.rm o.is4 s
  | .vfnmaddpdYW1 => execVfnmaddpdYW1 o.reg o.v o.is4 o.rm s
  | .vfnmaddss => execVfnmaddss o.reg o.v o.rm o.is4 s
  | .vfnmaddssW1 => execVfnmaddssW1 o.reg o.v o.is4 o.rm s
  | .vfnmaddsd => execVfnmaddsd o.reg o.v o.rm o.is4 s
  | .vfnmaddsdW1 => execVfnmaddsdW1 o.reg o.v o.is4 o.rm s
  | .vfnmsubpsX => execVfnmsubpsX o.reg o.v o.rm o.is4 s
  | .vfnmsubpsXW1 => execVfnmsubpsXW1 o.reg o.v o.is4 o.rm s
  | .vfnmsubpsY => execVfnmsubpsY o.reg o.v o.rm o.is4 s
  | .vfnmsubpsYW1 => execVfnmsubpsYW1 o.reg o.v o.is4 o.rm s
  | .vfnmsubpdX => execVfnmsubpdX o.reg o.v o.rm o.is4 s
  | .vfnmsubpdXW1 => execVfnmsubpdXW1 o.reg o.v o.is4 o.rm s
  | .vfnmsubpdY => execVfnmsubpdY o.reg o.v o.rm o.is4 s
  | .vfnmsubpdYW1 => execVfnmsubpdYW1 o.reg o.v o.is4 o.rm s
  | .vfnmsubss => execVfnmsubss o.reg o.v o.rm o.is4 s
  | .vfnmsubssW1 => execVfnmsubssW1 o.reg o.v o.is4 o.rm s
  | .vfnmsubsd => execVfnmsubsd o.reg o.v o.rm o.is4 s
  | .vfnmsubsdW1 => execVfnmsubsdW1 o.reg o.v o.is4 o.rm s
  | .aeskeygenassist => execAeskeygenassist o.reg o.rm o.imm s
  | .vaeskeygenassist => execVaeskeygenassist o.reg o.rm o.imm s

/-- Running a row with its fields is running the instruction they make. -/
theorem execFields_eq (f : Form) (o : Operands) (s : State) : execFields f o s = exec (f.build o) s := by
  cases f <;> rfl

/-- The row and operand fields at the program counter, with the length. -/
def fetchFields (s : State) : Res (Encoded × Nat) :=
  fetched (decodeFields s.par.mode s.par.encFma4 (fetchWindow s).1) (fetchWindow s).2

/-- One step on rows and fields; at mnemonic level on the term. -/
def stepFields (s : State) : Host.Outcome State Fault Refusal :=
  if runOver s then .refused .runEnded
  else if s.par.encGk then afterFetch (fun e t => execFields e.form e.fields t) s (fetchFields s)
  else afterFetch exec s (termAt s)

/-- The step on rows and fields is the step on instructions. -/
theorem stepFields_eq (s : State) : stepWith exec s = stepFields s := by
  unfold stepWith stepFields fetch fetchFields decode
  split
  · rfl
  · split
    · cases decodeFields s.par.mode s.par.encFma4 (fetchWindow s).1 with
      | ok e len => simp only [fetched, afterFetch, execFields_eq]
      | ud => rfl
      | refused why => rfl
      | more =>
        match (fetchWindow s).2 with
        | none => rfl
        | some (.fault f) => rfl
        | some (.refused r) => rfl
    · rfl

end Sys2Proof.Machine
end

