-- ==== Sys2Proof/Machine/Step.lean ====
section
/-! DEFINITION. One step of the machine (30_encoding.md R127, 60_exceptions.md R501). -/

namespace Sys2Proof.Machine

/-- One step: the instruction at the program counter is fetched, decoded and executed. -/
noncomputable def step (s : State) : Host.Outcome State Fault Refusal := stepWith exec s

/-- What runs when the step is run (log 28). -/
@[csimp] theorem step_eq_stepFields : @step = @stepFields := funext stepFields_eq

/-- The state with one instruction of the opcode table, `nbits` bits of `w`, loaded as the program at the program counter, and
the rows that `EncFMA4` gates admitted (30_encoding.md R131, R132; log 7). -/
def State.withFetchWord (s : State) (nbits w : Nat) : State :=
  loadProgram { s with par := { s.par with encFma4 := true } } (tableBytes nbits w)

end Sys2Proof.Machine
end

