-- ==== Sys2Proof/Safety.lean ====
section
/-! DEFINITION. How a run ends (60_exceptions.md R518), and the terms in which the statements are made: what it takes for an
instruction's operands to be usable, and what an instruction that completes leaves. -/

namespace Sys2Proof.Machine

/-! ### Runs -/

/-- How a run stands or ends (60_exceptions.md R518). -/
inductive RunEnd where
  /-- Every instruction of the program completed. -/
  | completed (s : State)
  /-- An instruction faulted at this pc. -/
  | faulted (f : Fault) (pc : Addr)
  /-- An instruction was refused at this pc. -/
  | refusedAt (r : Refusal) (pc : Addr)
  /-- The steps allowed were too few. -/
  | unfinished (s : State)
  deriving DecidableEq, Repr

/-- A run of at most `n` steps. -/
def run : Nat → State → RunEnd
  | 0, s => .unfinished s
  | n + 1, s =>
    match step s with
    | .next t => run n t
    | .fault f => .faulted f s.pc
    | .refused .runEnded => .completed s
    | .refused r => .refusedAt r s.pc

/-! ### Usable operands -/

/-- The mode can name the operands, and the ModRM.rm operand reads as `v`, `w` bits at a multiple of `align`. -/
structure Reads (w align : Nat) (s : State) (rs : List Reg) (b : RegMem) (v : BitVec w) : Prop where
  named : rs.all s.par.mode.names = true
  place : regMemNamed s.par.mode b = true
  value : readVecMem w align s b = .ok v

/-- The same for a general register or memory. -/
structure ReadsGpr (w : Nat) (s : State) (rs : List Reg) (b : RegMem) (v : BitVec w) : Prop where
  named : rs.all s.par.mode.names = true
  place : regMemNamed s.par.mode b = true
  value : readGprMem w s b = .ok v

/-- The mode can name the operands, and `n` bytes at the memory operand may be written: the checks of 20_memory.md R83, R85
and R88 pass, none is a byte of the program (R91), and the memory is canonical. -/
structure Stores (n align : Nat) (s : State) (rs : List Reg) (m : MemOp) : Prop where
  named : rs.all s.par.mode.names = true
  place : memOpNamed s.par.mode m = true
  checks : checkAccess s.par.mode (writable s.par) align (effAddr s m) n = .ok ()
  free : (spanOf s.par.mode (effAddr s m) n).any (inProgram s.par) = false
  form : s.mem.wf = true

/-! ### What is left unchanged -/

/-- The frame of an instruction that writes vector register `d`: everything but `d`, MXCSR and pc is as before. -/
structure VecFrame (s t : State) (d : Reg) : Prop where
  ymm : ∀ r, r ≠ d → readYmm t r = readYmm s r
  gpr : ∀ r, readGpr t r = readGpr s r
  flags : t.flags = s.flags
  mem : ∀ a, readByte t a = readByte s a
  par : t.par = s.par
  pc : t.pc = nextPc s

/-- The frame of an instruction that writes general register `d`. -/
structure GprFrame (s t : State) (d : Reg) : Prop where
  ymm : ∀ r, readYmm t r = readYmm s r
  gpr : ∀ r, r ≠ d → readGpr t r = readGpr s r
  flags : t.flags = s.flags
  mem : ∀ a, readByte t a = readByte s a
  par : t.par = s.par
  pc : t.pc = nextPc s

/-- The frame of an instruction that writes memory only, at the addresses `as`. -/
structure MemFrame (s t : State) (as : List Addr) : Prop where
  ymm : ∀ r, readYmm t r = readYmm s r
  gpr : ∀ r, readGpr t r = readGpr s r
  flags : t.flags = s.flags
  mxcsr : t.mxcsr = s.mxcsr
  mem : ∀ a, a ∉ as → readByte t a = readByte s a
  par : t.par = s.par
  pc : t.pc = nextPc s

/-- The frame of an instruction that writes the status flags or MXCSR only. -/
structure ControlFrame (s t : State) : Prop where
  ymm : ∀ r, readYmm t r = readYmm s r
  gpr : ∀ r, readGpr t r = readGpr s r
  mem : ∀ a, readByte t a = readByte s a
  par : t.par = s.par
  pc : t.pc = nextPc s

/-- Bits `n` and above are zero. -/
def ZeroAbove (n : Nat) (x : BitVec 256) : Prop := ∀ j, n ≤ j → x.getLsbD j = false

/-! ### What an instruction does -/

/-- The instruction completes: elements 0 to `k - 1` of `d` are those of `g`, the bits of `d` above them are zero, MXCSR and
everything else is as before. -/
def VecResult (w k : Nat) (i : Instr) (s : State) (d : Reg) (g : Nat → BitVec w) : Prop :=
  ∃ t, exec i s = .next t ∧ (∀ j < k, elem w j (readYmm t d) = g j) ∧ ZeroAbove (w * k) (readYmm t d) ∧
    t.mxcsr = s.mxcsr ∧ VecFrame s t d

/-- The outcome of an instruction that raises the flags `fl` (60_exceptions.md R504): where all of them are masked it
completes with the elements of `g` in `d`, zero above, and the flags joined into MXCSR; where one is unmasked it faults. -/
def NumericOutcome (w k : Nat) (i : Instr) (s : State) (d : Reg) (g : Nat → BitVec w) (fl : FpFlags) : Prop :=
  (unmaskedFlags s fl = 0 →
    ∃ t, exec i s = .next t ∧ (∀ j < k, elem w j (readYmm t d) = g j) ∧ ZeroAbove (w * k) (readYmm t d) ∧
      t.mxcsr = s.mxcsr ||| fl.setWidth 32 ∧ VecFrame s t d) ∧
  (unmaskedFlags s fl ≠ 0 → exec i s = .fault (.xm (unmaskedFlags s fl)))

/-- The same for elements that each bring their flags. -/
def PackedOutcome (w k : Nat) (i : Instr) (s : State) (d : Reg) (g : Nat → BitVec w × FpFlags) : Prop :=
  NumericOutcome w k i s d (fun j => (g j).1) (unionFlags (fun j => (g j).2) k)

/-- The same for a scalar result: element 0 is `r`, the rest of the 128 bits is that of `a`. -/
def ScalarOutcome (w : Nat) (i : Instr) (s : State) (d a : Reg) (r : BitVec w × FpFlags) : Prop :=
  NumericOutcome w (128 / w) i s d (fun j => if j = 0 then r.1 else elem w j (readVec 128 s a)) r.2

/-- The outcome of a conversion to a general register: `x` is the register's new contents. -/
def GprOutcome (i : Instr) (s : State) (d : Reg) (x : BitVec 64) (fl : FpFlags) : Prop :=
  (unmaskedFlags s fl = 0 →
    ∃ t, exec i s = .next t ∧ readGpr t d = x ∧ t.mxcsr = s.mxcsr ||| fl.setWidth 32 ∧ GprFrame s t d) ∧
  (unmaskedFlags s fl ≠ 0 → exec i s = .fault (.xm (unmaskedFlags s fl)))

/-- A general register after a 32-bit write: the upper half is zero in Mode64 (10_state.md R46 d); in Mode32, where it is no
part of the machine, it stays (log 22). -/
def gprAfter32 (s : State) (d : Reg) (x : BitVec 32) : BitVec 64 :=
  match s.par.mode with
  | .mode64 => x.setWidth 64
  | .mode32 => (readGpr s d).extractLsb' 32 32 ++ x

/-- The instruction completes and stores `v` at its memory operand, byte `k` of it `k` bytes on; nothing else changes. -/
def StoreResult (i : Instr) (s : State) (m : MemOp) {n : Nat} (v : BitVec n) : Prop :=
  ∃ t, exec i s = .next t ∧
    (∀ k < n / 8, readByte t (wrap s.par.mode (effAddr s m + BitVec.ofNat 64 k)) = v.extractLsb' (8 * k) 8) ∧
    MemFrame s t (spanOf s.par.mode (effAddr s m) (n / 8))

/-- The instruction completes with ZF and CF as given, the other four status flags cleared, and nothing else changed. -/
def TestResult (i : Instr) (s : State) (zf cf : Bool) : Prop :=
  ∃ t, exec i s = .next t ∧ t.flags = { cf := cf, pf := false, af := false, zf := zf, sf := false, of := false } ∧
    t.mxcsr = s.mxcsr ∧ ControlFrame s t

/-- The result of a legacy form: elements 0 to `k - 1` of `d` are those of `g`, bits 255:128 of `d` are as before
(10_state.md R46 c). -/
def LegacyResult (w k : Nat) (i : Instr) (s : State) (d : Reg) (g : Nat → BitVec w) : Prop :=
  ∃ t, exec i s = .next t ∧ (∀ j < k, elem w j (readYmm t d) = g j) ∧
    elem 128 1 (readYmm t d) = elem 128 1 (readYmm s d) ∧ t.mxcsr = s.mxcsr ∧ VecFrame s t d

/-! ### Invariants -/

/-- What every step keeps: memory in canonical form, the reserved bits of MXCSR zero (10_state.md R49 d), pc within the address
width of the mode (R51). -/
structure Inv (s : State) : Prop where
  mem : s.mem.wf = true
  mxcsr : s.mxcsr.extractLsb' 16 16 = 0
  pc : wrap s.par.mode s.pc = s.pc

/-! ### Exact numbers -/

/-- The value of a finite pattern (05_numerics.md R562). -/
noncomputable def value {F : Fmt} (x : BitVec F.width) : ℝ :=
  (if signOf x then -1 else 1) *
    (if expOf x = 0 then (fracOf x : ℝ) * 2 ^ (F.emin - F.frac)
     else (1 + (fracOf x : ℝ) / 2 ^ F.frac) * 2 ^ ((expOf x : Int) - F.bias))

/-- The value of a pattern that is no NaN, the infinities with it (05_numerics.md R562, R572). -/
noncomputable def extValue {F : Fmt} (x : BitVec F.width) : EReal :=
  if isInf x then (if signOf x then ⊥ else ⊤) else (value x : EReal)

/-- `rint(q, s, rc)` of an exact number (05_numerics.md R565). -/
noncomputable def exactRint (q : ℝ) (s : Bool) (rc : BitVec 2) : Int × Bool :=
  let t := ⌊q⌋
  let r := q - t
  if r = 0 then (t, false)
  else if rc = 0 then (if 1 / 2 < r ∨ (r = 1 / 2 ∧ t % 2 = 1) then t + 1 else t, true)
  else if rc = 1 then (if s then t + 1 else t, true)
  else if rc = 2 then (if s then t else t + 1, true)
  else (t, true)

/-- `round_pack(fmt, ctl, s, m)` of an exact positive number (05_numerics.md R566). -/
noncomputable def exactRound (F : Fmt) (c : Ctl) (s : Bool) (m : ℝ) : BitVec F.width × FpFlags :=
  let e0 := Int.log 2 m
  let r := exactRint (m / 2 ^ (e0 - F.frac)) s c.rc
  let n := if r.1 = 2 ^ (F.frac + 1) then 2 ^ F.frac else r.1
  let e := if r.1 = 2 ^ (F.frac + 1) then e0 + 1 else e0
  if (F.bias : Int) < e then
    (if c.rc = 0 ∨ (c.rc = 1 ∧ s = true) ∨ (c.rc = 2 ∧ s = false) then infOf F s else maxFinite F s, flOE ||| flPE)
  else if e < F.emin then
    if c.fz then (zeroOf F s, flUE ||| flPE)
    else
      let r2 := exactRint (m / 2 ^ (F.emin - F.frac)) s c.rc
      (pack F s 0 r2.1.toNat, if r2.2 then flUE ||| flPE else 0)
  else (pack F s (e + F.bias).toNat (n - 2 ^ F.frac).toNat, flagIf r.2 flPE)

/-- An integer clamped to a range (00_scope.md R16). -/
def clamp (lo hi v : Int) : Int := max lo (min hi v)

/-- `k • a` for `k` below 16 (42_aes.md R210). -/
def gfMul (k : Nat) (a : Byte) : Byte :=
  (if k.testBit 0 then a else 0) ^^^ (if k.testBit 1 then xt a else 0) ^^^ (if k.testBit 2 then xt (xt a) else 0) ^^^
    (if k.testBit 3 then xt (xt (xt a)) else 0)

end Sys2Proof.Machine
end

