-- ==== Sys2Proof/Certificates/Slice0/Obligations.lean ====
section
/-! DEFINITION. The statements about the model, for the provers. -/

open Sys2Proof Sys2Proof.Machine

/-- A step runs the instruction that the bytes at pc decode to, or at mnemonic level the term with index pc. With
EncGK, where the run is not over and the bytes at the program counter decode to the instruction i of length len, the
step is exec of i in the state whose length field is len. The length field is the model's own (log 23); pc is advanced
by exec itself, and nothing else is added around it. Without EncGK the program is a list of terms and pc the index of
the next: the step is exec of that term with length 1; which address forms a term may have is the choice of log 29.
[30_encoding.md R111; 30_encoding.md R112; 30_encoding.md R127; 10_state.md R51; 60_exceptions.md R501] -/
def Obligations.StepRunsDecodedInstruction : Prop :=
  (∀ (s : State) (i : Instr) (len : Nat), s.par.encGk = true → runOver s = false →
    decode s.par.mode s.par.encFma4 (fetchWindow s).1 = .ok i len → step s = exec i { s with length := len }) ∧
  (∀ (s : State) (i : Instr), s.par.encGk = false → s.par.terms[s.pc.toNat]? = some i → i.termOk = true →
    step s = exec i { s with length := 1 })

/-- An instruction placed in memory at pc is the one the step runs. With EncGK, where the run is not over, the bytes
from the program counter on can be fetched and are those of encode i, and i is an instruction the mode can encode
(with EncFMA4 on if its row asks for it), the step is exec of i with its encoded length, whatever follows it in
memory. [30_encoding.md R127; 30_encoding.md R113; 30_encoding.md R131; 10_state.md R51; 20_memory.md R81] -/
def Obligations.StepRunsEncodedInstruction : Prop :=
  ∀ (s : State) (i : Instr), s.par.encGk = true → runOver s = false → i.wf s.par.mode = true →
    (i.form.row.gated = true → s.par.encFma4 = true) →
    (∀ k, ∀ h : k < (encode i).length, fetchInside s k = true ∧ mapped s.par (fetchAddr s k) = true ∧
      readByte s (fetchAddr s k) = (encode i)[k]) →
    step s = exec i { s with length := (encode i).length }

/-- Decoding the encoding of a well-formed instruction gives it back, for every instruction and operand. For both
modes, every instruction of the opcode table that the mode can encode, with every operand, and any bytes after it: the
decoder answers that instruction and its length. The FMA and VPERMIL2 rows need EncFMA4. [30_encoding.md R113;
30_encoding.md R114; 30_encoding.md R119; 30_encoding.md R121; 30_encoding.md R122; 30_encoding.md R123;
30_encoding.md R125; 30_encoding.md R127; 30_encoding.md R130; 30_encoding.md R131] -/
def Obligations.DecodeOfEncode : Prop :=
  ∀ (m : Mode) (fma4 : Bool) (i : Instr) (rest : List Byte), i.wf m = true →
    (i.form.row.gated = true → fma4 = true) → decode m fma4 (encode i ++ rest) = .ok i (encode i).length

/-- Eight byte sequences written out from the encoding rules decode to the instructions they stand for. VADDPS xmm1,
xmm2, xmm3 in its two-byte form; VADDPD ymm9, ymm10, [r11+r12*4+16]; VZEROALL; VPSLLDQ xmm5, xmm6, 4; VBLENDVPS xmm1,
xmm2, xmm3, xmm4; VSTMXCSR [rax]; AESENC xmm8, xmm1 with a REX byte; VFMADDPD xmm1, xmm2, xmm3, xmm4. The bytes are
laid out by hand from the prefix formats, ModRM and SIB fields and the rows of the opcode table. [30_encoding.md R113;
30_encoding.md R121; 30_encoding.md R122; 30_encoding.md R124; 30_encoding.md R125; 30_encoding.md R130] -/
def Obligations.SpecWordsDecode : Prop :=
  decode .mode64 false [0xC5, 0xE8, 0x58, 0xCB] = .ok (.vaddpsX 1 2 (.reg 3)) 4 ∧
  decode .mode64 false [0xC4, 0x01, 0x2D, 0x58, 0x4C, 0xA3, 0x10] =
    .ok (.vaddpdY 9 10 (.mem (.sib 11 2 (some 12) (.d8 16)))) 7 ∧
  decode .mode32 false [0xC5, 0xFC, 0x77] = .ok .vzeroall 3 ∧
  decode .mode32 false [0xC5, 0xD1, 0x73, 0xFE, 0x04] = .ok (.vpslldq 5 6 4) 5 ∧
  decode .mode64 false [0xC4, 0xE3, 0x69, 0x4A, 0xCB, 0x40] = .ok (.vblendvpsX 1 2 (.reg 3) 4) 6 ∧
  decode .mode64 false [0xC5, 0xF8, 0xAE, 0x18] = .ok (.vstmxcsr (.base 0 .none)) 4 ∧
  decode .mode64 false [0x66, 0x44, 0x0F, 0x38, 0xDC, 0xC1] = .ok (.aesenc 8 (.reg 1)) 6 ∧
  decode .mode64 true [0xC4, 0xE3, 0x69, 0x69, 0xCB, 0x40] = .ok (.vfmaddpdX 1 2 (.reg 3) 4) 6

/-- A two-byte prefix and the three-byte prefix with the same values denote the same instruction. For every mode and
every bytes: C5 followed by a byte c denotes an instruction of some length exactly when C4, the byte with the R bit of
c, X and B stored 1 and map 0F, and the byte with W = 0 and the other seven bits of c denote the same instruction, one
byte longer. [30_encoding.md R113] -/
def Obligations.ShortAndLongPrefixAgree : Prop :=
  ∀ (m : Mode) (fma4 : Bool) (c : Byte) (rest : List Byte) (i : Instr) (len : Nat),
    decode m fma4 (0xC5 :: c :: rest) = .ok i len ↔
      decode m fma4 (0xC4 :: (c.extractLsb' 7 1 ++ (0b1100001 : BitVec 7) : Byte) ::
        ((0 : BitVec 1) ++ c.extractLsb' 0 7 : Byte) :: rest) = .ok i (len + 1)

/-- Cases (a), (b), (c), (d), (e) and (f) of the illegal encodings decode to UD. (a) F0, 66, F2, F3 or, in Mode64, a
REX byte before bytes that begin a VEX prefix; (b) the encoding of an instruction without a V operand, with a register
in vvvv (of a number the mode can hold); (c) its W bit set in a row marked W0 without a W1 row of the same map, opcode
and pp; (d) the wrong kind of ModRM.rm operand in the rows that a memory or register operand alone selects, other than
VBROADCASTSS and VBROADCASTSD; (e) L = 1 in VLDMXCSR and VSTMXCSR, and L = 0 in the rows whose opcode has only L =
256; (f) in Mode64, a map field other than 1, 2 and 3. In each case the decoder answers UD whatever bytes follow.
[30_encoding.md R126; 60_exceptions.md R502] -/
def Obligations.IllegalEncodingsAreUd : Prop :=
  (∀ (m : Mode) (fma4 : Bool) (p : Byte) (bs : List Byte), startsVex m bs = some true →
    (p = 0xF0 ∨ p = 0x66 ∨ p = 0xF2 ∨ p = 0xF3 ∨ (m = .mode64 ∧ p.extractLsb' 4 4 = 4)) →
    decode m fma4 (p :: bs) = .ud) ∧
  (∀ (m : Mode) (fma4 : Bool) (i : Instr) (v : Reg) (rest : List Byte), i.wf m = true →
    i.form.row.enc.usesV = false → i.form.row.len ≠ .leg → m.names v = true → v ≠ 0 →
    decode m fma4 (encodeRow i.form.row { i.operands with v := v } ++ rest) = .ud) ∧
  (∀ (m : Mode) (fma4 : Bool) (i : Instr) (rest : List Byte), i.wf m = true → (i.form.row.gated = true → fma4 = true) →
    i.form.row.w = .w0 →
    (∀ f : Form, f.row.map = i.form.row.map → f.row.op = i.form.row.op → f.row.pp = i.form.row.pp → f.row.w ≠ .w1) →
    decode m fma4 (encodeRow { i.form.row with w := .w1 } i.operands ++ rest) = .ud) ∧
  (∀ (m : Mode) (fma4 : Bool) (f : Form) (d a b : Reg) (mem : MemOp) (rest : List Byte),
    m.names d = true → m.names a = true → m.names b = true → mem.wf m = true →
    (f ∈ [Form.vmovmskpsX, .vmovmskpsY, .vmovmskpdX, .vmovmskpdY, .vpsrlwImm, .vpsrawImm, .vpsllwImm, .vpsrldImm, .vpsradImm,
        .vpslldImm, .vpsrlqImm, .vpsrldq, .vpsllqImm, .vpslldq] →
      decode m fma4 (encodeRow f.row
        { reg := d, v := if f.row.enc.usesV then a else 0, rm := .mem mem } ++ rest) = .ud) ∧
    (f ∈ [Form.vmovlpdLoad, .vmovhpdLoad, .vmovlpsStore, .vmovlpdStore, .vmovhpsStore, .vmovhpdStore, .vlddquX, .vlddquY,
        .vbroadcastf128, .vmaskmovpsXLoad, .vmaskmovpsYLoad, .vmaskmovpdXLoad, .vmaskmovpdYLoad, .vmaskmovpsXStore,
        .vmaskmovpsYStore, .vmaskmovpdXStore, .vmaskmovpdYStore, .vldmxcsr, .vstmxcsr] →
      decode m fma4 (encodeRow f.row
        { reg := d, v := if f.row.enc.usesV then a else 0, rm := .reg b } ++ rest) = .ud)) ∧
  (∀ (m : Mode) (fma4 : Bool) (i : Instr) (rest : List Byte), i.wf m = true →
    (i.form ∈ [Form.vldmxcsr, .vstmxcsr] →
      decode m fma4 (encodeRow { i.form.row with len := .l256 } i.operands ++ rest) = .ud) ∧
    (i.form ∈ [Form.vbroadcastsd, .vbroadcastf128, .vextractf128, .vinsertf128, .vperm2f128] →
      decode m fma4 (encodeRow { i.form.row with len := .l128 } i.operands ++ rest) = .ud)) ∧
  (∀ (fma4 : Bool) (c1 c2 : Byte) (rest : List Byte), c1.extractLsb' 0 5 ≠ 1 → c1.extractLsb' 0 5 ≠ 2 →
    c1.extractLsb' 0 5 ≠ 3 → decode .mode64 fma4 (0xC4 :: c1 :: c2 :: rest) = .ud)

/-- Reserved and gated encodings are refused: L = 1 of a 128-bit opcode, register broadcasts, FMA4 rows. Cases (h) and
(j) of the encoding outcomes: the encoding of an instruction whose opcode is listed only with L = 128, with L = 1
instead, is refused as a reserved length (for the half moves this is the choice of log 16); VBROADCASTSS and
VBROADCASTSD with a register source are refused; and every row of the FMA and VPERMIL2 families is refused while
EncFMA4 is false. [30_encoding.md R126; 30_encoding.md R131; 90_conflicts.md C4] -/
def Obligations.ReservedEncodingsAreRefused : Prop :=
  (∀ (m : Mode) (fma4 : Bool) (i : Instr) (rest : List Byte), i.wf m = true → i.form.row.len = .l128 →
    (i.form.row.gated = true → fma4 = true) →
    (∀ f : Form, f.row.map = i.form.row.map → f.row.op = i.form.row.op → f.row.pp = i.form.row.pp →
      f.row.len = .l128 ∨ f.row.len = .leg) →
    decode m fma4 (encodeRow { i.form.row with len := .l256 } i.operands ++ rest) = .refused .lengthReserved) ∧
  (∀ (m : Mode) (fma4 : Bool) (d b : Reg) (rest : List Byte), m.names d = true → m.names b = true →
    ∀ f ∈ [Form.vbroadcastssX, .vbroadcastssY, .vbroadcastsd],
      decode m fma4 (encodeRow f.row { reg := d, rm := .reg b } ++ rest) = .refused .registerBroadcast) ∧
  (∀ (m : Mode) (i : Instr) (rest : List Byte), i.wf m = true → i.form.row.gated = true →
    decode m false (encode i ++ rest) = .refused .fmaGated)

/-- Whatever bytes decode to an instruction, the mode can name its operands, and its length is 3 to 12 bytes. For
every mode and every bytes: an instruction the decoder answers is well-formed in that mode (in Mode32 every register
is 0 to 7 and no 64-bit general register occurs), was admitted by EncFMA4 if its row asks for it, and its length is at
least 3, at most 12 and at most the number of bytes given. [10_state.md R41; 10_state.md R50; 30_encoding.md R118;
30_encoding.md R127; 30_encoding.md R131] -/
def Obligations.DecodedInstructionsAreWellFormed : Prop :=
  ∀ (m : Mode) (fma4 : Bool) (bs : List Byte) (i : Instr) (len : Nat), decode m fma4 bs = .ok i len →
    i.wf m = true ∧ (i.form.row.gated = true → fma4 = true) ∧ 3 ≤ len ∧ len ≤ 12 ∧ len ≤ bs.length

/-- The state after reset meets the invariant that every step keeps. Memory in canonical form, the reserved bits of
MXCSR zero, pc within the address width of the mode. MXCSR is 00001F80, the default the spec offers; the other reset
values are the model's choice (log 1 to 7). [10_state.md R48; 10_state.md R60; 70_reset_and_hazards.md R540] -/
def Obligations.ResetMeetsInvariant : Prop :=
  Inv State.reset ∧ State.reset.mxcsr = 0x00001F80

/-- Every step keeps the invariant: canonical memory, reserved MXCSR bits zero, pc within the address width. From
every state that meets the invariant, reached or not, a step that answers a next state leaves one that meets it: the
memory stays in its one canonical form, bits 31:16 of MXCSR stay zero, pc stays below 2 to the address width of the
mode. [10_state.md R49; 10_state.md R51; 20_memory.md R82] -/
def Obligations.StepKeepsInvariant : Prop :=
  ∀ s t : State, Inv s → step s = .next t → Inv t

/-- A step raises no fault but UD, GP(0), PF and XM, UD exactly at decode, XM only unmasked flags. From every state: a
fault of a step is UD, GP(0), PF(a) or XM with a non-empty set of flags none of which MXCSR masks; NM, SS(0) and AC(0)
never occur. UD is raised exactly when the run is not over, EncGK is on and the bytes at pc decode to it, before any
operand is read. Where all six flags are masked XM does not occur. [60_exceptions.md R502; 60_exceptions.md R503;
60_exceptions.md R504; 60_exceptions.md R506] -/
def Obligations.StepRaisesOnlyListedFaults : Prop :=
  ∀ s : State,
    (∀ f, step s = .fault f → f = .ud ∨ f = .gp0 ∨ (∃ a, f = .pf a) ∨
      ∃ u, f = .xm u ∧ u ≠ 0 ∧ u &&& fpMasks s = 0) ∧
    (step s = .fault .ud ↔
      s.par.encGk = true ∧ runOver s = false ∧ decode s.par.mode s.par.encFma4 (fetchWindow s).1 = .ud) ∧
    (fpMasks s = 0x3F → ∀ u, step s ≠ .fault (.xm u))

/-- What an instruction may change, over all instructions: flags, MXCSR, general registers, memory, parameters. For
every instruction and state with a next state: the status flags change only in VPTEST, VTESTPS and VTESTPD, which
clear PF, AF, SF and OF; only VLDMXCSR clears a bit of MXCSR or changes one above bit 5; a general register changes
only in the conversions to an integer and the sign-mask moves; a byte of memory changes only in the store forms; the
parameters of the run never change; pc becomes the address of the following instruction. [10_state.md R49; 10_state.md
R50; 10_state.md R51; 10_state.md R52; 00_scope.md R10] -/
def Obligations.OnlyNamedInstructionsWriteEachState : Prop :=
  ∀ (i : Instr) (s t : State), exec i s = .next t →
    (t.flags = s.flags ∨
      (i.form ∈ [Form.vptestX, .vptestY, .vtestpsX, .vtestpsY, .vtestpdX, .vtestpdY] ∧
        t.flags.pf = false ∧ t.flags.af = false ∧ t.flags.sf = false ∧ t.flags.of = false)) ∧
    (i.form = .vldmxcsr ∨ (s.mxcsr &&& t.mxcsr = s.mxcsr ∧ t.mxcsr >>> 6 = s.mxcsr >>> 6)) ∧
    ((∀ r, readGpr t r = readGpr s r) ∨
      i.form ∈ [Form.vcvtsd2siR32, .vcvtsd2siR64, .vcvttsd2siR32, .vcvttsd2siR64, .vcvtss2siR32, .vcvtss2siR64,
        .vcvttss2siR32, .vcvttss2siR64, .vmovmskpsX, .vmovmskpsY, .vmovmskpdX, .vmovmskpdY]) ∧
    ((∀ a, readByte t a = readByte s a) ∨
      i.form ∈ [Form.vmovupsXStore, .vmovupsYStore, .vmovupdXStore, .vmovupdYStore, .vmovapsXStore, .vmovapsYStore,
        .vmovapdXStore, .vmovapdYStore, .vmovdqaXStore, .vmovdqaYStore, .vmovdquXStore, .vmovdquYStore, .vmovssStore,
        .vmovsdStore, .vmovlpsStore, .vmovlpdStore, .vmovhpsStore, .vmovhpdStore, .vextractf128, .vmaskmovpsXStore,
        .vmaskmovpsYStore, .vmaskmovpdXStore, .vmaskmovpdYStore, .vstmxcsr]) ∧
    t.par = s.par ∧ t.pc = nextPc s

/-- An instruction that completes sets pc to pc plus the length of its encoding, modulo 2^32 in Mode32. Where a step
answers a next state, the bytes at pc decoded to an instruction of some length, or at mnemonic level (EncGK off) the
term with index pc was the instruction, of length 1; the new pc, as a number, is the old plus that length modulo 2^32
in Mode32 and modulo 2^64 in Mode64, where the fetch never crosses the top of the address space, so that only pc +
length = 2^64 is reduced, to 0 (the choice of log 33); and in Mode32 no register numbered 8 to 15 has changed.
[10_state.md R51; 60_exceptions.md R512; 00_scope.md R9] -/
def Obligations.StepAdvancesByTheEncodedLength : Prop :=
  ∀ s t : State, step s = .next t →
    ∃ i len, (s.par.encGk = true → decode s.par.mode s.par.encFma4 (fetchWindow s).1 = .ok i len) ∧
      (s.par.encGk = false → s.par.terms[s.pc.toNat]? = some i ∧ len = 1) ∧
      t.pc.toNat = (s.pc.toNat + len) % (match s.par.mode with | .mode32 => 2 ^ 32 | .mode64 => 2 ^ 64) ∧
      (s.par.mode = .mode32 → ∀ r : Reg, 8 ≤ r.val → readYmm t r = readYmm s r ∧ readGpr t r = readGpr s r)

/-- A step changes only bytes of memory that are writable and no part of the program. From every state, whatever the
instruction: a byte of memory that differs after a step lies in writable memory and is none of the bytes of the
program. [20_memory.md R87; 20_memory.md R88; 20_memory.md R91] -/
def Obligations.StepWritesOnlyWritableBytes : Prop :=
  ∀ (s t : State) (a : Addr), step s = .next t → readByte t a ≠ readByte s a →
    writable s.par a = true ∧ inProgram s.par a = false

/-- The checks of an access: canonical address, then alignment, then the map, with the lowest failing byte. For an
access of n bytes at a under a map predicate ok: a non-canonical address in Mode64 (bits 63:47 not all equal) gives
GP(0); then an address that is no multiple of the required alignment gives GP(0); then, if some byte of the access
fails the map, PF with the numerically lowest such byte; else the access passes. That a wrapped access reports the
numerically lowest byte is the choice of log 21. [60_exceptions.md R511; 20_memory.md R83; 20_memory.md R85;
20_memory.md R88] -/
def Obligations.AccessChecksInOrder : Prop :=
  ∀ (m : Mode) (ok : Addr → Bool) (align n : Nat) (a : Addr),
    let badAddress := m = .mode64 ∧ ∃ j, 47 ≤ j ∧ j < 64 ∧ a.getLsbD j ≠ a.getLsbD 63
    (badAddress → checkAccess m ok align a n = .error (.fault .gp0)) ∧
    (¬ badAddress → a.toNat % align ≠ 0 → checkAccess m ok align a n = .error (.fault .gp0)) ∧
    (¬ badAddress → a.toNat % align = 0 → (∃ x ∈ spanOf m a n, ok x = false) →
      ∃ x ∈ spanOf m a n, ok x = false ∧ (∀ y ∈ spanOf m a n, ok y = false → x.toNat ≤ y.toNat) ∧
        checkAccess m ok align a n = .error (.fault (.pf x))) ∧
    (¬ badAddress → a.toNat % align = 0 → (∀ x ∈ spanOf m a n, ok x = true) → checkAccess m ok align a n = .ok ())

/-- A load gives the bytes of memory and a store puts them there, the least significant at the lowest address. A load
of w bits, w a multiple of 8, that passes its checks gives a value whose byte k is the byte at address a + k; a store
of w bits, up to 2^32, in a canonical memory leaves byte k of its value at a + k, every other byte of memory as it
was, and nothing else changed. Addresses are taken modulo the address width. [20_memory.md R81; 20_memory.md R82;
20_memory.md R88; 20_memory.md R89] -/
def Obligations.LoadsAndStoresAreLittleEndian : Prop :=
  (∀ (s : State) (a : Addr) (w align : Nat) (v : BitVec w), w % 8 = 0 → load s a w align = .ok v →
    ∀ k < w / 8, v.extractLsb' (8 * k) 8 = readByte s (wrap s.par.mode (a + BitVec.ofNat 64 k))) ∧
  (∀ (s t : State) (a : Addr) (w align : Nat) (v : BitVec w), w % 8 = 0 → w ≤ 2 ^ 32 → s.mem.wf = true →
    store s a align v = .ok t →
    (∀ k < w / 8, readByte t (wrap s.par.mode (a + BitVec.ofNat 64 k)) = v.extractLsb' (8 * k) 8) ∧
    (∀ b, b ∉ spanOf s.par.mode a (w / 8) → readByte t b = readByte s b) ∧ t.mem.wf = true ∧
    t = { s with mem := t.mem })

/-- The effective address is base + index * scale + disp modulo 2^32 or 2^64, RIP-relative in Mode64. As numbers, for
every addressing form: the registers, the index times 2^scale and the sign-extended displacement are summed and
reduced modulo 2^32 in Mode32, 2^64 in Mode64; a SIB form may lack index or base; the RIP form adds the displacement
to the address of the following instruction. An address given directly is itself, reduced in the same way (an address
outside the width is refused, log 24). Register 4 cannot be an index: the mode names no operand that has it as one
(log 29). [20_memory.md R83; 30_encoding.md R121; 30_encoding.md R122; 30_encoding.md R123] -/
def Obligations.EffectiveAddress : Prop :=
  ∀ (s : State) (a : Addr) (b i : Reg) (sc : BitVec 2) (d8 : BitVec 8) (d32 : BitVec 32),
    let M : Int := match s.par.mode with | .mode32 => 2 ^ 32 | .mode64 => 2 ^ 64
    let ea := fun m => ((effAddr s m).toNat : Int)
    let g := fun r => ((readGpr s r).toNat : Int)
    ea (.direct a) = a.toNat % M ∧
    ea (.base b .none) = g b % M ∧ ea (.base b (.d8 d8)) = (g b + d8.toInt) % M ∧
    ea (.base b (.d32 d32)) = (g b + d32.toInt) % M ∧
    ea (.sib b sc (some i) .none) = (g b + g i * 2 ^ sc.toNat) % M ∧
    ea (.sib b sc (some i) (.d8 d8)) = (g b + g i * 2 ^ sc.toNat + d8.toInt) % M ∧
    ea (.sib b sc (some i) (.d32 d32)) = (g b + g i * 2 ^ sc.toNat + d32.toInt) % M ∧
    ea (.sib b sc none .none) = g b % M ∧ ea (.sib b sc none (.d8 d8)) = (g b + d8.toInt) % M ∧
    ea (.sib b sc none (.d32 d32)) = (g b + d32.toInt) % M ∧
    ea (.sibNoBase sc (some i) d32) = (g i * 2 ^ sc.toNat + d32.toInt) % M ∧
    ea (.sibNoBase sc none d32) = d32.toInt % M ∧ ea (.abs d32) = d32.toInt % M ∧
    ea (.rip d32) = (s.pc.toNat + s.length + d32.toInt) % M ∧
    ∀ d, memOpNamed s.par.mode (.sib b sc (some 4) d) = false ∧ memOpNamed s.par.mode (.sibNoBase sc (some 4) d32) = false

/-- A misaligned memory operand of an aligned move or a legacy AES or PCLMULQDQ form ends in GP(0). For each aligned
move, load and store, of 16 or 32 bytes, and each of the seven legacy forms (16 bytes), with operands the mode can
name: a canonical effective address that is no multiple of the operand size ends in GP(0), mapped or not.
[20_memory.md R85; 60_exceptions.md R503; 60_exceptions.md R511] -/
def Obligations.MisalignedOperandsFault : Prop :=
  ∀ (s : State) (d : Reg) (m : MemOp) (imm : BitVec 8), s.par.mode.names d = true → memOpNamed s.par.mode m = true →
    addressOk s.par.mode (effAddr s m) = true →
    ((effAddr s m).toNat % 16 ≠ 0 →
      ∀ i ∈ [Instr.vmovapsX d (.mem m), .vmovapdX d (.mem m), .vmovdqaX d (.mem m), .vmovapsXStore (.mem m) d,
          .vmovapdXStore (.mem m) d, .vmovdqaXStore (.mem m) d, .aesenc d (.mem m), .aesenclast d (.mem m),
          .aesdec d (.mem m), .aesdeclast d (.mem m), .aesimc d (.mem m), .aeskeygenassist d (.mem m) imm,
          .pclmulqdq d (.mem m) imm], exec i s = .fault .gp0) ∧
    ((effAddr s m).toNat % 32 ≠ 0 →
      ∀ i ∈ [Instr.vmovapsY d (.mem m), .vmovapdY d (.mem m), .vmovdqaY d (.mem m), .vmovapsYStore (.mem m) d,
          .vmovapdYStore (.mem m) d, .vmovdqaYStore (.mem m) d], exec i s = .fault .gp0)

/-- rint rounds an exact quotient to an integer by the four directions, with ties to even. For every numerator and
positive denominator, sign and rounding direction, the model's integer rounding of their quotient q answers the rule's
integer and its inexactness: with t the floor of q and r = q - t, t and exact where r = 0; else inexact, and by
direction the nearest with ties to the even t, or t or t + 1 by the sign, or t. [05_numerics.md R565] -/
def Obligations.RoundingToAnInteger : Prop :=
  ∀ (num den : Nat) (s : Bool) (rc : BitVec 2), 0 < den →
    let q : ℝ := num / den
    let t := ⌊q⌋
    let r := q - t
    let n : Int := (rint num den s rc).1
    ((rint num den s rc).2 = true ↔ r ≠ 0) ∧
    (r = 0 → n = t) ∧
    (r ≠ 0 → (rc = 0 → n = if 1 / 2 < r ∨ (r = 1 / 2 ∧ t % 2 = 1) then t + 1 else t) ∧
      (rc = 1 → n = if s then t + 1 else t) ∧ (rc = 2 → n = if s then t else t + 1) ∧ (rc = 3 → n = t))

/-- round_pack gives the exact rational magnitude rounded once, with overflow, tiny results and their flags. For both
formats, every control input, sign and exact positive magnitude num/den * 2^exp, the model's integer computation of
round_pack is the rule's computation on the exact number (exactRound): the exponent e with 2^e <= m < 2^(e+1), the
significand rounded by rint, the carry to the next exponent, overflow to infinity or the largest finite number by
direction and sign, results tiny after rounding as denormals or, under FZ, zeros, and the flags of each case.
[05_numerics.md R566] -/
def Obligations.RoundingAndPacking : Prop :=
  (∀ (F : Fmt) (c : Ctl) (s : Bool) (g : Mag), 0 < g.num → 0 < g.den →
    roundPack F c s g = exactRound F c s ((g.num : ℝ) / g.den * 2 ^ g.exp)) ∧
  (∀ m : ℝ, 0 < m → (2 : ℝ) ^ Int.log 2 m ≤ m ∧ m < 2 ^ (Int.log 2 m + 1))

/-- A NaN operand of an addition, subtraction, multiplication or division gives the first NaN, quieted. Where the
first or the second operand of fadd, fsub, fmul or fdiv is a NaN, the result is the first operand quieted if that is a
NaN, else the second quieted; the flags are IE alone if either operand is a signalling NaN, else none, so that no
denormal flag is reported. [05_numerics.md R567] -/
def Obligations.NaNOperandsOfArithmetic : Prop :=
  ∀ (F : Fmt) (c : Ctl) (a b : BitVec F.width), isNaN a = true ∨ isNaN b = true →
    ∀ f ∈ [fadd F, fsub F, fmul F, fdiv F],
      (isNaN a = true → (f c a b).1 = quiet a) ∧ (isNaN a = false → (f c a b).1 = quiet b) ∧
      (f c a b).2 = if isSNaN a || isSNaN b then flIE else 0

/-- fadd and fsub give the exact sum or difference rounded once, with the rule's infinities, zeros and flags. After
denormals are replaced under DAZ, for operands that are no NaN, with the sign of the second inverted for fsub:
infinities of opposite sign give Indef and IE; else an infinity gives that infinity; else, with r the exact sum of the
values, r = 0 gives a zero of the common sign of two zeros of one effective sign and otherwise negative exactly when
RC is 1; else r rounded and packed. DE joins the flags of all but the first case when an operand is a denormal. NaN
operands give nan2. [05_numerics.md R568] -/
def Obligations.AdditionAndSubtraction : Prop :=
  ∀ (F : Fmt) (c : Ctl) (a0 b0 : BitVec F.width) (sub : Bool),
    let a := daz c a0
    let b := daz c b0
    let op := if sub then fsub F c a0 b0 else fadd F c a0 b0
    let sb := signOf b != sub
    let r : ℝ := if sub then value a - value b else value a + value b
    let de := if isDenormal a || isDenormal b then flDE else 0
    (isNaN a = true ∨ isNaN b = true → op = nan2 a b) ∧
    (isNaN a = false → isNaN b = false →
      (isInf a = true → isInf b = true → signOf a ≠ sb → op = (indef F, flIE)) ∧
      (isInf a = true → (isInf b = true → signOf a = sb) → op = (infOf F (signOf a), de)) ∧
      (isInf a = false → isInf b = true → op = (infOf F sb, de)) ∧
      (isInf a = false → isInf b = false →
        (r = 0 → op = (zeroOf F
          (if isZero a = true ∧ isZero b = true ∧ signOf a = sb then sb else decide (c.rc = 1)), de)) ∧
        (r ≠ 0 → op = ((exactRound F c (decide (r < 0)) |r|).1, (exactRound F c (decide (r < 0)) |r|).2 ||| de))))

/-- fmul and fdiv give the exact product or quotient rounded once, with the rules' infinities, zeros and flags. After
denormals are replaced under DAZ, with s the exclusive or of the signs and DE in the flags where an operand is a
denormal: NaN operands give nan2. fmul: infinity times zero gives Indef and IE; else an infinity the infinity of sign
s; a zero the zero of sign s; else the exact product of the values, rounded and packed. fdiv: infinity by infinity and
zero by zero give Indef and IE; an infinite dividend infinity; an infinite divisor zero; a zero divisor infinity and
ZE; a zero dividend zero; else the exact quotient, rounded and packed. [05_numerics.md R569; 05_numerics.md R570] -/
def Obligations.MultiplicationAndDivision : Prop :=
  ∀ (F : Fmt) (c : Ctl) (a0 b0 : BitVec F.width),
    let a := daz c a0
    let b := daz c b0
    let s := signOf a != signOf b
    let de := if isDenormal a || isDenormal b then flDE else 0
    let rnd := fun r : ℝ => ((exactRound F c s |r|).1, (exactRound F c s |r|).2 ||| de)
    (isNaN a = true ∨ isNaN b = true → fmul F c a0 b0 = nan2 a b ∧ fdiv F c a0 b0 = nan2 a b) ∧
    (isNaN a = false → isNaN b = false →
      ((isInf a = true ∧ isZero b = true) ∨ (isZero a = true ∧ isInf b = true) → fmul F c a0 b0 = (indef F, flIE)) ∧
      ((isInf a = true ∧ isZero b = false) ∨ (isInf b = true ∧ isZero a = false) →
        fmul F c a0 b0 = (infOf F s, de)) ∧
      (isInf a = false → isInf b = false → isZero a = true ∨ isZero b = true → fmul F c a0 b0 = (zeroOf F s, de)) ∧
      (isInf a = false → isInf b = false → isZero a = false → isZero b = false →
        fmul F c a0 b0 = rnd (value a * value b)) ∧
      ((isInf a = true ∧ isInf b = true) ∨ (isZero a = true ∧ isZero b = true) →
        fdiv F c a0 b0 = (indef F, flIE)) ∧
      (isInf a = true → isInf b = false → fdiv F c a0 b0 = (infOf F s, de)) ∧
      (isInf a = false → isInf b = true → fdiv F c a0 b0 = (zeroOf F s, de)) ∧
      (isInf a = false → isZero a = false → isZero b = true → fdiv F c a0 b0 = (infOf F s, de ||| flZE)) ∧
      (isZero a = true → isZero b = false → isInf b = false → fdiv F c a0 b0 = (zeroOf F s, de)) ∧
      (isInf a = false → isInf b = false → isZero a = false → isZero b = false →
        fdiv F c a0 b0 = rnd (value a / value b)))

/-- fsqrt gives the exact real square root rounded once, and the rule's answers for NaN, zeros, negatives, infinity.
After a denormal is replaced under DAZ: a NaN is quieted, with IE if it is signalling; a zero is returned as it is;
any other negative operand gives Indef and IE; plus infinity is returned; every other operand gives the real square
root of its value, rounded and packed, with DE where it is a denormal. [05_numerics.md R571] -/
def Obligations.SquareRoot : Prop :=
  ∀ (F : Fmt) (c : Ctl) (a0 : BitVec F.width),
    let a := daz c a0
    let de := if isDenormal a then flDE else 0
    let r := exactRound F c false (Real.sqrt (value a))
    (isNaN a = true → fsqrt F c a0 = (quiet a, if isSNaN a then flIE else 0)) ∧
    (isZero a = true → fsqrt F c a0 = (a, 0)) ∧
    (isNaN a = false → isZero a = false → signOf a = true → fsqrt F c a0 = (indef F, flIE)) ∧
    (isInf a = true → signOf a = false → fsqrt F c a0 = (a, de)) ∧
    (isNaN a = false → isZero a = false → isInf a = false → signOf a = false → fsqrt F c a0 = (r.1, r.2 ||| de))

/-- fmax and fmin compare as extended reals and return the second operand for NaNs, zeros and equal values. After
denormals are replaced under DAZ: a NaN among the operands gives the second operand unchanged and IE. Else fmax
returns the first where its value is greater, fmin where it is less, infinities ordered as extended reals, and else
the second, so that for two zeros the second is returned; the flags are DE where an operand is a denormal.
[05_numerics.md R572] -/
def Obligations.MaximumAndMinimum : Prop :=
  ∀ (F : Fmt) (c : Ctl) (a0 b0 : BitVec F.width),
    let a := daz c a0
    let b := daz c b0
    let de := if isDenormal a || isDenormal b then flDE else 0
    (isNaN a = true ∨ isNaN b = true → fmax F c a0 b0 = (b, flIE) ∧ fmin F c a0 b0 = (b, flIE)) ∧
    (isNaN a = false → isNaN b = false →
      (isZero a = true → isZero b = true → fmax F c a0 b0 = (b, de) ∧ fmin F c a0 b0 = (b, de)) ∧
      (extValue b < extValue a → fmax F c a0 b0 = (a, de)) ∧
      (¬ extValue b < extValue a → fmax F c a0 b0 = (b, de)) ∧
      (extValue a < extValue b → fmin F c a0 b0 = (a, de)) ∧
      (¬ extValue a < extValue b → fmin F c a0 b0 = (b, de)))

/-- fcmp answers the 32 predicates of the table from the relation of the values, with their signalling. After
denormals are replaced under DAZ, the relation is UN with a NaN, else LT, EQ or GT of the values as extended reals.
For each of the 32 predicates the result is the table's column for that relation; the flags are, for UN, IE where the
predicate signals or an operand is a signalling NaN, else DE where an operand is a denormal. The table stands as five
32-bit columns, bit p for predicate p. [05_numerics.md R573] -/
def Obligations.ComparisonPredicates : Prop :=
  ∀ (F : Fmt) (c : Ctl) (p : BitVec 5) (a0 b0 : BitVec F.width),
    let a := daz c a0
    let b := daz c b0
    let col := fun x : BitVec 32 => x.getLsbD p.toNat
    let res := (fcmp F c p a0 b0).1
    (isNaN a = true ∨ isNaN b = true →
      res = col 0x87788778 ∧
      (fcmp F c p a0 b0).2 =
        if col 0x99996666 || isSNaN a || isSNaN b then flIE else 0) ∧
    (isNaN a = false → isNaN b = false →
      (extValue a < extValue b → res = col 0x96969696) ∧
      (extValue a = extValue b → res = col 0xA5A5A5A5) ∧
      (extValue b < extValue a → res = col 0xF0F0F0F0) ∧
      (fcmp F c p a0 b0).2 = if isDenormal a || isDenormal b then flDE else 0)

/-- cvt_ff and cvt_if round the exact value once; NaNs keep sign and top fraction bits; widening is exact. From one
format to the other, after a denormal is replaced under DAZ: a NaN keeps its sign and the upper bits of its fraction,
moved by 29 places, with the top fraction bit set, and raises IE if it is signalling; an infinity and a zero keep
their sign; every other value is rounded once; DE where the operand is a denormal; widening gives the same value and
never PE. From an integer of 32 or 64 bits: 0 gives plus zero, else the integer rounded once; 32 bits to double
precision is exact. [05_numerics.md R574; 05_numerics.md R576] -/
def Obligations.ConversionsToAFormat : Prop :=
  (∀ (F G : Fmt) (c : Ctl) (a0 : BitVec F.width), F ≠ G →
    let a := daz c a0
    let de := if isDenormal a then flDE else 0
    let r := exactRound G c (signOf a) |value a|
    (isNaN a = true → (cvtFF F G c a0).2 = (if isSNaN a then flIE else 0) ∧
      signOf (cvtFF F G c a0).1 = signOf a ∧ expOf (cvtFF F G c a0).1 = G.expMax ∧
      fracOf (cvtFF F G c a0).1 = (match F with | .f32 => fracOf a * 2 ^ 29 | .f64 => fracOf a / 2 ^ 29) |||
        2 ^ (G.frac - 1)) ∧
    (isInf a = true → cvtFF F G c a0 = (infOf G (signOf a), de)) ∧
    (isZero a = true → cvtFF F G c a0 = (zeroOf G (signOf a), de)) ∧
    (isNaN a = false → isInf a = false → isZero a = false → cvtFF F G c a0 = (r.1, r.2 ||| de) ∧
      (F = .f32 → value (cvtFF F G c a0).1 = value a ∧ (cvtFF F G c a0).2 = de))) ∧
  (∀ (F : Fmt) (c : Ctl) (w : Nat) (n : BitVec w), w = 32 ∨ w = 64 →
    (n.toInt = 0 → cvtIF F c n = (zeroOf F false, 0)) ∧
    (n.toInt ≠ 0 → cvtIF F c n = exactRound F c (decide (n.toInt < 0)) |(n.toInt : ℝ)|) ∧
    (w = 32 → value (cvtIF .f64 c n).1 = n.toInt ∧ (cvtIF .f64 c n).2 = 0))

/-- cvt_fi rounds the value to an integer, and gives the integer indefinite and IE where it does not fit. To 32 or 64
bits, after a denormal is replaced under DAZ: a NaN or an infinity gives the integer indefinite (the sign bit alone)
and IE; a zero gives 0; else the magnitude is rounded by RC, or toward zero for the truncating forms, and given its
sign; outside the signed range the result is the indefinite and IE, inside it that integer, with PE where it is
inexact. No denormal flag is raised. [05_numerics.md R575] -/
def Obligations.ConversionToAnInteger : Prop :=
  ∀ (F : Fmt) (c : Ctl) (w : Nat) (trunc : Bool) (a0 : BitVec F.width), w = 32 ∨ w = 64 →
    let a := daz c a0
    let bad : BitVec w × FpFlags := (BitVec.twoPow w (w - 1), flIE)
    let r := exactRint |value a| (signOf a) (if trunc then 3 else c.rc)
    let v : Int := if signOf a then -r.1 else r.1
    (isNaN a = true ∨ isInf a = true → cvtFI F c w trunc a0 = bad) ∧
    (isZero a = true → cvtFI F c w trunc a0 = (0, 0)) ∧
    (isNaN a = false → isInf a = false → isZero a = false →
      (v < -2 ^ (w - 1) ∨ 2 ^ (w - 1) - 1 < v → cvtFI F c w trunc a0 = bad) ∧
      (-2 ^ (w - 1) ≤ v → v ≤ 2 ^ (w - 1) - 1 →
        cvtFI F c w trunc a0 = (BitVec.ofInt w v, if r.2 then flPE else 0)))

/-- fround gives the exact encoding of the value rounded to an integer by the immediate or RC, keeping the sign. After
a denormal is replaced under DAZ: a NaN is quieted, with IE if it is signalling; an infinity or a zero is returned;
else the magnitude is rounded by RC where bit 2 of the immediate is set and by its bits 1:0 otherwise: where that
integer is 0 the result is the zero of the operand's sign, else a finite pattern of that sign whose value is the
integer; the flags are PE where the rounding is inexact and bit 3 is clear. No denormal flag is raised.
[05_numerics.md R577] -/
def Obligations.RoundingToAnIntegralValue : Prop :=
  ∀ (F : Fmt) (c : Ctl) (imm4 : BitVec 4) (a0 : BitVec F.width),
    let a := daz c a0
    let res := fround F c imm4 a0
    let r := exactRint |value a| (signOf a) (if imm4.getLsbD 2 then c.rc else imm4.extractLsb' 0 2)
    (isNaN a = true → res = (quiet a, if isSNaN a then flIE else 0)) ∧
    (isInf a = true ∨ isZero a = true → res = (a, 0)) ∧
    (isNaN a = false → isInf a = false → isZero a = false →
      res.2 = (if r.2 && !imm4.getLsbD 3 then flPE else 0) ∧
      (r.1 = 0 → res.1 = zeroOf F (signOf a)) ∧
      (r.1 ≠ 0 → isNaN res.1 = false ∧ isInf res.1 = false ∧ signOf res.1 = signOf a ∧ |value res.1| = r.1))

/-- ffma gives the exact product plus or minus the addend with one rounding, and one of the NaN operands, quieted.
After denormals are replaced under DAZ, with the signs of product and addend as negp and negz ask: with a NaN operand
the result is one of the NaN operands, quieted, and the flags are IE where one is signalling or the factors are
infinity and zero, else none; else infinity times zero, and an infinite product and addend of opposite signs, give
Indef and IE; an infinite product or addend that infinity; else r, exact, is rounded once, and r = 0 gives a zero of
the common sign of a zero product and addend, otherwise negative exactly when RC is 1. DE where an operand is a
denormal. [05_numerics.md R578] -/
def Obligations.FusedMultiplyAdd : Prop :=
  ∀ (F : Fmt) (c : Ctl) (negp negz : Bool) (x0 y0 z0 : BitVec F.width),
    let x := daz c x0
    let y := daz c y0
    let z := daz c z0
    let op := ffma F c negp negz x0 y0 z0
    let de := if isDenormal x || isDenormal y || isDenormal z then flDE else 0
    let infZero := (isInf x && isZero y) || (isZero x && isInf y)
    let sp := (signOf x != signOf y) != negp
    let sz := signOf z != negz
    let r : ℝ := (if negp then -(value x * value y) else value x * value y) + (if negz then -value z else value z)
    (isNaN x = true ∨ isNaN y = true ∨ isNaN z = true →
      (∃ v ∈ [x, y, z], isNaN v = true ∧ op.1 = quiet v) ∧
      op.2 = if isSNaN x || isSNaN y || isSNaN z || infZero then flIE else 0) ∧
    (isNaN x = false → isNaN y = false → isNaN z = false →
      (infZero = true → op = (indef F, flIE)) ∧
      (infZero = false →
        (isInf x = true ∨ isInf y = true →
          op = if isInf z = true ∧ sp ≠ sz then (indef F, flIE) else (infOf F sp, de)) ∧
        (isInf x = false → isInf y = false → isInf z = true → op = (infOf F sz, de)) ∧
        (isInf x = false → isInf y = false → isInf z = false →
          (r = 0 → op = (zeroOf F
            (if (isZero x = true ∨ isZero y = true) ∧ isZero z = true ∧ sp = sz then sp else decide (c.rc = 1)), de)) ∧
          (r ≠ 0 → op = ((exactRound F c (decide (r < 0)) |r|).1,
            (exactRound F c (decide (r < 0)) |r|).2 ||| de)))))

/-- The reciprocal approximations: special operands as stated, else within 1.5 * 2^-12, or a zero where log 10 admits
one. frcp: a NaN is quieted; zeros and denormals give the infinity of their sign, infinities the zero of theirs; for
every other operand the result has its sign and is a normal number r with |r a - 1| <= 1.5 * 2^-12, or zero where some
value within that bound is below the smallest normal number. frsqrt: the same for NaN, zeros and denormals; plus
infinity gives plus zero; any other negative operand gives Indef; for every other operand the result is a positive
normal r with |r sqrt(a) - 1| <= 1.5 * 2^-12. Which value within the bound is free (log 10); that a zero is allowed
wherever some value in the bound is tiny is the model's reading (log 10). [05_numerics.md R586] -/
def Obligations.ReciprocalApproximations : Prop :=
  (∀ a : BitVec Fmt.f32.width,
    let r : BitVec Fmt.f32.width := frcp a
    (isNaN a = true → r = quiet a) ∧
    (isZero a = true ∨ isDenormal a = true → r = infOf .f32 (signOf a)) ∧
    (isInf a = true → r = zeroOf .f32 (signOf a)) ∧
    (isNormal a = true → signOf r = signOf a ∧
      ((isNormal r = true ∧ |value r * value a - 1| ≤ 3 / 2 ^ 13) ∨
        (isZero r = true ∧ (1 - 3 / 2 ^ 13) / |value a| < 2 ^ (-126 : Int))))) ∧
  (∀ a : BitVec Fmt.f32.width,
    let r : BitVec Fmt.f32.width := frsqrt a
    (isNaN a = true → r = quiet a) ∧
    (isZero a = true ∨ isDenormal a = true → r = infOf .f32 (signOf a)) ∧
    (isInf a = true → signOf a = false → r = zeroOf .f32 false) ∧
    (isInf a = true ∨ isNormal a = true → signOf a = true → r = indef .f32) ∧
    (isNormal a = true → signOf a = false →
      isNormal r = true ∧ signOf r = false ∧ |value r * Real.sqrt (value a) - 1| ≤ 3 / 2 ^ 13))

/-- Vector moves, loads and broadcasts put their source into the destination and zero the bits above it. The unaligned
and the aligned moves (16 or 32 byte alignment for a memory source), VLDDQU, the VMOVSS and VMOVSD loads and the
broadcasts complete wherever their source can be read: the source value stands in the destination, once or in every
element, zero above. Every other register, the status flags, MXCSR and memory are as before, and pc advances; a memory
source is read where the access passes. [40_new_instructions.md R151-R153; 43_sse_on_ymm.md R229-R235;
44_three_operand_xmm_ymm_b.md R297; 44_three_operand_xmm_ymm_b.md R298; 10_state.md R46; 20_memory.md R85] -/
def Obligations.VectorCopiesAndLoads : Prop :=
  ∀ (s : State) (d : Reg) (b : RegMem) (m : MemOp),
    (∀ v, Reads 128 1 s [d] b v →
      ∀ i ∈ [Instr.vmovupsX d b, .vmovupdX d b, .vmovdquX d b], VecResult 128 1 i s d fun _ => v) ∧
    (∀ v, Reads 256 1 s [d] b v →
      ∀ i ∈ [Instr.vmovupsY d b, .vmovupdY d b, .vmovdquY d b], VecResult 256 1 i s d fun _ => v) ∧
    (∀ v, Reads 128 16 s [d] b v →
      ∀ i ∈ [Instr.vmovapsX d b, .vmovapdX d b, .vmovdqaX d b], VecResult 128 1 i s d fun _ => v) ∧
    (∀ v, Reads 256 32 s [d] b v →
      ∀ i ∈ [Instr.vmovapsY d b, .vmovapdY d b, .vmovdqaY d b], VecResult 256 1 i s d fun _ => v) ∧
    (∀ v, Reads 128 1 s [d] (.mem m) v →
      VecResult 128 1 (.vlddquX d m) s d (fun _ => v) ∧ VecResult 128 2 (.vbroadcastf128 d m) s d fun _ => v) ∧
    (∀ v, Reads 256 1 s [d] (.mem m) v → VecResult 256 1 (.vlddquY d m) s d fun _ => v) ∧
    (∀ v, Reads 32 1 s [d] (.mem m) v →
      VecResult 32 1 (.vmovssLoad d m) s d (fun _ => v) ∧ VecResult 32 4 (.vbroadcastssX d m) s d (fun _ => v) ∧
      VecResult 32 8 (.vbroadcastssY d m) s d fun _ => v) ∧
    (∀ v, Reads 64 1 s [d] (.mem m) v →
      VecResult 64 1 (.vmovsdLoad d m) s d (fun _ => v) ∧ VecResult 64 4 (.vbroadcastsd d m) s d fun _ => v)

/-- The store forms write the named bits of their source at the effective address, and their register forms copy.
Where the operand may be written (checks passed, none of its bytes the program's, canonical memory), the vector
stores, VEXTRACTF128, the scalar and half stores and VSTMXCSR put the source's bytes at the effective address, lowest
first, and change no other byte, register or flag. With a register destination the vector stores and VEXTRACTF128 copy
into it and zero the bits above. [40_new_instructions.md R154; 40_new_instructions.md R169; 43_sse_on_ymm.md
R230-R235; 44_three_operand_xmm_ymm_b.md R297; 44_three_operand_xmm_ymm_b.md R298; 45_three_operand_xmm_fp.md
R331-R334; 10_state.md R46; 20_memory.md R81; 20_memory.md R85; 20_memory.md R88] -/
def Obligations.VectorStores : Prop :=
  ∀ (s : State) (m : MemOp) (a d : Reg) (imm : BitVec 8),
    let half := elem 128 (imm.toNat % 2) (readVec 256 s a)
    (Stores 16 1 s [a] m →
      (∀ i ∈ [Instr.vmovupsXStore (.mem m) a, .vmovupdXStore (.mem m) a, .vmovdquXStore (.mem m) a],
        StoreResult i s m (readVec 128 s a)) ∧
      StoreResult (.vextractf128 (.mem m) a imm) s m half) ∧
    (Stores 32 1 s [a] m →
      ∀ i ∈ [Instr.vmovupsYStore (.mem m) a, .vmovupdYStore (.mem m) a, .vmovdquYStore (.mem m) a],
        StoreResult i s m (readVec 256 s a)) ∧
    (Stores 16 16 s [a] m →
      ∀ i ∈ [Instr.vmovapsXStore (.mem m) a, .vmovapdXStore (.mem m) a, .vmovdqaXStore (.mem m) a],
        StoreResult i s m (readVec 128 s a)) ∧
    (Stores 32 32 s [a] m →
      ∀ i ∈ [Instr.vmovapsYStore (.mem m) a, .vmovapdYStore (.mem m) a, .vmovdqaYStore (.mem m) a],
        StoreResult i s m (readVec 256 s a)) ∧
    (Stores 4 1 s [a] m → StoreResult (.vmovssStore m a) s m (readVec 32 s a)) ∧
    (Stores 8 1 s [a] m →
      (∀ i ∈ [Instr.vmovsdStore m a, .vmovlpsStore m a, .vmovlpdStore m a], StoreResult i s m (readVec 64 s a)) ∧
      ∀ i ∈ [Instr.vmovhpsStore m a, .vmovhpdStore m a], StoreResult i s m (elem 64 1 (readVec 128 s a))) ∧
    (Stores 4 1 s [] m → StoreResult (.vstmxcsr m) s m (s.mxcsr &&& 0xFFFF)) ∧
    ([d, a].all s.par.mode.names = true →
      (∀ i ∈ [Instr.vmovupsXStore (.reg d) a, .vmovupdXStore (.reg d) a, .vmovdquXStore (.reg d) a,
          .vmovapsXStore (.reg d) a, .vmovapdXStore (.reg d) a, .vmovdqaXStore (.reg d) a],
        VecResult 128 1 i s d fun _ => readVec 128 s a) ∧
      (∀ i ∈ [Instr.vmovupsYStore (.reg d) a, .vmovupdYStore (.reg d) a, .vmovdquYStore (.reg d) a,
          .vmovapsYStore (.reg d) a, .vmovapdYStore (.reg d) a, .vmovdqaYStore (.reg d) a],
        VecResult 256 1 i s d fun _ => readVec 256 s a) ∧
      VecResult 128 1 (.vextractf128 (.reg d) a imm) s d fun _ => half)

/-- The scalar register moves and the half moves replace one part of the first source's 128 bits. VMOVSS and VMOVSD
between registers, in both encodings, take element 0 from the second source and the rest of the 128 bits from the
first; VMOVHLPS, VMOVLHPS and the loads VMOVLPS, VMOVLPD, VMOVHPS, VMOVHPD put a 64-bit half of the second source or
of memory into one half and keep the other of the first source; zero above. Every other register, the status flags,
MXCSR and memory are as before, and pc advances; a memory source is read where the access passes.
[44_three_operand_xmm_ymm_b.md R297; 44_three_operand_xmm_ymm_b.md R298; 45_three_operand_xmm_fp.md R329-R334;
10_state.md R46] -/
def Obligations.ScalarAndHalfMoves : Prop :=
  ∀ (s : State) (d a b : Reg) (m : MemOp),
    let A := readVec 128 s a
    let B := readVec 128 s b
    ([d, a, b].all s.par.mode.names = true →
      (∀ i ∈ [Instr.vmovssReg d a b, .vmovssReg2 d a b],
        VecResult 32 4 i s d fun j => if j = 0 then elem 32 0 B else elem 32 j A) ∧
      (∀ i ∈ [Instr.vmovsdReg d a b, .vmovsdReg2 d a b],
        VecResult 64 2 i s d fun j => if j = 0 then elem 64 0 B else elem 64 1 A) ∧
      VecResult 64 2 (.vmovhlps d a b) s d (fun j => if j = 0 then elem 64 1 B else elem 64 1 A) ∧
      VecResult 64 2 (.vmovlhps d a b) s d fun j => if j = 0 then elem 64 0 A else elem 64 0 B) ∧
    (∀ v, Reads 64 1 s [d, a] (.mem m) v →
      (∀ i ∈ [Instr.vmovlpsLoad d a m, .vmovlpdLoad d a m],
        VecResult 64 2 i s d fun j => if j = 0 then v else elem 64 1 A) ∧
      ∀ i ∈ [Instr.vmovhpsLoad d a m, .vmovhpdLoad d a m],
        VecResult 64 2 i s d fun j => if j = 0 then elem 64 0 A else v)

/-- Duplications, the in-lane permutations, VPERM2F128 and VINSERTF128 move elements as their rules say. VMOVSLDUP,
VMOVSHDUP and VMOVDDUP repeat the even or odd element of each pair; VPERMILPS and VPERMILPD choose within each 128-bit
lane by two bits or bit 1 of the control element, or by the immediate's fields; each half of VPERM2F128 is one of the
four source halves or zero by four bits of the immediate; VINSERTF128 replaces one half. Every other register, the
status flags, MXCSR and memory are as before, and pc advances; a memory source is read where the access passes.
[40_new_instructions.md R155; 40_new_instructions.md R158; 40_new_instructions.md R159; 40_new_instructions.md R162;
43_sse_on_ymm.md R236; 43_sse_on_ymm.md R239; 43_sse_on_ymm.md R240; 10_state.md R46] -/
def Obligations.DuplicationsAndPermutations : Prop :=
  ∀ (s : State) (d a : Reg) (b : RegMem) (imm : BitVec 8),
    (∀ v, Reads 64 1 s [d] b v → VecResult 64 2 (.vmovddupX d b) s d fun _ => v) ∧
    (∀ v, Reads 128 1 s [d] b v →
      VecResult 32 4 (.vmovsldupX d b) s d (fun j => elem 32 (j / 2 * 2) v) ∧
      VecResult 32 4 (.vmovshdupX d b) s d (fun j => elem 32 (j / 2 * 2 + 1) v) ∧
      VecResult 32 4 (.vpermilpsXImm d b imm) s d (fun j => elem 32 (imm.toNat / 4 ^ j % 4) v) ∧
      VecResult 64 2 (.vpermilpdXImm d b imm) s d fun j => elem 64 (imm.toNat / 2 ^ j % 2) v) ∧
    (∀ v, Reads 256 1 s [d] b v →
      VecResult 32 8 (.vmovsldupY d b) s d (fun j => elem 32 (j / 2 * 2) v) ∧
      VecResult 32 8 (.vmovshdupY d b) s d (fun j => elem 32 (j / 2 * 2 + 1) v) ∧
      VecResult 64 4 (.vmovddupY d b) s d (fun j => elem 64 (j / 2 * 2) v) ∧
      VecResult 32 8 (.vpermilpsYImm d b imm) s d (fun j => elem 32 (j / 4 * 4 + imm.toNat / 4 ^ (j % 4) % 4) v) ∧
      VecResult 64 4 (.vpermilpdYImm d b imm) s d fun j => elem 64 (j / 2 * 2 + imm.toNat / 2 ^ j % 2) v) ∧
    (∀ v, Reads 128 1 s [d, a] b v →
      VecResult 32 4 (.vpermilpsX d a b) s d (fun j => elem 32 ((elem 32 j v).toNat % 4) (readVec 128 s a)) ∧
      VecResult 64 2 (.vpermilpdX d a b) s d (fun j => elem 64 ((elem 64 j v).toNat / 2 % 2) (readVec 128 s a)) ∧
      VecResult 128 2 (.vinsertf128 d a b imm) s d fun k =>
        if k = imm.toNat % 2 then v else elem 128 k (readVec 256 s a)) ∧
    (∀ v, Reads 256 1 s [d, a] b v →
      let A := readVec 256 s a
      VecResult 32 8 (.vpermilpsY d a b) s d (fun j => elem 32 (j / 4 * 4 + (elem 32 j v).toNat % 4) A) ∧
      VecResult 64 4 (.vpermilpdY d a b) s d (fun j => elem 64 (j / 2 * 2 + (elem 64 j v).toNat / 2 % 2) A) ∧
      VecResult 128 2 (.vperm2f128 d a b imm) s d fun k =>
        let c := imm.toNat / 16 ^ k % 16
        if 8 ≤ c then 0 else elem 128 (c % 2) (if 2 ≤ c % 4 then v else A))

/-- VPERMIL2PD and VPERMIL2PS choose from two sources by a selector, zeroing by the match bit; refused when not
admitted. With Permil2Sem on, all eight forms complete: element j is, by the selector element, one of the elements of
the same lane of the two sources, the first source first, or zero where the fifth operand is 2 and the selector's bit
3 is 1, or 3 and 0. In the W0 forms the fourth operand is the selector and ModRM.rm the second source, in the W1 forms
the other way round. With Permil2Sem off every form is refused. Every other register, the status flags, MXCSR and
memory are as before, and pc advances; a memory source is read where the access passes. [40_new_instructions.md R160;
40_new_instructions.md R161; 10_state.md R46] -/
def Obligations.TwoSourcePermutations : Prop :=
  ∀ (s : State) (d a c : Reg) (b : RegMem) (imm : BitVec 2),
    let pd := fun (n : Nat) (A B S : BitVec n) (j : Nat) =>
      let q := (elem 64 j S).toNat
      let k := q / 2 % 4
      if (imm.toNat = 2 ∧ q / 8 % 2 = 1) ∨ (imm.toNat = 3 ∧ q / 8 % 2 = 0) then 0
      else elem 64 (j / 2 * 2 + k % 2) (if k < 2 then A else B)
    let ps := fun (n : Nat) (A B S : BitVec n) (j : Nat) =>
      let q := (elem 32 j S).toNat
      let k := q % 8
      if (imm.toNat = 2 ∧ q / 8 % 2 = 1) ∨ (imm.toNat = 3 ∧ q / 8 % 2 = 0) then 0
      else elem 32 (j / 4 * 4 + k % 4) (if k < 4 then A else B)
    (s.par.permil2Sem = true →
      (∀ v, Reads 128 1 s [d, a, c] b v →
        let A := readVec 128 s a
        let C := readVec 128 s c
        VecResult 64 2 (.vpermil2pdX d a b c imm) s d (pd 128 A v C) ∧
        VecResult 64 2 (.vpermil2pdXW1 d a c b imm) s d (pd 128 A C v) ∧
        VecResult 32 4 (.vpermil2psX d a b c imm) s d (ps 128 A v C) ∧
        VecResult 32 4 (.vpermil2psXW1 d a c b imm) s d (ps 128 A C v)) ∧
      (∀ v, Reads 256 1 s [d, a, c] b v →
        let A := readVec 256 s a
        let C := readVec 256 s c
        VecResult 64 4 (.vpermil2pdY d a b c imm) s d (pd 256 A v C) ∧
        VecResult 64 4 (.vpermil2pdYW1 d a c b imm) s d (pd 256 A C v) ∧
        VecResult 32 8 (.vpermil2psY d a b c imm) s d (ps 256 A v C) ∧
        VecResult 32 8 (.vpermil2psYW1 d a c b imm) s d (ps 256 A C v))) ∧
    (s.par.permil2Sem = false →
      ∀ i ∈ [Instr.vpermil2pdX d a b c imm, .vpermil2pdXW1 d a c b imm, .vpermil2pdY d a b c imm,
          .vpermil2pdYW1 d a c b imm, .vpermil2psX d a b c imm, .vpermil2psXW1 d a c b imm, .vpermil2psY d a b c imm,
          .vpermil2psYW1 d a c b imm], exec i s = .refused .permil2Off)

/-- VSHUFPS, VSHUFPD and the unpacks, floating-point and integer, interleave or choose within each 128-bit lane.
VSHUFPS and VSHUFPD choose by fields of the immediate, the low results of a lane from the first source and the high
ones from the second; the unpacks take the elements of the low or the high half of each lane of both sources by turns,
the first source first, for elements of 8 to 64 bits; zero above. Every other register, the status flags, MXCSR and
memory are as before, and pc advances; a memory source is read where the access passes. [43_sse_on_ymm.md R246;
43_sse_on_ymm.md R247; 43_sse_on_ymm.md R250-R253; 47_three_operand_xmm_int_c.md R440-R447; 10_state.md R46] -/
def Obligations.ShufflesAndUnpacks : Prop :=
  ∀ (s : State) (d a : Reg) (b : RegMem) (imm : BitVec 8),
    let un := fun (n w h : Nat) (A B : BitVec n) (j : Nat) =>
      let p := 128 / w
      elem w (j / p * p + h * (p / 2) + j % p / 2) (if j % 2 = 0 then A else B)
    (∀ v, Reads 128 1 s [d, a] b v →
      let A := readVec 128 s a
      VecResult 32 4 (.vshufpsX d a b imm) s d (fun j => elem 32 (imm.toNat / 4 ^ j % 4) (if j < 2 then A else v)) ∧
      VecResult 64 2 (.vshufpdX d a b imm) s d (fun j => elem 64 (imm.toNat / 2 ^ j % 2) (if j = 0 then A else v)) ∧
      (∀ p ∈ [(Instr.vunpcklpsX d a b, 0), (.vunpckhpsX d a b, 1), (.vpunpckldq d a b, 0), (.vpunpckhdq d a b, 1)],
        VecResult 32 4 p.1 s d (un 128 32 p.2 A v)) ∧
      (∀ p ∈ [(Instr.vunpcklpdX d a b, 0), (.vunpckhpdX d a b, 1), (.vpunpcklqdq d a b, 0), (.vpunpckhqdq d a b, 1)],
        VecResult 64 2 p.1 s d (un 128 64 p.2 A v)) ∧
      (∀ p ∈ [(Instr.vpunpcklbw d a b, 0), (.vpunpckhbw d a b, 1)], VecResult 8 16 p.1 s d (un 128 8 p.2 A v)) ∧
      ∀ p ∈ [(Instr.vpunpcklwd d a b, 0), (.vpunpckhwd d a b, 1)], VecResult 16 8 p.1 s d (un 128 16 p.2 A v)) ∧
    (∀ v, Reads 256 1 s [d, a] b v →
      let A := readVec 256 s a
      VecResult 32 8 (.vshufpsY d a b imm) s d (fun j =>
        elem 32 (j / 4 * 4 + imm.toNat / 4 ^ (j % 4) % 4) (if j % 4 < 2 then A else v)) ∧
      VecResult 64 4 (.vshufpdY d a b imm) s d (fun j =>
        elem 64 (j / 2 * 2 + imm.toNat / 2 ^ j % 2) (if j % 2 = 0 then A else v)) ∧
      (∀ p ∈ [(Instr.vunpcklpsY d a b, 0), (.vunpckhpsY d a b, 1)], VecResult 32 8 p.1 s d (un 256 32 p.2 A v)) ∧
      ∀ p ∈ [(Instr.vunpcklpdY d a b, 0), (.vunpckhpdY d a b, 1)], VecResult 64 4 p.1 s d (un 256 64 p.2 A v))

/-- VPSHUFB, VPSHUFD, VPSHUFHW, VPSHUFLW and VPALIGNR choose bytes, words and doublewords of their sources. VPSHUFB
gives zero where bit 7 of the control byte is set, else the byte its low four bits name; VPSHUFD, VPSHUFHW and
VPSHUFLW choose among the doublewords, the upper or the lower words by the immediate's fields and copy the rest;
VPALIGNR gives byte j + imm of the concatenation with the second source low, zero past its end; zero above. Every
other register, the status flags, MXCSR and memory are as before, and pc advances; a memory source is read where the
access passes. [46_three_operand_xmm_int_a.md R364; 47_three_operand_xmm_int_b.md R423-R426; 10_state.md R46] -/
def Obligations.IntegerShuffles : Prop :=
  ∀ (s : State) (d a : Reg) (b : RegMem) (imm : BitVec 8),
    let f := fun j : Nat => imm.toNat / 4 ^ j % 4
    (∀ v, Reads 128 1 s [d] b v →
      VecResult 32 4 (.vpshufd d b imm) s d (fun j => elem 32 (f j) v) ∧
      VecResult 16 8 (.vpshufhw d b imm) s d (fun j => if j < 4 then elem 16 j v else elem 16 (4 + f (j - 4)) v) ∧
      VecResult 16 8 (.vpshuflw d b imm) s d fun j => if j < 4 then elem 16 (f j) v else elem 16 j v) ∧
    (∀ v, Reads 128 1 s [d, a] b v →
      let A := readVec 128 s a
      VecResult 8 16 (.vpshufb d a b) s d (fun j =>
        let c := (elem 8 j v).toNat
        if 128 ≤ c then 0 else elem 8 (c % 16) A) ∧
      VecResult 8 16 (.vpalignr d a b imm) s d fun j =>
        let k := j + imm.toNat
        if k < 16 then elem 8 k v else if k < 32 then elem 8 (k - 16) A else 0)

/-- The blends choose each element by an immediate bit or a mask element's top bit; VINSERTPS inserts, then zeroes.
The immediate blends take the second source where bit j of the immediate is 1, the variable blends where the top bit
of the mask element is, else the first. VINSERTPS puts one element of a register source, or the memory element, at the
place that bits 5:4 of the immediate name and then zeroes the elements whose bit 3:0 is set; zero above. Every other
register, the status flags, MXCSR and memory are as before, and pc advances; a memory source is read where the access
passes. [48_four_operand.md R461-R464; 48_four_operand.md R466; 48_four_operand.md R467; 48_four_operand.md R469;
30_encoding.md R124; 10_state.md R46] -/
def Obligations.BlendsAndInsertPs : Prop :=
  ∀ (s : State) (d a c : Reg) (b : RegMem) (imm : BitVec 8),
    let A := readVec 128 s a
    let C := readVec 128 s c
    (∀ v, Reads 128 1 s [d, a] b v →
      VecResult 32 4 (.vblendpsX d a b imm) s d (fun j => if imm.toNat / 2 ^ j % 2 = 1 then elem 32 j v else elem 32 j A) ∧
      VecResult 64 2 (.vblendpdX d a b imm) s d (fun j => if imm.toNat / 2 ^ j % 2 = 1 then elem 64 j v else elem 64 j A) ∧
      VecResult 16 8 (.vpblendw d a b imm) s d fun j => if imm.toNat / 2 ^ j % 2 = 1 then elem 16 j v else elem 16 j A) ∧
    (∀ v, Reads 256 1 s [d, a] b v →
      let A := readVec 256 s a
      VecResult 32 8 (.vblendpsY d a b imm) s d (fun j => if imm.toNat / 2 ^ j % 2 = 1 then elem 32 j v else elem 32 j A) ∧
      VecResult 64 4 (.vblendpdY d a b imm) s d fun j => if imm.toNat / 2 ^ j % 2 = 1 then elem 64 j v else elem 64 j A) ∧
    (∀ v, Reads 128 1 s [d, a, c] b v →
      VecResult 32 4 (.vblendvpsX d a b c) s d (fun j => if (elem 32 j C).msb then elem 32 j v else elem 32 j A) ∧
      VecResult 64 2 (.vblendvpdX d a b c) s d (fun j => if (elem 64 j C).msb then elem 64 j v else elem 64 j A) ∧
      VecResult 8 16 (.vpblendvb d a b c) s d fun j => if (elem 8 j C).msb then elem 8 j v else elem 8 j A) ∧
    (∀ v, Reads 256 1 s [d, a, c] b v →
      let A := readVec 256 s a
      let C := readVec 256 s c
      VecResult 32 8 (.vblendvpsY d a b c) s d (fun j => if (elem 32 j C).msb then elem 32 j v else elem 32 j A) ∧
      VecResult 64 4 (.vblendvpdY d a b c) s d fun j => if (elem 64 j C).msb then elem 64 j v else elem 64 j A) ∧
    (∀ r v, Reads 128 1 s [d, a] (.reg r) v → VecResult 32 4 (.vinsertps d a (.reg r) imm) s d fun j =>
      if imm.toNat / 2 ^ j % 2 = 1 then 0
      else if j = imm.toNat / 16 % 4 then elem 32 (imm.toNat / 64) v else elem 32 j A) ∧
    (∀ m v, Reads 32 1 s [d, a] (.mem m) v → VecResult 32 4 (.vinsertps d a (.mem m) imm) s d fun j =>
      if imm.toNat / 2 ^ j % 2 = 1 then 0 else if j = imm.toNat / 16 % 4 then v else elem 32 j A)

/-- The bitwise instructions give and, or, exclusive or, and the and of the complemented first source. VAND, VOR, VXOR
and VANDN in their PS, PD and integer forms, on 128 or 256 bits: bit by bit, the complement in VANDN is of the first
source; zero above. No floating-point flag is raised. Every other register, the status flags, MXCSR and memory are as
before, and pc advances; a memory source is read where the access passes. [44_three_operand_xmm_ymm_a.md R283-R290;
46_three_operand_xmm_int_a.md R365-R368; 10_state.md R46] -/
def Obligations.BitwiseLogic : Prop :=
  ∀ (s : State) (d a : Reg) (b : RegMem),
    (∀ v, Reads 128 1 s [d, a] b v →
      let A := readVec 128 s a
      ∀ p ∈ [(Instr.vandpsX d a b, fun x y => x && y), (.vandpdX d a b, fun x y => x && y), (.vpand d a b, fun x y => x && y),
          (.vorpsX d a b, fun x y => x || y), (.vorpdX d a b, fun x y => x || y), (.vpor d a b, fun x y => x || y),
          (.vxorpsX d a b, fun x y => x != y), (.vxorpdX d a b, fun x y => x != y), (.vpxor d a b, fun x y => x != y),
          (.vandnpsX d a b, fun x y => !x && y), (.vandnpdX d a b, fun x y => !x && y),
          (.vpandn d a b, fun x y => !x && y)],
        VecResult 1 128 p.1 s d fun j => BitVec.ofBool (p.2 (A.getLsbD j) (v.getLsbD j))) ∧
    (∀ v, Reads 256 1 s [d, a] b v →
      let A := readVec 256 s a
      ∀ p ∈ [(Instr.vandpsY d a b, fun x y => x && y), (.vandpdY d a b, fun x y => x && y),
          (.vorpsY d a b, fun x y => x || y), (.vorpdY d a b, fun x y => x || y),
          (.vxorpsY d a b, fun x y => x != y), (.vxorpdY d a b, fun x y => x != y),
          (.vandnpsY d a b, fun x y => !x && y), (.vandnpdY d a b, fun x y => !x && y)],
        VecResult 1 256 p.1 s d fun j => BitVec.ofBool (p.2 (A.getLsbD j) (v.getLsbD j)))

/-- Integer sums and differences wrap modulo 2^w or clamp to the signed or unsigned range; horizontal forms take
pairs. VPADD and VPSUB on bytes to quadwords give the exact sum or difference modulo 2^w; the S and US forms the exact
one clamped to the signed or unsigned range; VPHADD, VPHSUB and their saturating word forms take adjacent elements,
the pairs of the first source in the low half and of the second in the high; zero above. Every other register, the
status flags, MXCSR and memory are as before, and pc advances; a memory source is read where the access passes.
[46_three_operand_xmm_int_a.md R342-R349; 46_three_operand_xmm_int_a.md R350-R355; 46_three_operand_xmm_int_a.md
R356-R361; 46_three_operand_xmm_int_a.md R362; 46_three_operand_xmm_int_a.md R363; 00_scope.md R16; 10_state.md R46]
-/
def Obligations.IntegerSumsAndDifferences : Prop :=
  ∀ (s : State) (d a : Reg) (b : RegMem) (v : BitVec 128), Reads 128 1 s [d, a] b v →
    let A := readVec 128 s a
    let add := fun (w : Nat) (x y : BitVec w) => BitVec.ofInt w (x.toInt + y.toInt)
    let sub := fun (w : Nat) (x y : BitVec w) => BitVec.ofInt w (x.toInt - y.toInt)
    let addS := fun (w : Nat) (x y : BitVec w) => BitVec.ofInt w (clamp (-2 ^ (w - 1)) (2 ^ (w - 1) - 1) (x.toInt + y.toInt))
    let subS := fun (w : Nat) (x y : BitVec w) => BitVec.ofInt w (clamp (-2 ^ (w - 1)) (2 ^ (w - 1) - 1) (x.toInt - y.toInt))
    let addU := fun (w : Nat) (x y : BitVec w) => BitVec.ofInt w (clamp 0 (2 ^ w - 1) ((x.toNat : Int) + y.toNat))
    let subU := fun (w : Nat) (x y : BitVec w) => BitVec.ofInt w (clamp 0 (2 ^ w - 1) ((x.toNat : Int) - y.toNat))
    let hz := fun (w : Nat) (f : BitVec w → BitVec w → BitVec w) (j : Nat) =>
      let h := 64 / w
      let x := if j < h then A else v
      f (elem w (2 * (j % h)) x) (elem w (2 * (j % h) + 1) x)
    (∀ p ∈ [(Instr.vpaddb d a b, add 8), (.vpsubb d a b, sub 8), (.vpaddsb d a b, addS 8), (.vpsubsb d a b, subS 8),
        (.vpaddusb d a b, addU 8), (.vpsubusb d a b, subU 8)],
      VecResult 8 16 p.1 s d fun j => p.2 (elem 8 j A) (elem 8 j v)) ∧
    (∀ p ∈ [(Instr.vpaddw d a b, add 16), (.vpsubw d a b, sub 16), (.vpaddsw d a b, addS 16), (.vpsubsw d a b, subS 16),
        (.vpaddusw d a b, addU 16), (.vpsubusw d a b, subU 16)],
      VecResult 16 8 p.1 s d fun j => p.2 (elem 16 j A) (elem 16 j v)) ∧
    (∀ p ∈ [(Instr.vpaddd d a b, add 32), (.vpsubd d a b, sub 32)],
      VecResult 32 4 p.1 s d fun j => p.2 (elem 32 j A) (elem 32 j v)) ∧
    (∀ p ∈ [(Instr.vpaddq d a b, add 64), (.vpsubq d a b, sub 64)],
      VecResult 64 2 p.1 s d fun j => p.2 (elem 64 j A) (elem 64 j v)) ∧
    (∀ p ∈ [(Instr.vphaddw d a b, add 16), (.vphsubw d a b, sub 16), (.vphaddsw d a b, addS 16),
        (.vphsubsw d a b, subS 16)], VecResult 16 8 p.1 s d (hz 16 p.2)) ∧
    (∀ p ∈ [(Instr.vphaddd d a b, add 32), (.vphsubd d a b, sub 32)], VecResult 32 4 p.1 s d (hz 32 p.2))

/-- Integer compares give masks, maxima and minima the chosen element, averages round up, VPSIGN negates or clears.
VPCMPEQ gives all ones where the elements are equal, VPCMPGT where the first is greater as a signed number; VPMAX and
VPMIN give the greater or lesser element as signed or unsigned numbers; VPAVG gives the unsigned mean, halves rounded
up; VPSIGN negates, clears or copies the first source's element as the second's is negative, zero or positive; zero
above. Every other register, the status flags, MXCSR and memory are as before, and pc advances; a memory source is
read where the access passes. [46_three_operand_xmm_int_a.md R369; 46_three_operand_xmm_int_a.md R370;
46_three_operand_xmm_int_a.md R371-R378; 47_three_operand_xmm_int_b.md R403-R414; 47_three_operand_xmm_int_c.md
R427-R429; 10_state.md R46] -/
def Obligations.IntegerComparisons : Prop :=
  ∀ (s : State) (d a : Reg) (b : RegMem) (v : BitVec 128), Reads 128 1 s [d, a] b v →
    let A := readVec 128 s a
    let eq := fun (w : Nat) (x y : BitVec w) => if x.toNat = y.toNat then BitVec.allOnes w else 0
    let gt := fun (w : Nat) (x y : BitVec w) => if x.toInt > y.toInt then BitVec.allOnes w else 0
    let maxI := fun (w : Nat) (x y : BitVec w) => BitVec.ofInt w (max x.toInt y.toInt)
    let minI := fun (w : Nat) (x y : BitVec w) => BitVec.ofInt w (min x.toInt y.toInt)
    let maxN := fun (w : Nat) (x y : BitVec w) => BitVec.ofNat w (max x.toNat y.toNat)
    let minN := fun (w : Nat) (x y : BitVec w) => BitVec.ofNat w (min x.toNat y.toNat)
    let avg := fun (w : Nat) (x y : BitVec w) => BitVec.ofNat w ((x.toNat + y.toNat + 1) / 2)
    let sign := fun (w : Nat) (x y : BitVec w) =>
      BitVec.ofInt w (if y.toInt < 0 then -x.toInt else if y.toInt = 0 then 0 else x.toInt)
    (∀ p ∈ [(Instr.vpcmpeqb d a b, eq 8), (.vpcmpgtb d a b, gt 8), (.vpmaxsb d a b, maxI 8), (.vpminsb d a b, minI 8),
        (.vpmaxub d a b, maxN 8), (.vpminub d a b, minN 8), (.vpavgb d a b, avg 8), (.vpsignb d a b, sign 8)],
      VecResult 8 16 p.1 s d fun j => p.2 (elem 8 j A) (elem 8 j v)) ∧
    (∀ p ∈ [(Instr.vpcmpeqw d a b, eq 16), (.vpcmpgtw d a b, gt 16), (.vpmaxsw d a b, maxI 16), (.vpminsw d a b, minI 16),
        (.vpmaxuw d a b, maxN 16), (.vpminuw d a b, minN 16), (.vpavgw d a b, avg 16), (.vpsignw d a b, sign 16)],
      VecResult 16 8 p.1 s d fun j => p.2 (elem 16 j A) (elem 16 j v)) ∧
    (∀ p ∈ [(Instr.vpcmpeqd d a b, eq 32), (.vpcmpgtd d a b, gt 32), (.vpmaxsd d a b, maxI 32), (.vpminsd d a b, minI 32),
        (.vpmaxud d a b, maxN 32), (.vpminud d a b, minN 32), (.vpsignd d a b, sign 32)],
      VecResult 32 4 p.1 s d fun j => p.2 (elem 32 j A) (elem 32 j v)) ∧
    (∀ p ∈ [(Instr.vpcmpeqq d a b, eq 64), (.vpcmpgtq d a b, gt 64)],
      VecResult 64 2 p.1 s d fun j => p.2 (elem 64 j A) (elem 64 j v))

/-- Integer products keep the low, high or rounded part; the multiply-adds and sums of differences are exact, then
narrowed. VPMULLW and VPMULLD keep the low half of the product, VPMULHW and VPMULHUW the high word of the signed or
unsigned one, VPMULHRSW bits 30:15 of the product plus 2^14; VPMULDQ and VPMULUDQ the whole product of the even
doublewords; VPMADDWD adds adjacent products modulo 2^32, VPMADDUBSW adds unsigned by signed products with signed
saturation; VPSADBW and VMPSADBW sum absolute differences of unsigned bytes; zero above. Every other register, the
status flags, MXCSR and memory are as before, and pc advances; a memory source is read where the access passes.
[46_three_operand_xmm_int_a.md R341; 47_three_operand_xmm_int_b.md R401; 47_three_operand_xmm_int_b.md R402;
47_three_operand_xmm_int_b.md R415-R422; 10_state.md R46] -/
def Obligations.IntegerProducts : Prop :=
  ∀ (s : State) (d a : Reg) (b : RegMem) (imm : BitVec 8) (v : BitVec 128), Reads 128 1 s [d, a] b v →
    let A := readVec 128 s a
    let si := fun (w k : Nat) (x : BitVec 128) => (elem w k x).toInt
    let un := fun (w k : Nat) (x : BitVec 128) => (elem w k x).toNat
    let diff := fun (p q : Nat) => ((un 8 p A : Int) - un 8 q v).natAbs
    let o1 := 4 * (imm.toNat / 4 % 2)
    let o2 := 4 * (imm.toNat % 4)
    VecResult 16 8 (.vpmullw d a b) s d (fun j => BitVec.ofInt 16 (si 16 j A * si 16 j v)) ∧
    VecResult 32 4 (.vpmulld d a b) s d (fun j => BitVec.ofInt 32 (si 32 j A * si 32 j v)) ∧
    VecResult 16 8 (.vpmulhw d a b) s d (fun j => BitVec.ofInt 16 (si 16 j A * si 16 j v / 2 ^ 16)) ∧
    VecResult 16 8 (.vpmulhuw d a b) s d (fun j => BitVec.ofNat 16 (un 16 j A * un 16 j v / 2 ^ 16)) ∧
    VecResult 16 8 (.vpmulhrsw d a b) s d (fun j => BitVec.ofInt 16 ((si 16 j A * si 16 j v + 2 ^ 14) / 2 ^ 15)) ∧
    VecResult 64 2 (.vpmuldq d a b) s d (fun j => BitVec.ofInt 64 (si 32 (2 * j) A * si 32 (2 * j) v)) ∧
    VecResult 64 2 (.vpmuludq d a b) s d (fun j => BitVec.ofNat 64 (un 32 (2 * j) A * un 32 (2 * j) v)) ∧
    VecResult 32 4 (.vpmaddwd d a b) s d (fun j => BitVec.ofInt 32
      (si 16 (2 * j) A * si 16 (2 * j) v + si 16 (2 * j + 1) A * si 16 (2 * j + 1) v)) ∧
    VecResult 16 8 (.vpmaddubsw d a b) s d (fun j => BitVec.ofInt 16 (clamp (-2 ^ 15) (2 ^ 15 - 1)
      (un 8 (2 * j) A * si 8 (2 * j) v + un 8 (2 * j + 1) A * si 8 (2 * j + 1) v))) ∧
    VecResult 64 2 (.vpsadbw d a b) s d (fun h => BitVec.ofNat 64
      (diff (8 * h) (8 * h) + diff (8 * h + 1) (8 * h + 1) + diff (8 * h + 2) (8 * h + 2) + diff (8 * h + 3) (8 * h + 3) +
        diff (8 * h + 4) (8 * h + 4) + diff (8 * h + 5) (8 * h + 5) + diff (8 * h + 6) (8 * h + 6) +
        diff (8 * h + 7) (8 * h + 7))) ∧
    VecResult 16 8 (.vmpsadbw d a b imm) s d (fun j => BitVec.ofNat 16
      (diff (o1 + j) o2 + diff (o1 + j + 1) (o2 + 1) + diff (o1 + j + 2) (o2 + 2) + diff (o1 + j + 3) (o2 + 3)))

/-- The packs narrow with saturation, the first source low; VPINSR replaces one element by a general register or
memory. VPACKSSWB, VPACKSSDW, VPACKUSWB and VPACKUSDW clamp each signed element to the signed or unsigned range of
half its width, the first source's in the low half of the result; VPINSRB, VPINSRW, VPINSRD and, in Mode64, VPINSRQ
copy the first source with the element that the low bits of the immediate name replaced by the low bits of the general
register or by memory; in Mode32 VPINSRQ is refused; zero above. Every other register, the status flags, MXCSR and
memory are as before, and pc advances; a memory source is read where the access passes. [44_three_operand_xmm_ymm_b.md
R305-R308; 46_three_operand_xmm_int_a.md R379-R382; 30_encoding.md R118; 10_state.md R46] -/
def Obligations.PacksAndInsertions : Prop :=
  ∀ (s : State) (d a : Reg) (b : RegMem) (imm : BitVec 8),
    let A := readVec 128 s a
    let S := fun (w : Nat) (x : BitVec (2 * w)) => BitVec.ofInt w (clamp (-2 ^ (w - 1)) (2 ^ (w - 1) - 1) x.toInt)
    let U := fun (w : Nat) (x : BitVec (2 * w)) => BitVec.ofInt w (clamp 0 (2 ^ w - 1) x.toInt)
    (∀ v, Reads 128 1 s [d, a] b v →
      (∀ p ∈ [(Instr.vpacksswb d a b, S 8), (.vpackuswb d a b, U 8)],
        VecResult 8 16 p.1 s d fun j => p.2 (if j < 8 then elem 16 j A else elem 16 (j - 8) v)) ∧
      ∀ p ∈ [(Instr.vpackssdw d a b, S 16), (.vpackusdw d a b, U 16)],
        VecResult 16 8 p.1 s d fun j => p.2 (if j < 4 then elem 32 j A else elem 32 (j - 4) v)) ∧
    (∀ v, ReadsGpr 8 s [d, a] b v →
      VecResult 8 16 (.vpinsrb d a b imm) s d fun j => if j = imm.toNat % 16 then v else elem 8 j A) ∧
    (∀ v, ReadsGpr 16 s [d, a] b v →
      VecResult 16 8 (.vpinsrw d a b imm) s d fun j => if j = imm.toNat % 8 then v else elem 16 j A) ∧
    (∀ v, ReadsGpr 32 s [d, a] b v →
      VecResult 32 4 (.vpinsrd d a b imm) s d fun j => if j = imm.toNat % 4 then v else elem 32 j A) ∧
    (s.par.mode = .mode64 → ∀ v, ReadsGpr 64 s [d, a] b v →
      VecResult 64 2 (.vpinsrq d a b imm) s d fun j => if j = imm.toNat % 2 then v else elem 64 j A) ∧
    (s.par.mode = .mode32 → exec (.vpinsrq d a b imm) s = .refused .operandNotInMode)

/-- The shifts multiply or divide each element by 2^count, the count an immediate byte or the low 64 bits of the
source. Left shifts give the element times 2^count modulo 2^w, logical right shifts the unsigned and arithmetic right
shifts the signed element divided by 2^count and rounded down, so that a count of the width or more gives zero, or the
sign in every bit; the count is the whole immediate byte or bits 63:0 of the second source. VPSLLDQ and VPSRLDQ move
the whole 128 bits by bytes, zeros entering; zero above. Every other register, the status flags, MXCSR and memory are
as before, and pc advances; a memory source is read where the access passes. [47_three_operand_xmm_int_c.md R430-R439;
30_encoding.md R124; 10_state.md R46] -/
def Obligations.Shifts : Prop :=
  ∀ (s : State) (d a : Reg) (b : RegMem) (imm : BitVec 8),
    let A := readVec 128 s a
    let l := fun (w n : Nat) (x : BitVec w) => BitVec.ofNat w (x.toNat * 2 ^ n)
    let r := fun (w n : Nat) (x : BitVec w) => BitVec.ofNat w (x.toNat / 2 ^ n)
    let q := fun (w n : Nat) (x : BitVec w) => BitVec.ofInt w (x.toInt / 2 ^ n)
    ([d, a].all s.par.mode.names = true →
      let n := imm.toNat
      (∀ p ∈ [(Instr.vpsllwImm d a imm, l 16 n), (.vpsrlwImm d a imm, r 16 n), (.vpsrawImm d a imm, q 16 n)],
        VecResult 16 8 p.1 s d fun j => p.2 (elem 16 j A)) ∧
      (∀ p ∈ [(Instr.vpslldImm d a imm, l 32 n), (.vpsrldImm d a imm, r 32 n), (.vpsradImm d a imm, q 32 n)],
        VecResult 32 4 p.1 s d fun j => p.2 (elem 32 j A)) ∧
      (∀ p ∈ [(Instr.vpsllqImm d a imm, l 64 n), (.vpsrlqImm d a imm, r 64 n)],
        VecResult 64 2 p.1 s d fun j => p.2 (elem 64 j A)) ∧
      VecResult 8 16 (.vpslldq d a imm) s d (fun j => if j < n then 0 else elem 8 (j - n) A) ∧
      VecResult 8 16 (.vpsrldq d a imm) s d fun j => if j + n < 16 then elem 8 (j + n) A else 0) ∧
    (∀ v, Reads 128 1 s [d, a] b v →
      let n := (elem 64 0 v).toNat
      (∀ p ∈ [(Instr.vpsllw d a b, l 16 n), (.vpsrlw d a b, r 16 n), (.vpsraw d a b, q 16 n)],
        VecResult 16 8 p.1 s d fun j => p.2 (elem 16 j A)) ∧
      (∀ p ∈ [(Instr.vpslld d a b, l 32 n), (.vpsrld d a b, r 32 n), (.vpsrad d a b, q 32 n)],
        VecResult 32 4 p.1 s d fun j => p.2 (elem 32 j A)) ∧
      ∀ p ∈ [(Instr.vpsllq d a b, l 64 n), (.vpsrlq d a b, r 64 n)],
        VecResult 64 2 p.1 s d fun j => p.2 (elem 64 j A))

/-- Packed add, subtract, multiply, divide, maximum and minimum: each element by its function, flags united, XM or
MXCSR. VADD, VSUB, VMUL, VDIV, VMAX and VMIN, PS and PD, 128 and 256 bits: element j of the result is fadd, fsub,
fmul, fdiv, fmax or fmin of the elements j of the two sources, first source first, under RC, FZ and DAZ of MXCSR; the
flags are those of all elements together. The functions are those of the record that the run takes (R561, log 9), with
the reference record those of the same names. Where a raised flag is unmasked the instruction ends in XM with those
flags and nothing written; else the flags join MXCSR, the bits above the result are zero, every other register, the
status flags and memory are as before, and pc advances. [44_three_operand_xmm_ymm_a.md R261-R266;
44_three_operand_xmm_ymm_a.md R269-R270; 44_three_operand_xmm_ymm_a.md R279-R282; 05_numerics.md R563;
60_exceptions.md R504; 10_state.md R46] -/
def Obligations.PackedArithmetic : Prop :=
  ∀ (s : State) (d a : Reg) (b : RegMem),
    let N := numerics s
    (∀ v, Reads 128 1 s [d, a] b v →
      let A := readVec 128 s a
      (∀ p ∈ [(Instr.vaddpsX d a b, N.fadd .f32), (.vsubpsX d a b, N.fsub .f32), (.vmulpsX d a b, N.fmul .f32),
          (.vdivpsX d a b, N.fdiv .f32), (.vmaxpsX d a b, N.fmax .f32), (.vminpsX d a b, N.fmin .f32)],
        PackedOutcome 32 4 p.1 s d fun j => p.2 (ctl s) (elem 32 j A) (elem 32 j v)) ∧
      ∀ p ∈ [(Instr.vaddpdX d a b, N.fadd .f64), (.vsubpdX d a b, N.fsub .f64), (.vmulpdX d a b, N.fmul .f64),
          (.vdivpdX d a b, N.fdiv .f64), (.vmaxpdX d a b, N.fmax .f64), (.vminpdX d a b, N.fmin .f64)],
        PackedOutcome 64 2 p.1 s d fun j => p.2 (ctl s) (elem 64 j A) (elem 64 j v)) ∧
    (∀ v, Reads 256 1 s [d, a] b v →
      let A := readVec 256 s a
      (∀ p ∈ [(Instr.vaddpsY d a b, N.fadd .f32), (.vsubpsY d a b, N.fsub .f32), (.vmulpsY d a b, N.fmul .f32),
          (.vdivpsY d a b, N.fdiv .f32), (.vmaxpsY d a b, N.fmax .f32), (.vminpsY d a b, N.fmin .f32)],
        PackedOutcome 32 8 p.1 s d fun j => p.2 (ctl s) (elem 32 j A) (elem 32 j v)) ∧
      ∀ p ∈ [(Instr.vaddpdY d a b, N.fadd .f64), (.vsubpdY d a b, N.fsub .f64), (.vmulpdY d a b, N.fmul .f64),
          (.vdivpdY d a b, N.fdiv .f64), (.vmaxpdY d a b, N.fmax .f64), (.vminpdY d a b, N.fmin .f64)],
        PackedOutcome 64 4 p.1 s d fun j => p.2 (ctl s) (elem 64 j A) (elem 64 j v))

/-- Packed square roots, roundings and compares: each element by its function, compares as masks, XM or MXCSR. VSQRT,
VROUND and VCMP, PS and PD, 128 and 256 bits: element j is fsqrt of the source element, fround of it under bits 3:0 of
the immediate, or all ones or zero as fcmp answers for predicate bits 4:0 of the immediate; the flags are those of all
elements together. The functions are those of the record that the run takes (R561, log 9), with the reference record
those of the same names. Where a raised flag is unmasked the instruction ends in XM with those flags and nothing
written; else the flags join MXCSR, the bits above the result are zero, every other register, the status flags and
memory are as before, and pc advances. [43_sse_on_ymm.md R244; 43_sse_on_ymm.md R245; 43_sse_on_ymm.md R248;
43_sse_on_ymm.md R249; 44_three_operand_xmm_ymm_b.md R291; 44_three_operand_xmm_ymm_b.md R292; 60_exceptions.md R504;
10_state.md R46] -/
def Obligations.PackedRootsRoundingsAndCompares : Prop :=
  ∀ (s : State) (d a : Reg) (b : RegMem) (imm : BitVec 8),
    let N := numerics s
    let rnd := fun (F : Fmt) (x : BitVec F.width) => N.fround F (ctl s) (imm.setWidth 4) x
    let cmp := fun (F : Fmt) (x y : BitVec F.width) =>
      let r := N.fcmp F (ctl s) (imm.setWidth 5) x y
      (if r.1 then BitVec.allOnes F.width else 0, r.2)
    (∀ v, Reads 128 1 s [d] b v →
      PackedOutcome 32 4 (.vsqrtpsX d b) s d (fun j => N.fsqrt .f32 (ctl s) (elem 32 j v)) ∧
      PackedOutcome 64 2 (.vsqrtpdX d b) s d (fun j => N.fsqrt .f64 (ctl s) (elem 64 j v)) ∧
      PackedOutcome 32 4 (.vroundpsX d b imm) s d (fun j => rnd .f32 (elem 32 j v)) ∧
      PackedOutcome 64 2 (.vroundpdX d b imm) s d fun j => rnd .f64 (elem 64 j v)) ∧
    (∀ v, Reads 256 1 s [d] b v →
      PackedOutcome 32 8 (.vsqrtpsY d b) s d (fun j => N.fsqrt .f32 (ctl s) (elem 32 j v)) ∧
      PackedOutcome 64 4 (.vsqrtpdY d b) s d (fun j => N.fsqrt .f64 (ctl s) (elem 64 j v)) ∧
      PackedOutcome 32 8 (.vroundpsY d b imm) s d (fun j => rnd .f32 (elem 32 j v)) ∧
      PackedOutcome 64 4 (.vroundpdY d b imm) s d fun j => rnd .f64 (elem 64 j v)) ∧
    (∀ v, Reads 128 1 s [d, a] b v →
      let A := readVec 128 s a
      PackedOutcome 32 4 (.vcmppsX d a b imm) s d (fun j => cmp .f32 (elem 32 j A) (elem 32 j v)) ∧
      PackedOutcome 64 2 (.vcmppdX d a b imm) s d fun j => cmp .f64 (elem 64 j A) (elem 64 j v)) ∧
    (∀ v, Reads 256 1 s [d, a] b v →
      let A := readVec 256 s a
      PackedOutcome 32 8 (.vcmppsY d a b imm) s d (fun j => cmp .f32 (elem 32 j A) (elem 32 j v)) ∧
      PackedOutcome 64 4 (.vcmppdY d a b imm) s d fun j => cmp .f64 (elem 64 j A) (elem 64 j v))

/-- Scalar arithmetic, roots, roundings, compares and conversions: element 0 computed, the rest from the first source.
The SS and SD forms of add, subtract, multiply, divide, maximum, minimum, square root, rounding and compare,
VCVTSS2SD, VCVTSD2SS, VCVTSI2SS and VCVTSI2SD (64-bit integers in Mode64; in Mode32 those forms are refused): element
0 of the result is the function of element 0 of the first source and the second source, or of the second source alone;
the rest of the 128 bits is the first source's. The functions are those of the record that the run takes (R561, log
9), with the reference record those of the same names. Where a raised flag is unmasked the instruction ends in XM with
those flags and nothing written; else the flags join MXCSR, the bits above the result are zero, every other register,
the status flags and memory are as before, and pc advances. [44_three_operand_xmm_ymm_a.md R267;
44_three_operand_xmm_ymm_a.md R268; 44_three_operand_xmm_ymm_a.md R271-R272; 44_three_operand_xmm_ymm_b.md R293-R296;
44_three_operand_xmm_ymm_b.md R301-R304; 45_three_operand_xmm_fp.md R321-R328; 49_conversions.md R478;
49_conversions.md R481; 30_encoding.md R118; 60_exceptions.md R504; 10_state.md R46] -/
def Obligations.ScalarArithmetic : Prop :=
  ∀ (s : State) (d a : Reg) (b : RegMem) (imm : BitVec 8),
    let N := numerics s
    let c := ctl s
    let x := elem 32 0 (readVec 128 s a)
    let y := elem 64 0 (readVec 128 s a)
    let mask := fun (n : Nat) (r : Bool × FpFlags) => (if r.1 then BitVec.allOnes n else 0, r.2)
    (∀ v, Reads 32 1 s [d, a] b v →
      (∀ p ∈ [(Instr.vaddss d a b, N.fadd .f32 c x v), (.vsubss d a b, N.fsub .f32 c x v), (.vmulss d a b, N.fmul .f32 c x v),
          (.vdivss d a b, N.fdiv .f32 c x v), (.vmaxss d a b, N.fmax .f32 c x v), (.vminss d a b, N.fmin .f32 c x v),
          (.vsqrtss d a b, N.fsqrt .f32 c v), (.vroundss d a b imm, N.fround .f32 c (imm.setWidth 4) v),
          (.vcmpss d a b imm, mask 32 (N.fcmp .f32 c (imm.setWidth 5) x v))],
        ScalarOutcome 32 p.1 s d a p.2) ∧
      ScalarOutcome 64 (.vcvtss2sd d a b) s d a (N.cvtFF .f32 .f64 c v)) ∧
    (∀ v, Reads 64 1 s [d, a] b v →
      (∀ p ∈ [(Instr.vaddsd d a b, N.fadd .f64 c y v), (.vsubsd d a b, N.fsub .f64 c y v), (.vmulsd d a b, N.fmul .f64 c y v),
          (.vdivsd d a b, N.fdiv .f64 c y v), (.vmaxsd d a b, N.fmax .f64 c y v), (.vminsd d a b, N.fmin .f64 c y v),
          (.vsqrtsd d a b, N.fsqrt .f64 c v), (.vroundsd d a b imm, N.fround .f64 c (imm.setWidth 4) v),
          (.vcmpsd d a b imm, mask 64 (N.fcmp .f64 c (imm.setWidth 5) y v))],
        ScalarOutcome 64 p.1 s d a p.2) ∧
      ScalarOutcome 32 (.vcvtsd2ss d a b) s d a (N.cvtFF .f64 .f32 c v)) ∧
    (∀ v : BitVec 32, ReadsGpr 32 s [d, a] b v →
      ScalarOutcome 32 (.vcvtsi2ssR32 d a b) s d a (N.cvtIF .f32 c v) ∧
      ScalarOutcome 64 (.vcvtsi2sdR32 d a b) s d a (N.cvtIF .f64 c v)) ∧
    (s.par.mode = .mode64 → ∀ v : BitVec 64, ReadsGpr 64 s [d, a] b v →
      ScalarOutcome 32 (.vcvtsi2ssR64 d a b) s d a (N.cvtIF .f32 c v) ∧
      ScalarOutcome 64 (.vcvtsi2sdR64 d a b) s d a (N.cvtIF .f64 c v)) ∧
    (s.par.mode = .mode32 → exec (.vcvtsi2ssR64 d a b) s = .refused .operandNotInMode ∧
      exec (.vcvtsi2sdR64 d a b) s = .refused .operandNotInMode)

/-- VHADD and VHSUB combine adjacent elements within each lane; VADDSUB subtracts even elements and adds odd ones. PS
and PD, 128 and 256 bits: in each 128-bit lane the low half of the VHADD or VHSUB result comes from the pairs of the
first source, the high half from those of the second, the even element of a pair the first operand of fadd or fsub;
VADDSUB gives fsub at even and fadd at odd elements; the flags are those of all elements together. The functions are
those of the record that the run takes (R561, log 9), with the reference record those of the same names. Where a
raised flag is unmasked the instruction ends in XM with those flags and nothing written; else the flags join MXCSR,
the bits above the result are zero, every other register, the status flags and memory are as before, and pc advances.
[44_three_operand_xmm_ymm_a.md R273-R278; 60_exceptions.md R504; 10_state.md R46] -/
def Obligations.HorizontalAndAlternatingArithmetic : Prop :=
  ∀ (s : State) (d a : Reg) (b : RegMem),
    let N := numerics s
    let c := ctl s
    let h32 := fun (n : Nat) (f : Ctl → BitVec 32 → BitVec 32 → BitVec 32 × FpFlags) (A B : BitVec n) (j : Nat) =>
      let x := if j % 4 < 2 then A else B
      let k := j / 4 * 4 + 2 * (j % 2)
      f c (elem 32 k x) (elem 32 (k + 1) x)
    let h64 := fun (n : Nat) (f : Ctl → BitVec 64 → BitVec 64 → BitVec 64 × FpFlags) (A B : BitVec n) (j : Nat) =>
      let x := if j % 2 = 0 then A else B
      f c (elem 64 (j / 2 * 2) x) (elem 64 (j / 2 * 2 + 1) x)
    let s32 := fun (n : Nat) (A B : BitVec n) (j : Nat) =>
      (if j % 2 = 0 then N.fsub .f32 else N.fadd .f32) c (elem 32 j A) (elem 32 j B)
    let s64 := fun (n : Nat) (A B : BitVec n) (j : Nat) =>
      (if j % 2 = 0 then N.fsub .f64 else N.fadd .f64) c (elem 64 j A) (elem 64 j B)
    (∀ v, Reads 128 1 s [d, a] b v →
      let A := readVec 128 s a
      PackedOutcome 32 4 (.vhaddpsX d a b) s d (h32 128 (N.fadd .f32) A v) ∧
      PackedOutcome 32 4 (.vhsubpsX d a b) s d (h32 128 (N.fsub .f32) A v) ∧
      PackedOutcome 64 2 (.vhaddpdX d a b) s d (h64 128 (N.fadd .f64) A v) ∧
      PackedOutcome 64 2 (.vhsubpdX d a b) s d (h64 128 (N.fsub .f64) A v) ∧
      PackedOutcome 32 4 (.vaddsubpsX d a b) s d (s32 128 A v) ∧
      PackedOutcome 64 2 (.vaddsubpdX d a b) s d (s64 128 A v)) ∧
    (∀ v, Reads 256 1 s [d, a] b v →
      let A := readVec 256 s a
      PackedOutcome 32 8 (.vhaddpsY d a b) s d (h32 256 (N.fadd .f32) A v) ∧
      PackedOutcome 32 8 (.vhsubpsY d a b) s d (h32 256 (N.fsub .f32) A v) ∧
      PackedOutcome 64 4 (.vhaddpdY d a b) s d (h64 256 (N.fadd .f64) A v) ∧
      PackedOutcome 64 4 (.vhsubpdY d a b) s d (h64 256 (N.fsub .f64) A v) ∧
      PackedOutcome 32 8 (.vaddsubpsY d a b) s d (s32 256 A v) ∧
      PackedOutcome 64 4 (.vaddsubpdY d a b) s d (s64 256 A v))

/-- VDPPS and VDPPD: selected products summed in the rule's order, some quiet NaN where the sum is a NaN. In each
128-bit lane the products that bits 7:4 of the immediate select (else plus zero, with no flags) are summed as (p0 +
p1) + (p2 + p3), or p0 + p1 in VDPPD, every step rounded; the elements that bits 3:0 select receive the sum, the
others plus zero; where the sum is a NaN some quiet NaN stands in its place (a free value, log 12). The flags are
those of all products and sums. The functions are those of the record that the run takes (R561, log 9), with the
reference record those of the same names. Where a raised flag is unmasked the instruction ends in XM with those flags
and nothing written; else the flags join MXCSR, the bits above the result are zero, every other register, the status
flags and memory are as before, and pc advances. [48_four_operand.md R465; 48_four_operand.md R468; 05_numerics.md
R588; 60_exceptions.md R504; 10_state.md R46] -/
def Obligations.DotProducts : Prop :=
  ∀ (s : State) (d a : Reg) (b : RegMem) (imm : BitVec 8),
    let N := numerics s
    let c := ctl s
    let p32 := fun (A B : BitVec 128) (j : Nat) =>
      if imm.toNat / 2 ^ (4 + j) % 2 = 1 then N.fmul .f32 c (elem 32 j A) (elem 32 j B) else ((0, 0) : BitVec 32 × FpFlags)
    let t32 := fun (A B : BitVec 128) =>
      let t1 := N.fadd .f32 c (p32 A B 0).1 (p32 A B 1).1
      let t2 := N.fadd .f32 c (p32 A B 2).1 (p32 A B 3).1
      let t := N.fadd .f32 c t1.1 t2.1
      (t.1, (p32 A B 0).2 ||| (p32 A B 1).2 ||| (p32 A B 2).2 ||| (p32 A B 3).2 ||| t1.2 ||| t2.2 ||| t.2)
    let p64 := fun (A B : BitVec 128) (j : Nat) =>
      if imm.toNat / 2 ^ (4 + j) % 2 = 1 then N.fmul .f64 c (elem 64 j A) (elem 64 j B) else ((0, 0) : BitVec 64 × FpFlags)
    let gives := fun (F : Fmt) (sel : Bool) (t x : BitVec F.width) =>
      (sel = false → x = 0) ∧ (sel = true → isNaN t = false → x = t) ∧
        (sel = true → isNaN t = true → isNaN x = true ∧ isSNaN x = false)
    (∀ v, Reads 128 1 s [d, a] b v →
      let A := readVec 128 s a
      (∃ g : Nat → BitVec 32, (∀ j < 4, gives .f32 (imm.getLsbD j) (t32 A v).1 (g j)) ∧
        NumericOutcome 32 4 (.vdppsX d a b imm) s d g (t32 A v).2) ∧
      ∃ g : Nat → BitVec 64, let t := N.fadd .f64 c (p64 A v 0).1 (p64 A v 1).1
        (∀ j < 2, gives .f64 (imm.getLsbD j) t.1 (g j)) ∧
        NumericOutcome 64 2 (.vdppd d a b imm) s d g ((p64 A v 0).2 ||| (p64 A v 1).2 ||| t.2)) ∧
    (∀ v, Reads 256 1 s [d, a] b v →
      let A := readVec 256 s a
      let lane := fun k => t32 (elem 128 k A) (elem 128 k v)
      ∃ g : Nat → BitVec 32, (∀ j < 8, gives .f32 (imm.getLsbD (j % 4)) (lane (j / 4)).1 (g j)) ∧
        NumericOutcome 32 8 (.vdppsY d a b imm) s d g ((lane 0).2 ||| (lane 1).2))

/-- VRCP and VRSQRT give frcp or frsqrt of each element, or of element 0, and raise no flag. The packed forms give the
approximation of every element of the source; the scalar forms that of the second source in element 0 and the rest of
the 128 bits of the first source; zero above. MXCSR is neither read nor written. The functions are those of the record
that the run takes (R561, log 9), with the reference record those of the same names. Every other register, the status
flags, MXCSR and memory are as before, and pc advances; a memory source is read where the access passes.
[43_sse_on_ymm.md R242; 43_sse_on_ymm.md R243; 44_three_operand_xmm_ymm_b.md R299; 44_three_operand_xmm_ymm_b.md R300;
05_numerics.md R586; 10_state.md R49; 10_state.md R46] -/
def Obligations.ApproximationInstructions : Prop :=
  ∀ (s : State) (d a : Reg) (b : RegMem),
    let N := numerics s
    (∀ v, Reads 128 1 s [d] b v →
      VecResult 32 4 (.vrcppsX d b) s d (fun j => N.frcp (elem 32 j v)) ∧
      VecResult 32 4 (.vrsqrtpsX d b) s d fun j => N.frsqrt (elem 32 j v)) ∧
    (∀ v, Reads 256 1 s [d] b v →
      VecResult 32 8 (.vrcppsY d b) s d (fun j => N.frcp (elem 32 j v)) ∧
      VecResult 32 8 (.vrsqrtpsY d b) s d fun j => N.frsqrt (elem 32 j v)) ∧
    (∀ v, Reads 32 1 s [d, a] b v →
      VecResult 32 4 (.vrcpss d a b) s d (fun j => if j = 0 then N.frcp v else elem 32 j (readVec 128 s a)) ∧
      VecResult 32 4 (.vrsqrtss d a b) s d fun j => if j = 0 then N.frsqrt v else elem 32 j (readVec 128 s a))

/-- The packed four-operand multiply-adds: ffma of each element with the signs of the mnemonic, alternating forms by
parity. VFMADD, VFMSUB, VFNMADD and VFNMSUB, PS and PD, 128 and 256 bits, both operand orders (W0: ModRM.rm the second
factor and the fourth operand the addend; W1 the other way round): element j is ffma of the elements j with product
and addend negated as the mnemonic says; VFMADDSUB subtracts the addend at even elements and adds it at odd ones,
VFMSUBADD the reverse (the reading of the conflict list, C13); the flags are those of all elements together. The
functions are those of the record that the run takes (R561, log 9), with the reference record those of the same names.
Where a raised flag is unmasked the instruction ends in XM with those flags and nothing written; else the flags join
MXCSR, the bits above the result are zero, every other register, the status flags and memory are as before, and pc
advances. [41_fma.md R180; 41_fma.md R181; 41_fma.md R182; 41_fma.md R185; 41_fma.md R186; 41_fma.md R189; 41_fma.md
R190; 41_fma.md R193-R196; 41_fma.md R197-R200; 90_conflicts.md C13; 60_exceptions.md R504; 10_state.md R46] -/
def Obligations.PackedMultiplyAdd : Prop :=
  ∀ (s : State) (d a c : Reg) (b : RegMem),
    let N := numerics s
    let f := fun (F : Fmt) (n : Nat) (A B C : BitVec n) (np nz : Bool) (j : Nat) =>
      N.ffma F (ctl s) np nz (elem F.width j A) (elem F.width j B) (elem F.width j C)
    let alt := fun (F : Fmt) (n : Nat) (A B C : BitVec n) (q : Nat) (j : Nat) =>
      N.ffma F (ctl s) false (decide (j % 2 = q)) (elem F.width j A) (elem F.width j B) (elem F.width j C)
    (∀ v, Reads 128 1 s [d, a, c] b v →
      let A := readVec 128 s a
      let C := readVec 128 s c
      (∀ p ∈ [(Instr.vfmaddpsX d a b c, false, false), (.vfmsubpsX d a b c, false, true),
          (.vfnmaddpsX d a b c, true, false), (.vfnmsubpsX d a b c, true, true)],
        PackedOutcome 32 4 p.1 s d (f .f32 128 A v C p.2.1 p.2.2)) ∧
      (∀ p ∈ [(Instr.vfmaddpsXW1 d a c b, false, false), (.vfmsubpsXW1 d a c b, false, true),
          (.vfnmaddpsXW1 d a c b, true, false), (.vfnmsubpsXW1 d a c b, true, true)],
        PackedOutcome 32 4 p.1 s d (f .f32 128 A C v p.2.1 p.2.2)) ∧
      PackedOutcome 32 4 (.vfmaddsubpsX d a b c) s d (alt .f32 128 A v C 0) ∧
      PackedOutcome 32 4 (.vfmaddsubpsXW1 d a c b) s d (alt .f32 128 A C v 0) ∧
      PackedOutcome 32 4 (.vfmsubaddpsX d a b c) s d (alt .f32 128 A v C 1) ∧
      PackedOutcome 32 4 (.vfmsubaddpsXW1 d a c b) s d (alt .f32 128 A C v 1) ∧
      (∀ p ∈ [(Instr.vfmaddpdX d a b c, false, false), (.vfmsubpdX d a b c, false, true),
          (.vfnmaddpdX d a b c, true, false), (.vfnmsubpdX d a b c, true, true)],
        PackedOutcome 64 2 p.1 s d (f .f64 128 A v C p.2.1 p.2.2)) ∧
      (∀ p ∈ [(Instr.vfmaddpdXW1 d a c b, false, false), (.vfmsubpdXW1 d a c b, false, true),
          (.vfnmaddpdXW1 d a c b, true, false), (.vfnmsubpdXW1 d a c b, true, true)],
        PackedOutcome 64 2 p.1 s d (f .f64 128 A C v p.2.1 p.2.2)) ∧
      PackedOutcome 64 2 (.vfmaddsubpdX d a b c) s d (alt .f64 128 A v C 0) ∧
      PackedOutcome 64 2 (.vfmaddsubpdXW1 d a c b) s d (alt .f64 128 A C v 0) ∧
      PackedOutcome 64 2 (.vfmsubaddpdX d a b c) s d (alt .f64 128 A v C 1) ∧
      PackedOutcome 64 2 (.vfmsubaddpdXW1 d a c b) s d (alt .f64 128 A C v 1)) ∧
    (∀ v, Reads 256 1 s [d, a, c] b v →
      let A := readVec 256 s a
      let C := readVec 256 s c
      (∀ p ∈ [(Instr.vfmaddpsY d a b c, false, false), (.vfmsubpsY d a b c, false, true),
          (.vfnmaddpsY d a b c, true, false), (.vfnmsubpsY d a b c, true, true)],
        PackedOutcome 32 8 p.1 s d (f .f32 256 A v C p.2.1 p.2.2)) ∧
      (∀ p ∈ [(Instr.vfmaddpsYW1 d a c b, false, false), (.vfmsubpsYW1 d a c b, false, true),
          (.vfnmaddpsYW1 d a c b, true, false), (.vfnmsubpsYW1 d a c b, true, true)],
        PackedOutcome 32 8 p.1 s d (f .f32 256 A C v p.2.1 p.2.2)) ∧
      PackedOutcome 32 8 (.vfmaddsubpsY d a b c) s d (alt .f32 256 A v C 0) ∧
      PackedOutcome 32 8 (.vfmaddsubpsYW1 d a c b) s d (alt .f32 256 A C v 0) ∧
      PackedOutcome 32 8 (.vfmsubaddpsY d a b c) s d (alt .f32 256 A v C 1) ∧
      PackedOutcome 32 8 (.vfmsubaddpsYW1 d a c b) s d (alt .f32 256 A C v 1) ∧
      (∀ p ∈ [(Instr.vfmaddpdY d a b c, false, false), (.vfmsubpdY d a b c, false, true),
          (.vfnmaddpdY d a b c, true, false), (.vfnmsubpdY d a b c, true, true)],
        PackedOutcome 64 4 p.1 s d (f .f64 256 A v C p.2.1 p.2.2)) ∧
      (∀ p ∈ [(Instr.vfmaddpdYW1 d a c b, false, false), (.vfmsubpdYW1 d a c b, false, true),
          (.vfnmaddpdYW1 d a c b, true, false), (.vfnmsubpdYW1 d a c b, true, true)],
        PackedOutcome 64 4 p.1 s d (f .f64 256 A C v p.2.1 p.2.2)) ∧
      PackedOutcome 64 4 (.vfmaddsubpdY d a b c) s d (alt .f64 256 A v C 0) ∧
      PackedOutcome 64 4 (.vfmaddsubpdYW1 d a c b) s d (alt .f64 256 A C v 0) ∧
      PackedOutcome 64 4 (.vfmsubaddpdY d a b c) s d (alt .f64 256 A v C 1) ∧
      PackedOutcome 64 4 (.vfmsubaddpdYW1 d a c b) s d (alt .f64 256 A C v 1))

/-- The scalar four-operand multiply-adds: ffma of the elements 0 in element 0, zero in every position above it.
VFMADD, VFMSUB, VFNMADD and VFNMSUB, SS and SD, both operand orders: element 0 of the destination is ffma of the
elements 0 of the sources with product and addend negated as the mnemonic says, and all bits above it are zero. The
functions are those of the record that the run takes (R561, log 9), with the reference record those of the same names.
Where a raised flag is unmasked the instruction ends in XM with those flags and nothing written; else the flags join
MXCSR, the bits above the result are zero, every other register, the status flags and memory are as before, and pc
advances. [41_fma.md R180; 41_fma.md R183; 41_fma.md R184; 41_fma.md R187; 41_fma.md R188; 41_fma.md R191; 41_fma.md
R192; 41_fma.md R193-R196; 60_exceptions.md R504; 10_state.md R46] -/
def Obligations.ScalarMultiplyAdd : Prop :=
  ∀ (s : State) (d a c : Reg) (b : RegMem),
    let N := numerics s
    (∀ v : BitVec 32, Reads 32 1 s [d, a, c] b v →
      let f := N.ffma .f32 (ctl s)
      (∀ p ∈ [(Instr.vfmaddss d a b c, false, false), (.vfmsubss d a b c, false, true), (.vfnmaddss d a b c, true, false),
          (.vfnmsubss d a b c, true, true)],
        PackedOutcome 32 1 p.1 s d fun _ => f p.2.1 p.2.2 (readVec 32 s a) v (readVec 32 s c)) ∧
      ∀ p ∈ [(Instr.vfmaddssW1 d a c b, false, false), (.vfmsubssW1 d a c b, false, true),
          (.vfnmaddssW1 d a c b, true, false), (.vfnmsubssW1 d a c b, true, true)],
        PackedOutcome 32 1 p.1 s d fun _ => f p.2.1 p.2.2 (readVec 32 s a) (readVec 32 s c) v) ∧
    (∀ v : BitVec 64, Reads 64 1 s [d, a, c] b v →
      let f := N.ffma .f64 (ctl s)
      (∀ p ∈ [(Instr.vfmaddsd d a b c, false, false), (.vfmsubsd d a b c, false, true), (.vfnmaddsd d a b c, true, false),
          (.vfnmsubsd d a b c, true, true)],
        PackedOutcome 64 1 p.1 s d fun _ => f p.2.1 p.2.2 (readVec 64 s a) v (readVec 64 s c)) ∧
      ∀ p ∈ [(Instr.vfmaddsdW1 d a c b, false, false), (.vfmsubsdW1 d a c b, false, true),
          (.vfnmaddsdW1 d a c b, true, false), (.vfnmsubsdW1 d a c b, true, true)],
        PackedOutcome 64 1 p.1 s d fun _ => f p.2.1 p.2.2 (readVec 64 s a) (readVec 64 s c) v)

/-- The packed conversions convert element by element; where the result is narrower the bits above it are zero.
VCVTPS2PD, VCVTPD2PS, VCVTDQ2PS, VCVTDQ2PD, VCVTPS2DQ, VCVTTPS2DQ, VCVTPD2DQ and VCVTTPD2DQ, 128 and 256 bits: element
j is the conversion of element j of the source (the T forms toward zero, the others by RC); the doubles to narrower
elements fill the low half of the source's width, zero above; VCVTDQ2PD raises nothing. What R223 to R226 say of
denormals beside cvt_fi is left to cvt_fi (log 34). The functions are those of the record that the run takes (R561,
log 9), with the reference record those of the same names. Where a raised flag is unmasked the instruction ends in XM
with those flags and nothing written; else the flags join MXCSR, the bits above the result are zero, every other
register, the status flags and memory are as before, and pc advances. [43_sse_on_ymm.md R221-R228; 60_exceptions.md
R504; 10_state.md R46] -/
def Obligations.PackedConversions : Prop :=
  ∀ (s : State) (d : Reg) (b : RegMem),
    let N := numerics s
    let c := ctl s
    (∀ v, Reads 64 1 s [d] b v →
      PackedOutcome 64 2 (.vcvtps2pdX d b) s d (fun j => N.cvtFF .f32 .f64 c (elem 32 j v)) ∧
      VecResult 64 2 (.vcvtdq2pdX d b) s d fun j => (N.cvtIF .f64 c (elem 32 j v)).1) ∧
    (∀ v, Reads 128 1 s [d] b v →
      PackedOutcome 64 4 (.vcvtps2pdY d b) s d (fun j => N.cvtFF .f32 .f64 c (elem 32 j v)) ∧
      VecResult 64 4 (.vcvtdq2pdY d b) s d (fun j => (N.cvtIF .f64 c (elem 32 j v)).1) ∧
      PackedOutcome 32 2 (.vcvtpd2psX d b) s d (fun j => N.cvtFF .f64 .f32 c (elem 64 j v)) ∧
      PackedOutcome 32 2 (.vcvtpd2dqX d b) s d (fun j => N.cvtFI .f64 c 32 false (elem 64 j v)) ∧
      PackedOutcome 32 2 (.vcvttpd2dqX d b) s d (fun j => N.cvtFI .f64 c 32 true (elem 64 j v)) ∧
      PackedOutcome 32 4 (.vcvtdq2psX d b) s d (fun j => N.cvtIF .f32 c (elem 32 j v)) ∧
      PackedOutcome 32 4 (.vcvtps2dqX d b) s d (fun j => N.cvtFI .f32 c 32 false (elem 32 j v)) ∧
      PackedOutcome 32 4 (.vcvttps2dqX d b) s d fun j => N.cvtFI .f32 c 32 true (elem 32 j v)) ∧
    (∀ v, Reads 256 1 s [d] b v →
      PackedOutcome 32 4 (.vcvtpd2psY d b) s d (fun j => N.cvtFF .f64 .f32 c (elem 64 j v)) ∧
      PackedOutcome 32 4 (.vcvtpd2dqY d b) s d (fun j => N.cvtFI .f64 c 32 false (elem 64 j v)) ∧
      PackedOutcome 32 4 (.vcvttpd2dqY d b) s d (fun j => N.cvtFI .f64 c 32 true (elem 64 j v)) ∧
      PackedOutcome 32 8 (.vcvtdq2psY d b) s d (fun j => N.cvtIF .f32 c (elem 32 j v)) ∧
      PackedOutcome 32 8 (.vcvtps2dqY d b) s d (fun j => N.cvtFI .f32 c 32 false (elem 32 j v)) ∧
      PackedOutcome 32 8 (.vcvttps2dqY d b) s d fun j => N.cvtFI .f32 c 32 true (elem 32 j v))

/-- Conversions to an integer and the sign-mask moves write a general register: 32-bit results zero-extended in
Mode64. VCVTSS2SI, VCVTTSS2SI, VCVTSD2SI and VCVTTSD2SI put the converted element 0, or memory value, into the general
register; the 64-bit forms complete in Mode64 and are refused in Mode32. VMOVMSKPS and VMOVMSKPD put the sign bit of
element k into bit k, zero above. A 32-bit result is zero-extended in Mode64; that bits 63:32 stay in Mode32, where
they mean nothing, is the model's choice (log 22). Where a raised flag is unmasked the instruction ends in XM; else
the flags join MXCSR. Every other register, the status flags and memory are as before. The functions are those of the
record that the run takes (R561, log 9), with the reference record those of the same names. [43_sse_on_ymm.md R237;
43_sse_on_ymm.md R238; 49_conversions.md R476; 49_conversions.md R477; 49_conversions.md R479; 49_conversions.md R480;
30_encoding.md R118; 60_exceptions.md R504; 10_state.md R46] -/
def Obligations.ResultsInGeneralRegisters : Prop :=
  ∀ (s : State) (d r : Reg) (b : RegMem),
    let N := numerics s
    let c := ctl s
    let mask := fun (w k : Nat) (i : Instr) => ∃ x : BitVec 32,
      (∀ j < 32, x.getLsbD j = (decide (j < k) && (readYmm s r).getLsbD (w * j + (w - 1)))) ∧
        GprOutcome i s d (gprAfter32 s d x) 0
    (∀ v, Reads 32 1 s [d] b v → ∀ p ∈ [(Instr.vcvtss2siR32 d b, false), (.vcvttss2siR32 d b, true)],
      GprOutcome p.1 s d (gprAfter32 s d (N.cvtFI .f32 c 32 p.2 v).1) (N.cvtFI .f32 c 32 p.2 v).2) ∧
    (∀ v, Reads 64 1 s [d] b v → ∀ p ∈ [(Instr.vcvtsd2siR32 d b, false), (.vcvttsd2siR32 d b, true)],
      GprOutcome p.1 s d (gprAfter32 s d (N.cvtFI .f64 c 32 p.2 v).1) (N.cvtFI .f64 c 32 p.2 v).2) ∧
    (s.par.mode = .mode64 →
      (∀ v, Reads 32 1 s [d] b v → ∀ p ∈ [(Instr.vcvtss2siR64 d b, false), (.vcvttss2siR64 d b, true)],
        GprOutcome p.1 s d (N.cvtFI .f32 c 64 p.2 v).1 (N.cvtFI .f32 c 64 p.2 v).2) ∧
      ∀ v, Reads 64 1 s [d] b v → ∀ p ∈ [(Instr.vcvtsd2siR64 d b, false), (.vcvttsd2siR64 d b, true)],
        GprOutcome p.1 s d (N.cvtFI .f64 c 64 p.2 v).1 (N.cvtFI .f64 c 64 p.2 v).2) ∧
    (s.par.mode = .mode32 →
      ∀ i ∈ [Instr.vcvtss2siR64 d b, .vcvttss2siR64 d b, .vcvtsd2siR64 d b, .vcvttsd2siR64 d b],
        exec i s = .refused .operandNotInMode) ∧
    ([d, r].all s.par.mode.names = true →
      mask 32 4 (.vmovmskpsX d r) ∧ mask 32 8 (.vmovmskpsY d r) ∧ mask 64 2 (.vmovmskpdX d r) ∧ mask 64 4 (.vmovmskpdY d r))

/-- The AES rounds, AESIMC, AESKEYGENASSIST and PCLMULQDQ byte by byte, in the V forms and the legacy forms. The
rounds shift rows, substitute bytes, mix columns with the field factors 2 3 1 1 or 14 11 13 9 (not in the last rounds)
and add the round key; AESIMC mixes alone; AESKEYGENASSIST substitutes words 1 and 3, also rotated and combined with
the immediate; PCLMULQDQ gives in bit k the parity of the products of bits that add up to k, of the halves that bits 0
and 4 of the immediate name. The V forms read three operands and zero bits 255:128; the legacy forms take the
destination as first source, want a memory source aligned to 16 bytes and keep bits 255:128. Everything else is as
before. [40_new_instructions.md R163; 42_aes.md R210-R216; 10_state.md R46; 20_memory.md R85] -/
def Obligations.AesAndCarrylessMultiplication : Prop :=
  ∀ (s : State) (d a : Reg) (b : RegMem) (imm : BitVec 8),
    let sr := fun i : Nat => i % 4 + 4 * ((i / 4 + i % 4) % 4)
    let ir := fun i : Nat => i % 4 + 4 * ((i / 4 + 4 - i % 4) % 4)
    let mix := fun (k0 k1 k2 k3 : Nat) (f : Nat → Byte) (i : Nat) =>
      let t := fun k => f (i / 4 * 4 + (i + k) % 4)
      gfMul k0 (t 0) ^^^ gfMul k1 (t 1) ^^^ gfMul k2 (t 2) ^^^ gfMul k3 (t 3)
    let enc := fun (x k : BitVec 128) (i : Nat) => mix 2 3 1 1 (fun n => subByte (elem 8 (sr n) x)) i ^^^ elem 8 i k
    let encLast := fun (x k : BitVec 128) (i : Nat) => subByte (elem 8 (sr i) x) ^^^ elem 8 i k
    let dec := fun (x k : BitVec 128) (i : Nat) => mix 14 11 13 9 (fun n => invSubByte (elem 8 (ir n) x)) i ^^^ elem 8 i k
    let decLast := fun (x k : BitVec 128) (i : Nat) => invSubByte (elem 8 (ir i) x) ^^^ elem 8 i k
    let imc := fun (x : BitVec 128) (i : Nat) => mix 14 11 13 9 (fun n => elem 8 n x) i
    let keygen := fun (x : BitVec 128) (i : Nat) =>
      let w := 8 * (i / 8) + 4
      if i / 4 % 2 = 0 then subByte (elem 8 (w + i % 4) x)
      else subByte (elem 8 (w + (i + 1) % 4) x) ^^^ (if i % 4 = 0 then imm else 0)
    let clmul := fun (x y : BitVec 128) (k : Nat) => BitVec.ofBool (decide (((List.range 64).countP fun i =>
      y.getLsbD (64 * (imm.toNat / 16 % 2) + i) && decide (i ≤ k ∧ k - i < 64) &&
        x.getLsbD (64 * (imm.toNat % 2) + (k - i))) % 2 = 1))
    (∀ v, Reads 128 1 s [d, a] b v →
      let A := readVec 128 s a
      VecResult 8 16 (.vaesenc d a b) s d (enc A v) ∧ VecResult 8 16 (.vaesenclast d a b) s d (encLast A v) ∧
      VecResult 8 16 (.vaesdec d a b) s d (dec A v) ∧ VecResult 8 16 (.vaesdeclast d a b) s d (decLast A v) ∧
      VecResult 1 128 (.vpclmulqdq d a b imm) s d (clmul A v)) ∧
    (∀ v, Reads 128 1 s [d] b v →
      VecResult 8 16 (.vaesimc d b) s d (imc v) ∧ VecResult 8 16 (.vaeskeygenassist d b imm) s d (keygen v)) ∧
    (∀ v, Reads 128 16 s [d] b v →
      let D := readVec 128 s d
      LegacyResult 8 16 (.aesenc d b) s d (enc D v) ∧ LegacyResult 8 16 (.aesenclast d b) s d (encLast D v) ∧
      LegacyResult 8 16 (.aesdec d b) s d (dec D v) ∧ LegacyResult 8 16 (.aesdeclast d b) s d (decLast D v) ∧
      LegacyResult 8 16 (.aesimc d b) s d (imc v) ∧ LegacyResult 8 16 (.aeskeygenassist d b imm) s d (keygen v) ∧
      LegacyResult 1 128 (.pclmulqdq d b imm) s d (clmul D v))

/-- The inverse byte substitution, row shift and column mix undo the forward ones. For every byte ISBOX of SBOX is the
byte, and for every 128-bit value the inverse row shift undoes the row shift and InvMixColumns undoes MixColumns; so
one encryption round's last form with a key, undone by the last decryption form with the same added key, gives the
value back. [42_aes.md R210; 42_aes.md R212; 42_aes.md R214] -/
def Obligations.AesTransformationsInvert : Prop :=
  (∀ v : Byte, invSubByte (subByte v) = v) ∧ (∀ x : BitVec 128, invShiftRows (shiftRows x) = x) ∧
  (∀ x : BitVec 128, invMixColumns (mixColumns x) = x) ∧ (∀ x k : BitVec 128, aesDecLast (aesEncLast x k ^^^ k) 0 = x)

/-- VMASKMOV loads and stores only the elements whose mask bit is set; the others cannot fault (check order: log 20).
Where every selected element (top bit of the mask element set) has a canonical address and mapped, or for a store
writable and non-program, bytes: the loads give the bytes of memory in the selected elements and zero in the others;
the stores write the bytes of the selected elements and no other byte. Nothing is asked of unselected elements, so an
all-zero mask completes at any address. An element selected whose first byte has a non-canonical address ends in
GP(0), whatever the other selected elements would do: that all these are looked at before the map, and at first bytes
only, is the choice of log 20. Else, where a byte of a selected element fails the map, the instruction ends in PF with
the lowest such address as a number (log 21), nothing written; else a store into the program is refused (log 19).
Everything else is as before. [40_new_instructions.md R156; 40_new_instructions.md R157; 20_memory.md R84;
20_memory.md R88; 20_memory.md R91; 60_exceptions.md R511; 10_state.md R46] -/
def Obligations.MaskedMoves : Prop :=
  ∀ (s : State) (d a : Reg) (m : MemOp), [d, a].all s.par.mode.names = true → memOpNamed s.par.mode m = true →
    let at_ := fun q : Nat => wrap s.par.mode (effAddr s m + BitVec.ofNat 64 q)
    let sel := fun (w j : Nat) => (readYmm s a).getLsbD (w * j + (w - 1))
    let canon := fun (w k : Nat) => ∀ j < k, sel w j = true → addressOk s.par.mode (at_ (w / 8 * j)) = true
    let each := fun (ok : Addr → Prop) (w k : Nat) => ∀ q < w / 8 * k, sel w (q / (w / 8)) = true → ok (at_ q)
    let pf := fun (ok : Addr → Bool) (w k : Nat) (i : Instr) =>
      let bad := fun q => q < w / 8 * k ∧ sel w (q / (w / 8)) = true ∧ ok (at_ q) = false
      canon w k → (∃ q, bad q) →
        ∃ q, bad q ∧ (∀ p, bad p → (at_ q).toNat ≤ (at_ p).toNat) ∧ exec i s = .fault (.pf (at_ q))
    let loads := fun (w k : Nat) (i : Instr) =>
      (canon w k → each (fun x => mapped s.par x = true) w k →
        VecResult 8 (w / 8 * k) i s d fun q => if sel w (q / (w / 8)) then readByte s (at_ q) else 0) ∧
      (¬ canon w k → exec i s = .fault .gp0) ∧ pf (mapped s.par) w k i
    let stores := fun (w k : Nat) (i : Instr) =>
      (canon w k → each (fun x => writable s.par x = true ∧ inProgram s.par x = false) w k → s.mem.wf = true →
        ∃ t, exec i s = .next t ∧
          (∀ q < w / 8 * k, sel w (q / (w / 8)) = true → readByte t (at_ q) = elem 8 q (readYmm s d)) ∧
          MemFrame s t (((List.range (w / 8 * k)).filter fun q => sel w (q / (w / 8))).map at_)) ∧
      (canon w k → each (fun x => writable s.par x = true) w k → ¬ each (fun x => inProgram s.par x = false) w k →
        exec i s = .refused .storeIntoProgram) ∧
      (¬ canon w k → exec i s = .fault .gp0) ∧ pf (writable s.par) w k i
    loads 32 4 (.vmaskmovpsXLoad d a m) ∧ loads 32 8 (.vmaskmovpsYLoad d a m) ∧ loads 64 2 (.vmaskmovpdXLoad d a m) ∧
    loads 64 4 (.vmaskmovpdYLoad d a m) ∧ stores 32 4 (.vmaskmovpsXStore m a d) ∧ stores 32 8 (.vmaskmovpsYStore m a d) ∧
    stores 64 2 (.vmaskmovpdXStore m a d) ∧ stores 64 4 (.vmaskmovpdYStore m a d)

/-- VZEROALL and VZEROUPPER clear the registers of the mode; VLDMXCSR loads MXCSR or ends in GP(0) on reserved bits.
VZEROALL zeroes all 256 bits and VZEROUPPER bits 255:128 of every vector register the mode can name, 8 in Mode32 and
16 in Mode64, and leaves the others. VLDMXCSR with a readable operand whose bits 31:16 are zero puts it into MXCSR,
raising nothing, and with any of them set ends in GP(0). Nothing else changes but pc. [40_new_instructions.md R166;
40_new_instructions.md R167; 40_new_instructions.md R168; 10_state.md R49; 00_scope.md R9] -/
def Obligations.RegisterStateInstructions : Prop :=
  (∀ s : State, ∃ t, exec .vzeroall s = .next t ∧
    (∀ r : Reg, readYmm t r = if r.val < (match s.par.mode with | .mode32 => 8 | .mode64 => 16) then 0 else readYmm s r) ∧
    (∀ r, readGpr t r = readGpr s r) ∧ t.flags = s.flags ∧ t.mxcsr = s.mxcsr ∧ (∀ a, readByte t a = readByte s a) ∧
    t.par = s.par ∧ t.pc = nextPc s) ∧
  (∀ s : State, ∃ t, exec .vzeroupper s = .next t ∧
    (∀ r : Reg, readYmm t r = if r.val < (match s.par.mode with | .mode32 => 8 | .mode64 => 16)
      then (0 : BitVec 128) ++ readVec 128 s r else readYmm s r) ∧
    (∀ r, readGpr t r = readGpr s r) ∧ t.flags = s.flags ∧ t.mxcsr = s.mxcsr ∧ (∀ a, readByte t a = readByte s a) ∧
    t.par = s.par ∧ t.pc = nextPc s) ∧
  (∀ (s : State) (m : MemOp) (v : BitVec 32), Reads 32 1 s [] (.mem m) v →
    (v.toNat < 2 ^ 16 → ∃ t, exec (.vldmxcsr m) s = .next t ∧ t.mxcsr = v ∧ t.flags = s.flags ∧ ControlFrame s t) ∧
    (2 ^ 16 ≤ v.toNat → exec (.vldmxcsr m) s = .fault .gp0))

/-- VPTEST, VTESTPS and VTESTPD set ZF and CF from their sources and clear PF, AF, SF and OF. VPTEST sets ZF where the
and of the sources is zero and CF where the and of the complemented first source with the second is; VTESTPS and
VTESTPD do the same on the sign bits of the elements alone; 128 and 256 bits. No register, no byte of memory and no
bit of MXCSR changes. [40_new_instructions.md R164; 40_new_instructions.md R165; 43_sse_on_ymm.md R241; 10_state.md
R52] -/
def Obligations.TestInstructions : Prop :=
  ∀ (s : State) (a : Reg) (b : RegMem),
    let zf := fun (n w k : Nat) (A v : BitVec n) => decide (∀ j < k, ¬((elem w j A).msb = true ∧ (elem w j v).msb = true))
    let cf := fun (n w k : Nat) (A v : BitVec n) => decide (∀ j < k, (elem w j v).msb = true → (elem w j A).msb = true)
    (∀ v, Reads 128 1 s [a] b v →
      let A := readVec 128 s a
      TestResult (.vptestX a b) s (zf 128 1 128 A v) (cf 128 1 128 A v) ∧
      TestResult (.vtestpsX a b) s (zf 128 32 4 A v) (cf 128 32 4 A v) ∧
      TestResult (.vtestpdX a b) s (zf 128 64 2 A v) (cf 128 64 2 A v)) ∧
    (∀ v, Reads 256 1 s [a] b v →
      let A := readVec 256 s a
      TestResult (.vptestY a b) s (zf 256 1 256 A v) (cf 256 1 256 A v) ∧
      TestResult (.vtestpsY a b) s (zf 256 32 8 A v) (cf 256 32 8 A v) ∧
      TestResult (.vtestpdY a b) s (zf 256 64 4 A v) (cf 256 64 4 A v))
end

