-- ==== Sys2Proof/Laws/Lanes.lean ====
section
/-! SUPPORT. What the element views and the ways of building a vector give, once for all widths. -/

namespace Sys2Proof.Machine

/-- Every bit of a built value. -/
theorem getLsbD_build {n w : Nat} (g : Nat → BitVec w) (k j : Nat) :
    (build n w g k).getLsbD j = (decide (j < n) && decide (j < w * k) && (g (j / w)).getLsbD (j % w)) := by
  induction k with
  | zero => simp [build]
  | succ k ih =>
    have hw : w * (k + 1) = w * k + w := by ring
    simp only [build, BitVec.getLsbD_or, ih, BitVec.getLsbD_shiftLeft, BitVec.getLsbD_setWidth]
    rcases Nat.lt_or_ge j (w * k) with h | h
    · have h' : j < w * (k + 1) := by omega
      simp [h, h']
    · rcases Nat.lt_or_ge j (w * (k + 1)) with h' | h'
      · have hpos : 0 < w := by rcases Nat.eq_zero_or_pos w with e | e <;> [simp [e] at h'; exact e]
        have hd : j / w = k := by
          apply Nat.div_eq_of_lt_le <;> [(rw [Nat.mul_comm]; exact h); (rw [Nat.mul_comm]; exact h')]
        have hm : j % w = j - w * k := by rw [Nat.mod_eq_sub_mul_div, hd]
        simp only [hd, hm, h', Nat.not_lt.mpr h, decide_true, decide_false, Bool.and_false, Bool.false_and, Bool.false_or,
          Bool.and_true, Bool.not_false]
        by_cases hn : j < n
        · simp [hn, show j - w * k < n by omega]
        · simp [hn]
      · have e1 : ¬ j < w * k := by omega
        have e2 : ¬ j < w * (k + 1) := by omega
        have e3 : w ≤ j - w * k := by omega
        simp [e1, e2, BitVec.getLsbD_of_ge _ _ e3]

/-- An element of a built value is the one that was put there. -/
theorem elem_build {n w : Nat} (g : Nat → BitVec w) {k i : Nat} (hi : i < k) (hn : w * k ≤ n) :
    elem w i (build n w g k) = g i := by
  apply BitVec.eq_of_getLsbD_eq
  intro j hj
  have h1 : w * i + j < w * k := by
    calc w * i + j < w * i + w := by omega
      _ = w * (i + 1) := by ring
      _ ≤ w * k := Nat.mul_le_mul_left w hi
  have hd : (w * i + j) / w = i := by
    rw [Nat.mul_add_div (by omega), Nat.div_eq_of_lt hj, Nat.add_zero]
  have hm : (w * i + j) % w = j := by rw [Nat.mul_add_mod, Nat.mod_eq_of_lt hj]
  unfold elem
  rw [BitVec.getLsbD_extractLsb', getLsbD_build, hd, hm]
  simp [hj, h1, show w * i + j < n by omega]

/-- Above its last element a built value is zero. -/
theorem getLsbD_build_above {n w : Nat} (g : Nat → BitVec w) {k j : Nat} (h : w * k ≤ j) :
    (build n w g k).getLsbD j = false := by
  simp [getLsbD_build, Nat.not_lt.mpr h]

/-- An element of a vector of which all are given. -/
theorem elem_vec {n w : Nat} (g : Nat → BitVec w) {i : Nat} (hi : i < n / w) : elem w i (vec n w g) = g i :=
  elem_build g hi (Nat.mul_div_le n w)

/-- An element of a vector with one element replaced. -/
theorem elem_setElem {n w : Nat} (x : BitVec n) (v : BitVec w) {i j : Nat} (hj : j < n / w) :
    elem w j (setElem w i v x) = if j = i then v else elem w j x := elem_vec _ hj

/-- An element of an element-by-element result. -/
theorem elem_zipVec {n w : Nat} (f : BitVec w → BitVec w → BitVec w) (a b : BitVec n) {i : Nat} (hi : i < n / w) :
    elem w i (zipVec w f a b) = f (elem w i a) (elem w i b) := elem_vec _ hi

/-- The elements of a floating-point result. -/
theorem elem_vecFp {n w : Nat} (g : Nat → BitVec w × FpFlags) {i : Nat} (hi : i < n / w) :
    elem w i (vecFp n w g).1 = (g i).1 := elem_build _ hi (Nat.mul_div_le n w)

/-- The flags of a floating-point result. -/
@[simp] theorem vecFp_flags {n w : Nat} (g : Nat → BitVec w × FpFlags) :
    (vecFp n w g).2 = unionFlags (fun i => (g i).2) (n / w) := rfl

/-- The flags of the first elements of a floating-point result. -/
@[simp] theorem vecFpOf_flags {n w k : Nat} (g : Nat → BitVec w × FpFlags) :
    (vecFpOf n w k g).2 = unionFlags (fun i => (g i).2) k := rfl

/-- The elements of a floating-point result that fills the low part of its register. -/
theorem elem_vecFpOf {n w k : Nat} (g : Nat → BitVec w × FpFlags) {i : Nat} (hi : i < k) (hn : w * k ≤ n) :
    elem w i (vecFpOf n w k g).1 = (g i).1 := elem_build _ hi hn

/-- Widening a value keeps its elements. -/
theorem elem_setWidth {n m w i : Nat} (x : BitVec n) (hm : w * i + w ≤ m) :
    elem w i (x.setWidth m) = elem w i x := by
  apply BitVec.eq_of_getLsbD_eq
  intro j hj
  simp [elem, hj, show w * i + j < m by omega]

/-- Two values whose elements agree are equal. -/
theorem eq_of_elem_eq {n w : Nat} (hw : 0 < w) (hd : w * (n / w) = n) {x y : BitVec n}
    (h : ∀ i < n / w, elem w i x = elem w i y) : x = y := by
  apply BitVec.eq_of_getLsbD_eq
  intro j hj
  have hi : j / w < n / w := by
    rw [Nat.div_lt_iff_lt_mul hw, Nat.mul_comm, hd]; exact hj
  have e := congrArg (fun z => z.getLsbD (j % w)) (h _ hi)
  have hm : j % w < w := Nat.mod_lt _ hw
  simpa [elem, hm, Nat.div_add_mod] using e

end Sys2Proof.Machine
end

