-- ==== Sys2Proof/Laws/Memory.lean ====
section
/-! SUPPORT. Memory: every operation keeps the canonical form; a read after a write; what an access of several bytes writes. -/

namespace Sys2Proof.Machine

/-! ### The canonical form -/

/-- A canonical memory from an address on is one from any lower address on. -/
theorem Memory.wfFrom_mono {lo lo' : Nat} {m : Memory} (h : lo' ≤ lo) (w : Memory.wfFrom lo m = true) :
    Memory.wfFrom lo' m = true := by
  cases m with
  | nil => rfl
  | cons c t =>
    obtain ⟨k, b⟩ := c
    simp only [Memory.wfFrom, Bool.and_eq_true, decide_eq_true_eq] at w ⊢
    exact ⟨⟨le_trans h w.1.1, w.1.2⟩, w.2⟩

/-- A write keeps the canonical form from an address on that it does not go below. -/
theorem Memory.wfFrom_write {lo a : Nat} {m : Memory} (v : Byte) (h : lo ≤ a) (w : Memory.wfFrom lo m = true) :
    Memory.wfFrom lo (Memory.write m a v) = true := by
  induction m generalizing lo with
  | nil =>
    unfold Memory.write
    split
    · rfl
    · rename_i hv; simp [Memory.wfFrom, h, hv]
  | cons c t ih =>
    obtain ⟨k, b⟩ := c
    simp only [Memory.wfFrom, Bool.and_eq_true, decide_eq_true_eq, bne_iff_ne, ne_eq] at w
    unfold Memory.write
    split
    · rename_i hak
      split
      · simp [Memory.wfFrom, w.1.1, w.1.2, w.2]
      · rename_i hv; simp [Memory.wfFrom, h, hv, hak, w.1.2, w.2]
    · split
      · rename_i _ hak
        split
        · exact Memory.wfFrom_mono (by omega) w.2
        · rename_i hv; simp [Memory.wfFrom, hv, hak, w.1.1, w.2]
      · simp only [Memory.wfFrom, Bool.and_eq_true, decide_eq_true_eq, bne_iff_ne, ne_eq]
        exact ⟨⟨w.1.1, w.1.2⟩, ih (by omega) w.2⟩

/-- A write keeps the canonical form. -/
theorem Memory.wf_write {m : Memory} (a : Nat) (v : Byte) (w : m.wf = true) : (Memory.write m a v).wf = true :=
  Memory.wfFrom_write v (Nat.zero_le a) w

/-- Writing several bytes keeps the canonical form. -/
theorem Memory.wf_writeBytes {m : Memory} (as : List Addr) (v : Nat) (w : m.wf = true) :
    (Memory.writeBytes m as v).wf = true := by
  induction as generalizing m v with
  | nil => exact w
  | cons a t ih => exact ih _ (Memory.wf_write _ _ w)

/-- Writing selected elements keeps the canonical form. -/
theorem Memory.wf_writeSelected {n w : Nat} {m : Memory} (mo : Mode) (a : Addr) (x : BitVec n) (l : List Nat)
    (h : m.wf = true) : (Memory.writeSelected w mo a x m l).wf = true := by
  induction l generalizing m with
  | nil => exact h
  | cons i t ih => exact ih (Memory.wf_writeBytes _ _ h)

/-- The memory of the reset state is canonical. -/
theorem reset_mem_wf : State.reset.mem.wf = true := rfl

/-! ### Reads after writes -/

/-- A write leaves every other byte. -/
theorem Memory.read_write_ne (m : Memory) {a a' : Nat} (v : Byte) (h : a' ≠ a) :
    Memory.read (Memory.write m a v) a' = Memory.read m a' := by
  induction m with
  | nil =>
    unfold Memory.write
    split <;> simp [Memory.read, Ne.symm h]
  | cons c t ih =>
    obtain ⟨k, b⟩ := c
    unfold Memory.write
    split
    · split <;> simp [Memory.read, Ne.symm h]
    · split
      · rename_i _ hak
        subst hak
        split <;> simp [Memory.read, Ne.symm h]
      · simp [Memory.read, ih]

/-- Below its first address a canonical memory holds what an unlisted address reads as. -/
theorem Memory.read_below {lo a : Nat} {m : Memory} (h : a < lo) (w : Memory.wfFrom lo m = true) :
    Memory.read m a = Memory.unlisted := by
  induction m generalizing lo with
  | nil => rfl
  | cons c t ih =>
    obtain ⟨k, b⟩ := c
    simp only [Memory.wfFrom, Bool.and_eq_true, decide_eq_true_eq] at w
    have : k ≠ a := by omega
    simp only [Memory.read, this, if_false]
    exact ih (by omega) w.2

/-- A canonical memory gives back the byte just written. -/
theorem Memory.read_write_from {lo a : Nat} {m : Memory} (v : Byte) (w : Memory.wfFrom lo m = true) :
    Memory.read (Memory.write m a v) a = v := by
  induction m generalizing lo with
  | nil =>
    unfold Memory.write
    split <;> simp_all [Memory.read]
  | cons c t ih =>
    obtain ⟨k, b⟩ := c
    have w' := w
    simp only [Memory.wfFrom, Bool.and_eq_true, decide_eq_true_eq] at w'
    unfold Memory.write
    split
    · rename_i hak
      split
      · rename_i hv
        have hk : k ≠ a := by omega
        rw [hv]
        simp only [Memory.read, hk, if_false]
        exact Memory.read_below (by omega) w'.2
      · simp [Memory.read]
    · split
      · rename_i _ hak
        subst hak
        split
        · rename_i hv
          rw [hv]
          exact Memory.read_below (Nat.lt_succ_self a) w'.2
        · simp [Memory.read]
      · rename_i _ hak
        have hk : k ≠ a := fun e => hak e.symm
        simp only [Memory.read, hk, if_false]
        exact ih w'.2

/-- A canonical memory gives back the byte just written. -/
theorem Memory.read_write_self {m : Memory} (a : Nat) (v : Byte) (w : m.wf = true) :
    Memory.read (Memory.write m a v) a = v := Memory.read_write_from v w

/-! ### Several bytes -/

/-- Bytes outside the addresses written are unchanged. -/
theorem Memory.read_writeBytes_notMem (m : Memory) (as : List Addr) (v : Nat) {a : Addr} (h : a ∉ as) :
    Memory.read (Memory.writeBytes m as v) a.toNat = Memory.read m a.toNat := by
  induction as generalizing m v with
  | nil => rfl
  | cons b t ih =>
    simp only [List.mem_cons, not_or] at h
    simp only [Memory.writeBytes]
    rw [ih _ _ h.2, Memory.read_write_ne]
    exact fun e => h.1 (BitVec.eq_of_toNat_eq e)

/-- Byte `k` of what was written, at distinct addresses. -/
theorem Memory.read_writeBytes_get {m : Memory} (as : List Addr) (v : Nat) (w : m.wf = true) (nd : as.Nodup)
    {k : Nat} (hk : k < as.length) :
    Memory.read (Memory.writeBytes m as v) (as[k]).toNat = BitVec.ofNat 8 (v / 256 ^ k) := by
  induction as generalizing m v k with
  | nil => simp at hk
  | cons b t ih =>
    rw [List.nodup_cons] at nd
    cases k with
    | zero =>
      simp only [Memory.writeBytes, List.getElem_cons_zero, Nat.pow_zero, Nat.div_one]
      rw [Memory.read_writeBytes_notMem _ _ _ nd.1, Memory.read_write_self _ _ w]
    | succ k =>
      simp only [List.length_cons, Nat.add_lt_add_iff_right] at hk
      simp only [Memory.writeBytes, List.getElem_cons_succ]
      rw [ih _ (Memory.wf_write _ _ w) nd.2 hk, Nat.div_div_eq_div_mul, Nat.pow_succ, Nat.mul_comm]

/-! ### The addresses of an access -/

@[simp] theorem spanOf_length (m : Mode) (a : Addr) (n : Nat) : (spanOf m a n).length = n := by
  simp [spanOf]

/-- Address `k` of an access. -/
theorem spanOf_getElem (m : Mode) (a : Addr) (n : Nat) {k : Nat} (hk : k < (spanOf m a n).length) :
    (spanOf m a n)[k] = wrap m (a + BitVec.ofNat 64 k) := by
  simp [spanOf]

/-- The addresses of an access are those `k` bytes on, modulo the address width. -/
theorem mem_spanOf (m : Mode) (a x : Addr) (n : Nat) :
    x ∈ spanOf m a n ↔ ∃ k < n, wrap m (a + BitVec.ofNat 64 k) = x := by
  simp [spanOf]

/-- Two offsets below `2 ^ 32` are different addresses. -/
theorem wrap_add_inj (m : Mode) (a : Addr) {i j : Nat} (hi : i < 2 ^ 32) (hj : j < 2 ^ 32)
    (h : wrap m (a + BitVec.ofNat 64 i) = wrap m (a + BitVec.ofNat 64 j)) : i = j := by
  have e := congrArg BitVec.toNat h
  cases m <;> simp [wrap, BitVec.toNat_add] at e <;> omega

/-- The addresses of an access of up to `2 ^ 32` bytes are distinct. -/
theorem spanOf_nodup (m : Mode) (a : Addr) {n : Nat} (hn : n ≤ 2 ^ 32) : (spanOf m a n).Nodup := by
  refine List.Nodup.map_on ?_ List.nodup_range
  intro i hi j hj h
  rw [List.mem_range] at hi hj
  exact wrap_add_inj m a (by omega) (by omega) h

/-- What an access writes is read back, byte by byte. -/
theorem Memory.read_writeBytes_span {mem : Memory} (m : Mode) (a : Addr) {n : Nat} (v : Nat) (w : mem.wf = true)
    (hn : n ≤ 2 ^ 32) {k : Nat} (hk : k < n) :
    Memory.read (Memory.writeBytes mem (spanOf m a n) v) (wrap m (a + BitVec.ofNat 64 k)).toNat =
      BitVec.ofNat 8 (v / 256 ^ k) := by
  have h := Memory.read_writeBytes_get (spanOf m a n) v w (spanOf_nodup m a hn) (k := k) (by simpa using hk)
  rwa [spanOf_getElem] at h

/-- Byte `k` of a value. -/
theorem byte_of_toNat {n : Nat} (v : BitVec n) (k : Nat) :
    BitVec.ofNat 8 (v.toNat / 256 ^ k) = v.extractLsb' (8 * k) 8 := by
  apply BitVec.eq_of_toNat_eq
  rw [BitVec.toNat_ofNat, BitVec.extractLsb'_toNat, Nat.shiftRight_eq_div_pow, Nat.pow_mul]

/-! ### Values read -/

/-- The number that bytes make has each of them as its digit. -/
theorem leNat_digit (l : List Byte) {k : Nat} (hk : k < l.length) : leNat l / 256 ^ k % 256 = (l[k]).toNat := by
  induction l generalizing k with
  | nil => simp at hk
  | cons b t ih =>
    have hb : b.toNat < 256 := b.isLt
    cases k with
    | zero => simp [leNat]; omega
    | succ k =>
      simp only [List.length_cons, Nat.add_lt_add_iff_right] at hk
      have e : leNat (b :: t) / 256 ^ (k + 1) = leNat t / 256 ^ k := by
        rw [Nat.pow_succ, Nat.mul_comm, ← Nat.div_div_eq_div_mul]
        congr 1
        simp only [leNat]
        omega
      rw [e, ih hk, List.getElem_cons_succ]

/-- Byte `k` of a value read is the byte at address `k` of the access. -/
theorem Memory.value_byte (w : Nat) (m : Memory) (as : List Addr) (hw : w = 8 * as.length) {k : Nat}
    (hk : k < as.length) : (Memory.value w m as).extractLsb' (8 * k) 8 = Memory.read m (as[k]).toNat := by
  have h := leNat_digit (as.map fun a => Memory.read m a.toNat) (k := k) (by simpa using hk)
  apply BitVec.eq_of_toNat_eq
  rw [BitVec.extractLsb'_toNat, Memory.value, BitVec.toNat_ofNat, Nat.shiftRight_eq_div_pow, Nat.pow_mul]
  rw [List.getElem_map] at h
  have hlt : (256 : Nat) ^ (k + 1) ∣ 2 ^ w := by
    rw [hw, Nat.pow_mul]
    exact Nat.pow_dvd_pow 256 hk
  generalize leNat _ = N at h ⊢
  have e : N % 2 ^ w / 256 ^ k % 256 = N / 256 ^ k % 256 := by
    obtain ⟨c, hc⟩ := hlt
    have h1 : N % 2 ^ w % 256 ^ (k + 1) = N % 256 ^ (k + 1) := Nat.mod_mod_of_dvd _ ⟨c, hc⟩
    have h2 : ∀ M : Nat, M / 256 ^ k % 256 = M % 256 ^ (k + 1) / 256 ^ k := by
      intro M
      rw [Nat.pow_succ, Nat.mod_mul_right_div_self]
    rw [h2, h1, ← h2]
  show N % 2 ^ w / 256 ^ k % 256 = _
  rw [e, h]

end Sys2Proof.Machine
end

