-- ==== Sys2Proof/Laws/State.lean ====
section
/-! SUPPORT. One lemma per field per update of the state, and what each register read gives after each register write. -/

namespace Sys2Proof.Machine

/-! ### setYmm -/

@[simp] theorem setYmm_par (s : State) (r : Reg) (x : BitVec 256) : (setYmm s r x).par = s.par := rfl
@[simp] theorem setYmm_mxcsr (s : State) (r : Reg) (x : BitVec 256) : (setYmm s r x).mxcsr = s.mxcsr := rfl
@[simp] theorem setYmm_gpr (s : State) (r : Reg) (x : BitVec 256) : (setYmm s r x).gpr = s.gpr := rfl
@[simp] theorem setYmm_flags (s : State) (r : Reg) (x : BitVec 256) : (setYmm s r x).flags = s.flags := rfl
@[simp] theorem setYmm_pc (s : State) (r : Reg) (x : BitVec 256) : (setYmm s r x).pc = s.pc := rfl
@[simp] theorem setYmm_length (s : State) (r : Reg) (x : BitVec 256) : (setYmm s r x).length = s.length := rfl
@[simp] theorem setYmm_mem (s : State) (r : Reg) (x : BitVec 256) : (setYmm s r x).mem = s.mem := rfl

/-! ### setGpr -/

@[simp] theorem setGpr_par (s : State) (r : Reg) (x : BitVec 64) : (setGpr s r x).par = s.par := rfl
@[simp] theorem setGpr_ymm (s : State) (r : Reg) (x : BitVec 64) : (setGpr s r x).ymm = s.ymm := rfl
@[simp] theorem setGpr_mxcsr (s : State) (r : Reg) (x : BitVec 64) : (setGpr s r x).mxcsr = s.mxcsr := rfl
@[simp] theorem setGpr_flags (s : State) (r : Reg) (x : BitVec 64) : (setGpr s r x).flags = s.flags := rfl
@[simp] theorem setGpr_pc (s : State) (r : Reg) (x : BitVec 64) : (setGpr s r x).pc = s.pc := rfl
@[simp] theorem setGpr_length (s : State) (r : Reg) (x : BitVec 64) : (setGpr s r x).length = s.length := rfl
@[simp] theorem setGpr_mem (s : State) (r : Reg) (x : BitVec 64) : (setGpr s r x).mem = s.mem := rfl

/-! ### advance -/

@[simp] theorem advance_par (s : State) : (advance s).par = s.par := rfl
@[simp] theorem advance_ymm (s : State) : (advance s).ymm = s.ymm := rfl
@[simp] theorem advance_mxcsr (s : State) : (advance s).mxcsr = s.mxcsr := rfl
@[simp] theorem advance_gpr (s : State) : (advance s).gpr = s.gpr := rfl
@[simp] theorem advance_flags (s : State) : (advance s).flags = s.flags := rfl
@[simp] theorem advance_pc (s : State) : (advance s).pc = nextPc s := rfl
@[simp] theorem advance_length (s : State) : (advance s).length = s.length := rfl
@[simp] theorem advance_mem (s : State) : (advance s).mem = s.mem := rfl

/-! ### writeVex, writeLegacy, writeGpr64 -/

@[simp] theorem writeVex_par {n : Nat} (s : State) (d : Reg) (x : BitVec n) : (writeVex s d x).par = s.par := rfl
@[simp] theorem writeVex_mxcsr {n : Nat} (s : State) (d : Reg) (x : BitVec n) : (writeVex s d x).mxcsr = s.mxcsr := rfl
@[simp] theorem writeVex_gpr {n : Nat} (s : State) (d : Reg) (x : BitVec n) : (writeVex s d x).gpr = s.gpr := rfl
@[simp] theorem writeVex_flags {n : Nat} (s : State) (d : Reg) (x : BitVec n) : (writeVex s d x).flags = s.flags := rfl
@[simp] theorem writeVex_pc {n : Nat} (s : State) (d : Reg) (x : BitVec n) : (writeVex s d x).pc = s.pc := rfl
@[simp] theorem writeVex_length {n : Nat} (s : State) (d : Reg) (x : BitVec n) : (writeVex s d x).length = s.length := rfl
@[simp] theorem writeVex_mem {n : Nat} (s : State) (d : Reg) (x : BitVec n) : (writeVex s d x).mem = s.mem := rfl

@[simp] theorem writeLegacy_par (s : State) (d : Reg) (x : BitVec 128) : (writeLegacy s d x).par = s.par := rfl
@[simp] theorem writeLegacy_mxcsr (s : State) (d : Reg) (x : BitVec 128) : (writeLegacy s d x).mxcsr = s.mxcsr := rfl
@[simp] theorem writeLegacy_gpr (s : State) (d : Reg) (x : BitVec 128) : (writeLegacy s d x).gpr = s.gpr := rfl
@[simp] theorem writeLegacy_flags (s : State) (d : Reg) (x : BitVec 128) : (writeLegacy s d x).flags = s.flags := rfl
@[simp] theorem writeLegacy_pc (s : State) (d : Reg) (x : BitVec 128) : (writeLegacy s d x).pc = s.pc := rfl
@[simp] theorem writeLegacy_length (s : State) (d : Reg) (x : BitVec 128) : (writeLegacy s d x).length = s.length := rfl
@[simp] theorem writeLegacy_mem (s : State) (d : Reg) (x : BitVec 128) : (writeLegacy s d x).mem = s.mem := rfl

@[simp] theorem writeGpr64_par (s : State) (d : Reg) (x : BitVec 64) : (writeGpr64 s d x).par = s.par := rfl
@[simp] theorem writeGpr64_ymm (s : State) (d : Reg) (x : BitVec 64) : (writeGpr64 s d x).ymm = s.ymm := rfl
@[simp] theorem writeGpr64_mxcsr (s : State) (d : Reg) (x : BitVec 64) : (writeGpr64 s d x).mxcsr = s.mxcsr := rfl
@[simp] theorem writeGpr64_flags (s : State) (d : Reg) (x : BitVec 64) : (writeGpr64 s d x).flags = s.flags := rfl
@[simp] theorem writeGpr64_pc (s : State) (d : Reg) (x : BitVec 64) : (writeGpr64 s d x).pc = s.pc := rfl
@[simp] theorem writeGpr64_length (s : State) (d : Reg) (x : BitVec 64) : (writeGpr64 s d x).length = s.length := rfl
@[simp] theorem writeGpr64_mem (s : State) (d : Reg) (x : BitVec 64) : (writeGpr64 s d x).mem = s.mem := rfl

/-! ### writeGpr32 -/

/-- A 32-bit destination is written like a 64-bit one, with the value the mode gives it. -/
theorem writeGpr32_eq (s : State) (d : Reg) (x : BitVec 32) :
    writeGpr32 s d x =
      setGpr s d (match s.par.mode with
        | .mode64 => x.setWidth 64
        | .mode32 => (readGpr s d).extractLsb' 32 32 ++ x) := by
  unfold writeGpr32; cases s.par.mode <;> rfl

@[simp] theorem writeGpr32_par (s : State) (d : Reg) (x : BitVec 32) : (writeGpr32 s d x).par = s.par := by
  rw [writeGpr32_eq]; rfl
@[simp] theorem writeGpr32_ymm (s : State) (d : Reg) (x : BitVec 32) : (writeGpr32 s d x).ymm = s.ymm := by
  rw [writeGpr32_eq]; rfl
@[simp] theorem writeGpr32_mxcsr (s : State) (d : Reg) (x : BitVec 32) : (writeGpr32 s d x).mxcsr = s.mxcsr := by
  rw [writeGpr32_eq]; rfl
@[simp] theorem writeGpr32_flags (s : State) (d : Reg) (x : BitVec 32) : (writeGpr32 s d x).flags = s.flags := by
  rw [writeGpr32_eq]; rfl
@[simp] theorem writeGpr32_pc (s : State) (d : Reg) (x : BitVec 32) : (writeGpr32 s d x).pc = s.pc := by
  rw [writeGpr32_eq]; rfl
@[simp] theorem writeGpr32_length (s : State) (d : Reg) (x : BitVec 32) : (writeGpr32 s d x).length = s.length := by
  rw [writeGpr32_eq]; rfl
@[simp] theorem writeGpr32_mem (s : State) (d : Reg) (x : BitVec 32) : (writeGpr32 s d x).mem = s.mem := by
  rw [writeGpr32_eq]; rfl

/-! ### Reads after writes -/

@[simp] theorem readYmm_setYmm_self (s : State) (r : Reg) (x : BitVec 256) : readYmm (setYmm s r x) r = x := by
  simp [readYmm, setYmm, Vector.get_eq_getElem]

theorem readYmm_setYmm_ne (s : State) {r q : Reg} (x : BitVec 256) (h : q ≠ r) :
    readYmm (setYmm s r x) q = readYmm s q := by
  have : r.val ≠ q.val := fun e => h (Fin.ext e.symm)
  simp [readYmm, setYmm, Vector.get_eq_getElem, Vector.getElem_set_ne, this]

@[simp] theorem readGpr_setGpr_self (s : State) (r : Reg) (x : BitVec 64) : readGpr (setGpr s r x) r = x := by
  simp [readGpr, setGpr, Vector.get_eq_getElem]

theorem readGpr_setGpr_ne (s : State) {r q : Reg} (x : BitVec 64) (h : q ≠ r) :
    readGpr (setGpr s r x) q = readGpr s q := by
  have : r.val ≠ q.val := fun e => h (Fin.ext e.symm)
  simp [readGpr, setGpr, Vector.get_eq_getElem, Vector.getElem_set_ne, this]

@[simp] theorem readYmm_writeVex_self {n : Nat} (s : State) (d : Reg) (x : BitVec n) :
    readYmm (writeVex s d x) d = x.setWidth 256 := readYmm_setYmm_self s d _

theorem readYmm_writeVex_ne {n : Nat} (s : State) {d r : Reg} (x : BitVec n) (h : r ≠ d) :
    readYmm (writeVex s d x) r = readYmm s r := readYmm_setYmm_ne s _ h

@[simp] theorem readYmm_writeLegacy_self (s : State) (d : Reg) (x : BitVec 128) :
    readYmm (writeLegacy s d x) d = (readYmm s d).extractLsb' 128 128 ++ x := readYmm_setYmm_self s d _

theorem readYmm_writeLegacy_ne (s : State) {d r : Reg} (x : BitVec 128) (h : r ≠ d) :
    readYmm (writeLegacy s d x) r = readYmm s r := readYmm_setYmm_ne s _ h

@[simp] theorem readGpr_setYmm (s : State) (r q : Reg) (x : BitVec 256) : readGpr (setYmm s r x) q = readGpr s q := rfl
@[simp] theorem readYmm_setGpr (s : State) (r q : Reg) (x : BitVec 64) : readYmm (setGpr s r x) q = readYmm s q := rfl
@[simp] theorem readGpr_writeVex {n : Nat} (s : State) (d q : Reg) (x : BitVec n) :
    readGpr (writeVex s d x) q = readGpr s q := rfl
@[simp] theorem readGpr_writeLegacy (s : State) (d q : Reg) (x : BitVec 128) :
    readGpr (writeLegacy s d x) q = readGpr s q := rfl
@[simp] theorem readYmm_advance (s : State) (r : Reg) : readYmm (advance s) r = readYmm s r := rfl
@[simp] theorem readGpr_advance (s : State) (r : Reg) : readGpr (advance s) r = readGpr s r := rfl
@[simp] theorem readByte_advance (s : State) (a : Addr) : readByte (advance s) a = readByte s a := rfl
@[simp] theorem readByte_setYmm (s : State) (r : Reg) (x : BitVec 256) (a : Addr) :
    readByte (setYmm s r x) a = readByte s a := rfl
@[simp] theorem readByte_writeVex {n : Nat} (s : State) (d : Reg) (x : BitVec n) (a : Addr) :
    readByte (writeVex s d x) a = readByte s a := rfl
@[simp] theorem nextPc_writeVex {n : Nat} (s : State) (d : Reg) (x : BitVec n) : nextPc (writeVex s d x) = nextPc s := rfl
@[simp] theorem nextPc_writeLegacy (s : State) (d : Reg) (x : BitVec 128) : nextPc (writeLegacy s d x) = nextPc s := rfl
@[simp] theorem nextPc_setGpr (s : State) (d : Reg) (x : BitVec 64) : nextPc (setGpr s d x) = nextPc s := rfl
@[simp] theorem nextPc_setYmm (s : State) (d : Reg) (x : BitVec 256) : nextPc (setYmm s d x) = nextPc s := rfl

/-- The state with other fields is read the same. -/
@[simp] theorem readYmm_mk (s : State) (f : StatusFlags) (r : Reg) : readYmm { s with flags := f } r = readYmm s r := rfl
@[simp] theorem readYmm_mxcsr (s : State) (m : BitVec 32) (r : Reg) : readYmm { s with mxcsr := m } r = readYmm s r := rfl
@[simp] theorem readYmm_mem (s : State) (m : Memory) (r : Reg) : readYmm { s with mem := m } r = readYmm s r := rfl
@[simp] theorem readGpr_flags (s : State) (f : StatusFlags) (r : Reg) : readGpr { s with flags := f } r = readGpr s r := rfl
@[simp] theorem readGpr_mxcsr (s : State) (m : BitVec 32) (r : Reg) : readGpr { s with mxcsr := m } r = readGpr s r := rfl
@[simp] theorem readGpr_mem (s : State) (m : Memory) (r : Reg) : readGpr { s with mem := m } r = readGpr s r := rfl
@[simp] theorem nextPc_flags (s : State) (f : StatusFlags) : nextPc { s with flags := f } = nextPc s := rfl
@[simp] theorem nextPc_mxcsr (s : State) (m : BitVec 32) : nextPc { s with mxcsr := m } = nextPc s := rfl
@[simp] theorem nextPc_mem (s : State) (m : Memory) : nextPc { s with mem := m } = nextPc s := rfl

end Sys2Proof.Machine
end

