-- ==== Sys2Proof/Laws/Forms.lean ====
section
/-! SUPPORT. For each operand form, what it answers when its operands can be used, and what a next state of it looks like. -/

namespace Sys2Proof.Machine

/-! ### The frame -/

/-- The state after flags were raised and joined into MXCSR. -/
def raised (s : State) (fl : FpFlags) : State := { s with mxcsr := s.mxcsr ||| fl.setWidth 32 }

@[simp] theorem raised_par (s : State) (fl : FpFlags) : (raised s fl).par = s.par := rfl
@[simp] theorem raised_ymm (s : State) (fl : FpFlags) : (raised s fl).ymm = s.ymm := rfl
@[simp] theorem raised_gpr (s : State) (fl : FpFlags) : (raised s fl).gpr = s.gpr := rfl
@[simp] theorem raised_flags (s : State) (fl : FpFlags) : (raised s fl).flags = s.flags := rfl
@[simp] theorem raised_mem (s : State) (fl : FpFlags) : (raised s fl).mem = s.mem := rfl
@[simp] theorem raised_pc (s : State) (fl : FpFlags) : (raised s fl).pc = s.pc := rfl
@[simp] theorem raised_mxcsr (s : State) (fl : FpFlags) : (raised s fl).mxcsr = s.mxcsr ||| fl.setWidth 32 := rfl
@[simp] theorem raised_zero (s : State) : raised s 0#6 = s := by
  simp [raised]
@[simp] theorem readYmm_raised (s : State) (fl : FpFlags) (r : Reg) : readYmm (raised s fl) r = readYmm s r := rfl
@[simp] theorem readGpr_raised (s : State) (fl : FpFlags) (r : Reg) : readGpr (raised s fl) r = readGpr s r := rfl
@[simp] theorem nextPc_raised (s : State) (fl : FpFlags) : nextPc (raised s fl) = nextPc s := rfl
@[simp] theorem unmaskedFlags_zero (s : State) : unmaskedFlags s 0#6 = 0#6 := by
  simp [unmaskedFlags]

/-- Masked flags are joined. -/
theorem commitFlags_masked {s : State} {fl : FpFlags} (h : unmaskedFlags s fl = 0) :
    commitFlags s fl = .ok (raised s fl) := by
  simp [commitFlags, h, raised]

/-- An unmasked flag faults. -/
theorem commitFlags_unmasked {s : State} {fl : FpFlags} (h : unmaskedFlags s fl ≠ 0) :
    commitFlags s fl = .error (.fault (.xm (unmaskedFlags s fl))) := by
  unfold commitFlags
  rw [if_neg h]
  rfl

/-- Usable operands pass the check. -/
theorem needOperands_ok {s : State} {rs : List Reg} {b : RegMem} (h1 : rs.all s.par.mode.names = true)
    (h2 : regMemNamed s.par.mode b = true) : needOperands s rs b = .ok () := by
  simp only [needOperands, h1, h2, Bool.and_self, if_true]

/-- The operand check answers only what it was given to check. -/
theorem of_needOperands {s : State} {rs : List Reg} {b : RegMem} (h : needOperands s rs b = .ok ()) :
    rs.all s.par.mode.names = true ∧ regMemNamed s.par.mode b = true := by
  unfold needOperands at h
  split at h
  · rename_i e; simpa using e
  · cases h

/-- The frame with usable operands and masked flags completes. -/
theorem frame_next {w n : Nat} {read : State → RegMem → Res (BitVec w)} {put : State → BitVec n → State} {rs : List Reg}
    {b : RegMem} {f : BitVec w → BitVec n × FpFlags} {s : State} {v : BitVec w}
    (h1 : rs.all s.par.mode.names = true) (h2 : regMemNamed s.par.mode b = true) (h3 : read s b = .ok v)
    (hm : unmaskedFlags s (f v).2 = 0) :
    frame read put rs b f s = .next (advance (put (raised s (f v).2) (f v).1)) := by
  unfold frame deliver
  rw [needOperands_ok h1 h2, h3]
  simp only [bind, Except.bind]
  rw [commitFlags_masked hm]
  rfl

/-- The frame with usable operands and an unmasked flag faults. -/
theorem frame_fault {w n : Nat} {read : State → RegMem → Res (BitVec w)} {put : State → BitVec n → State} {rs : List Reg}
    {b : RegMem} {f : BitVec w → BitVec n × FpFlags} {s : State} {v : BitVec w}
    (h1 : rs.all s.par.mode.names = true) (h2 : regMemNamed s.par.mode b = true) (h3 : read s b = .ok v)
    (hm : unmaskedFlags s (f v).2 ≠ 0) :
    frame read put rs b f s = .fault (.xm (unmaskedFlags s (f v).2)) := by
  unfold frame deliver
  rw [needOperands_ok h1 h2, h3]
  simp only [bind, Except.bind]
  rw [commitFlags_unmasked hm]
  rfl

/-- Everything the frame can do: it completes with usable operands and masked flags, or the operands stop it, or an unmasked
flag faults. -/
theorem frame_cases {w n : Nat} (read : State → RegMem → Res (BitVec w)) (put : State → BitVec n → State) (rs : List Reg)
    (b : RegMem) (f : BitVec w → BitVec n × FpFlags) (s : State) :
    (∃ v, rs.all s.par.mode.names = true ∧ regMemNamed s.par.mode b = true ∧ read s b = .ok v ∧
      unmaskedFlags s (f v).2 = 0 ∧ frame read put rs b f s = .next (advance (put (raised s (f v).2) (f v).1))) ∨
    (∃ v, read s b = .ok v ∧ unmaskedFlags s (f v).2 ≠ 0 ∧
      frame read put rs b f s = .fault (.xm (unmaskedFlags s (f v).2))) ∨
    (∃ e, read s b = .error e ∧ frame read put rs b f s = finish (.error e)) ∨
    frame read put rs b f s = .refused .operandNotInMode := by
  by_cases hn : needOperands s rs b = .ok ()
  · obtain ⟨h1, h2⟩ := of_needOperands hn
    cases hr : read s b with
    | ok v =>
      by_cases hm : unmaskedFlags s (f v).2 = 0
      · exact .inl ⟨v, h1, h2, rfl, hm, frame_next h1 h2 hr hm⟩
      · exact .inr (.inl ⟨v, rfl, hm, frame_fault h1 h2 hr hm⟩)
    | error e =>
      refine .inr (.inr (.inl ⟨e, rfl, ?_⟩))
      unfold frame
      rw [hn, hr]
      rfl
  · refine .inr (.inr (.inr ?_))
    have : needOperands s rs b = .error (.refused .operandNotInMode) := by
      unfold needOperands at hn ⊢
      split
      · rename_i e; simp [e] at hn
      · rfl
    unfold frame
    rw [this]
    rfl

/-! ### Vector destinations complete -/

/-- What the frame leaves in every other part of the state when it writes a vector register. -/
theorem vecFrame_of {n : Nat} (s : State) (fl : FpFlags) (d : Reg) (x : BitVec n) :
    VecFrame s (advance (writeVex (raised s fl) d x)) d :=
  ⟨fun _ h => readYmm_writeVex_ne _ _ h, fun _ => rfl, rfl, fun _ => rfl, rfl, rfl⟩

/-- A numeric outcome from the frame: the elements and flags of the function's result. -/
theorem numericOutcome_of_frame {w n k q : Nat} {i : Instr} {s : State} {rs : List Reg} {d : Reg} {b : RegMem}
    {v : BitVec q} {f : BitVec q → BitVec n × FpFlags} {read : State → RegMem → Res (BitVec q)} {g : Nat → BitVec w}
    {fl : FpFlags} (h1 : rs.all s.par.mode.names = true) (h2 : regMemNamed s.par.mode b = true) (h3 : read s b = .ok v)
    (he : exec i s = frame read (fun t x => writeVex t d x) rs b f s) (hn : n ≤ 256)
    (hk : w * k ≤ n) (hg : ∀ j < k, elem w j (f v).1 = g j) (hz : ∀ j, w * k ≤ j → (f v).1.getLsbD j = false)
    (hf : (f v).2 = fl) : NumericOutcome w k i s d g fl := by
  subst hf
  refine ⟨fun hm => ⟨_, he.trans (frame_next h1 h2 h3 hm), ?_, ?_, rfl, vecFrame_of _ _ _ _⟩,
    fun hm => he.trans (frame_fault h1 h2 h3 hm)⟩
  · intro j hj
    have hb : w * j + w ≤ w * k := by
      have := Nat.mul_le_mul_left w (Nat.succ_le_of_lt hj)
      rwa [Nat.mul_succ] at this
    rw [readYmm_advance, readYmm_writeVex_self, elem_setWidth _ (by omega), hg j hj]
  · intro j hj
    rw [readYmm_advance, readYmm_writeVex_self, BitVec.getLsbD_setWidth, hz j hj, Bool.and_false]

/-- A result without flags, from the frame. -/
theorem vecResult_of_frame {w n k q : Nat} {i : Instr} {s : State} {rs : List Reg} {d : Reg} {b : RegMem}
    {v : BitVec q} {f : BitVec q → BitVec n × FpFlags} {read : State → RegMem → Res (BitVec q)} {g : Nat → BitVec w}
    (h1 : rs.all s.par.mode.names = true) (h2 : regMemNamed s.par.mode b = true) (h3 : read s b = .ok v)
    (he : exec i s = frame read (fun t x => writeVex t d x) rs b f s) (hn : n ≤ 256)
    (hk : w * k ≤ n) (hg : ∀ j < k, elem w j (f v).1 = g j) (hz : ∀ j, w * k ≤ j → (f v).1.getLsbD j = false)
    (hf : (f v).2 = 0) : VecResult w k i s d g := by
  have h := (numericOutcome_of_frame h1 h2 h3 he hn hk hg hz hf).1 (by simp)
  obtain ⟨t, ht, hg', hz', hm, hfr⟩ := h
  exact ⟨t, ht, hg', hz', by simpa using hm, hfr⟩

/-- RM without flags. -/
theorem vecResult_opRM {w n k q : Nat} {i : Instr} {s : State} {d : Reg} {b : RegMem} {v : BitVec q}
    {f : BitVec q → BitVec n} {g : Nat → BitVec w} (h : Reads q 1 s [d] b v) (he : exec i s = opRM n q f d b s)
    (hn : n ≤ 256) (hk : w * k = n) (hg : ∀ j < k, elem w j (f v) = g j) : VecResult w k i s d g :=
  vecResult_of_frame h.named h.place h.value he hn (le_of_eq hk) hg
    (fun j hj => BitVec.getLsbD_of_ge _ _ (by omega)) rfl

/-- The aligned moves. -/
theorem vecResult_opMoveAligned {w n k : Nat} {i : Instr} {s : State} {d : Reg} {b : RegMem} {v : BitVec n}
    {g : Nat → BitVec w} (h : Reads n (n / 8) s [d] b v) (he : exec i s = opMoveAligned n d b s)
    (hn : n ≤ 256) (hk : w * k = n) (hg : ∀ j < k, elem w j v = g j) : VecResult w k i s d g :=
  vecResult_of_frame h.named h.place h.value he hn (le_of_eq hk) hg
    (fun j hj => BitVec.getLsbD_of_ge _ _ (by omega)) rfl

/-- RVM without flags. -/
theorem vecResult_opRVM {w n k q : Nat} {i : Instr} {s : State} {d a : Reg} {b : RegMem} {v : BitVec q}
    {f : BitVec n → BitVec q → BitVec n} {g : Nat → BitVec w} (h : Reads q 1 s [d, a] b v)
    (he : exec i s = opRVM n q f d a b s) (hn : n ≤ 256) (hk : w * k = n)
    (hg : ∀ j < k, elem w j (f (readVec n s a) v) = g j) : VecResult w k i s d g :=
  vecResult_of_frame h.named h.place h.value he hn (le_of_eq hk) hg
    (fun j hj => BitVec.getLsbD_of_ge _ _ (by omega)) rfl

/-- RVMR without flags. -/
theorem vecResult_opRVMR {w n k : Nat} {i : Instr} {s : State} {d a c : Reg} {b : RegMem} {v : BitVec n}
    {f : BitVec n → BitVec n → BitVec n → BitVec n} {g : Nat → BitVec w} (h : Reads n 1 s [d, a, c] b v)
    (he : exec i s = opRVMR n f d a b c s) (hn : n ≤ 256) (hk : w * k = n)
    (hg : ∀ j < k, elem w j (f (readVec n s a) v (readVec n s c)) = g j) : VecResult w k i s d g :=
  vecResult_of_frame h.named h.place h.value he hn (le_of_eq hk) hg
    (fun j hj => BitVec.getLsbD_of_ge _ _ (by omega)) rfl

/-- RVRM without flags. -/
theorem vecResult_opRVRM {w n k : Nat} {i : Instr} {s : State} {d a c : Reg} {b : RegMem} {v : BitVec n}
    {f : BitVec n → BitVec n → BitVec n → BitVec n} {g : Nat → BitVec w} (h : Reads n 1 s [d, a, c] b v)
    (he : exec i s = opRVRM n f d a c b s) (hn : n ≤ 256) (hk : w * k = n)
    (hg : ∀ j < k, elem w j (f (readVec n s a) (readVec n s c) v) = g j) : VecResult w k i s d g :=
  vecResult_of_frame h.named h.place h.value he hn (le_of_eq hk) hg
    (fun j hj => BitVec.getLsbD_of_ge _ _ (by omega)) rfl

/-- A vector destination from a general register or memory, without flags. -/
theorem vecResult_opFromGpr {w k q : Nat} {i : Instr} {s : State} {d a : Reg} {b : RegMem} {v : BitVec q}
    {f : BitVec 128 → BitVec q → BitVec 128} {g : Nat → BitVec w} (h : ReadsGpr q s [d, a] b v)
    (he : exec i s = opFromGpr q (fun _ x y => (f x y, 0)) d a b s) (hk : w * k = 128)
    (hg : ∀ j < k, elem w j (f (readVec 128 s a) v) = g j) : VecResult w k i s d g :=
  vecResult_of_frame h.named h.place h.value he (by omega) (le_of_eq hk) hg
    (fun j hj => BitVec.getLsbD_of_ge _ _ (by omega)) rfl

/-- RM with flags. -/
theorem numericOutcome_opRMfp {w n k q : Nat} {i : Instr} {s : State} {d : Reg} {b : RegMem} {v : BitVec q}
    {f : Ctl → BitVec q → BitVec n × FpFlags} {g : Nat → BitVec w} {fl : FpFlags} (h : Reads q 1 s [d] b v)
    (he : exec i s = opRMfp n q f d b s) (hn : n ≤ 256) (hk : w * k ≤ n)
    (hg : ∀ j < k, elem w j (f (ctl s) v).1 = g j) (hz : ∀ j, w * k ≤ j → (f (ctl s) v).1.getLsbD j = false)
    (hf : (f (ctl s) v).2 = fl) : NumericOutcome w k i s d g fl :=
  numericOutcome_of_frame h.named h.place h.value he hn hk hg hz hf

/-- RVM with flags. -/
theorem numericOutcome_opRVMfp {w n k q : Nat} {i : Instr} {s : State} {d a : Reg} {b : RegMem} {v : BitVec q}
    {f : Ctl → BitVec n → BitVec q → BitVec n × FpFlags} {g : Nat → BitVec w} {fl : FpFlags} (h : Reads q 1 s [d, a] b v)
    (he : exec i s = opRVMfp n q f d a b s) (hn : n ≤ 256) (hk : w * k = n)
    (hg : ∀ j < k, elem w j (f (ctl s) (readVec n s a) v).1 = g j)
    (hf : (f (ctl s) (readVec n s a) v).2 = fl) : NumericOutcome w k i s d g fl :=
  numericOutcome_of_frame h.named h.place h.value he hn (le_of_eq hk) hg
    (fun j hj => BitVec.getLsbD_of_ge _ _ (by omega)) hf

/-- RVMR with flags. -/
theorem numericOutcome_opRVMRfp {w n k q : Nat} {i : Instr} {s : State} {d a c : Reg} {b : RegMem} {v : BitVec q}
    {f : Ctl → BitVec q → BitVec q → BitVec q → BitVec n × FpFlags} {g : Nat → BitVec w} {fl : FpFlags}
    (h : Reads q 1 s [d, a, c] b v) (he : exec i s = opRVMRfp n q f d a b c s) (hn : n ≤ 256) (hk : w * k ≤ n)
    (hg : ∀ j < k, elem w j (f (ctl s) (readVec q s a) v (readVec q s c)).1 = g j)
    (hz : ∀ j, w * k ≤ j → (f (ctl s) (readVec q s a) v (readVec q s c)).1.getLsbD j = false)
    (hf : (f (ctl s) (readVec q s a) v (readVec q s c)).2 = fl) : NumericOutcome w k i s d g fl :=
  numericOutcome_of_frame h.named h.place h.value he hn hk hg hz hf

/-- RVRM with flags. -/
theorem numericOutcome_opRVRMfp {w n k q : Nat} {i : Instr} {s : State} {d a c : Reg} {b : RegMem} {v : BitVec q}
    {f : Ctl → BitVec q → BitVec q → BitVec q → BitVec n × FpFlags} {g : Nat → BitVec w} {fl : FpFlags}
    (h : Reads q 1 s [d, a, c] b v) (he : exec i s = opRVRMfp n q f d a c b s) (hn : n ≤ 256) (hk : w * k ≤ n)
    (hg : ∀ j < k, elem w j (f (ctl s) (readVec q s a) (readVec q s c) v).1 = g j)
    (hz : ∀ j, w * k ≤ j → (f (ctl s) (readVec q s a) (readVec q s c) v).1.getLsbD j = false)
    (hf : (f (ctl s) (readVec q s a) (readVec q s c) v).2 = fl) : NumericOutcome w k i s d g fl :=
  numericOutcome_of_frame h.named h.place h.value he hn hk hg hz hf

/-- A vector destination from a general register or memory, with flags. -/
theorem numericOutcome_opFromGpr {w k q : Nat} {i : Instr} {s : State} {d a : Reg} {b : RegMem} {v : BitVec q}
    {f : Ctl → BitVec 128 → BitVec q → BitVec 128 × FpFlags} {g : Nat → BitVec w} {fl : FpFlags}
    (h : ReadsGpr q s [d, a] b v) (he : exec i s = opFromGpr q f d a b s) (hk : w * k = 128)
    (hg : ∀ j < k, elem w j (f (ctl s) (readVec 128 s a) v).1 = g j)
    (hf : (f (ctl s) (readVec 128 s a) v).2 = fl) : NumericOutcome w k i s d g fl :=
  numericOutcome_of_frame h.named h.place h.value he (by omega) (le_of_eq hk) hg
    (fun j hj => BitVec.getLsbD_of_ge _ _ (by omega)) hf

/-! ### General-register destinations complete -/

/-- What a write of a general register leaves in every other part of the state. -/
theorem gprFrame_of (s : State) (fl : FpFlags) (d : Reg) (x : BitVec 64) :
    GprFrame s (advance (setGpr (raised s fl) d x)) d :=
  ⟨fun _ => rfl, fun _ h => readGpr_setGpr_ne _ _ h, rfl, fun _ => rfl, rfl, rfl⟩

/-- A 32-bit general-register destination. -/
theorem gprOutcome_opToGpr32 {q : Nat} {i : Instr} {s : State} {d : Reg} {b : RegMem} {v : BitVec q}
    {f : Ctl → BitVec q → BitVec 32 × FpFlags} (h : Reads q 1 s [d] b v) (he : exec i s = opToGpr32 q f d b s) :
    GprOutcome i s d (gprAfter32 s d (f (ctl s) v).1) (f (ctl s) v).2 := by
  refine ⟨fun hm => ⟨_, he.trans (frame_next h.named h.place h.value hm), ?_, ?_, ?_⟩,
    fun hm => he.trans (frame_fault h.named h.place h.value hm)⟩
  · rw [writeGpr32_eq, readGpr_advance, readGpr_setGpr_self]; rfl
  · rw [writeGpr32_eq]; rfl
  · rw [writeGpr32_eq]; exact gprFrame_of _ _ _ _

/-- A 64-bit general-register destination. -/
theorem gprOutcome_opToGpr64 {q : Nat} {i : Instr} {s : State} {d : Reg} {b : RegMem} {v : BitVec q}
    {f : Ctl → BitVec q → BitVec 64 × FpFlags} (h : Reads q 1 s [d] b v) (hm64 : s.par.mode = .mode64)
    (he : exec i s = opToGpr64 q f d b s) : GprOutcome i s d (f (ctl s) v).1 (f (ctl s) v).2 := by
  have he' : exec i s = frame (readVecMem q 1) (fun t x => writeGpr64 t d x) [d] b (f (ctl s)) s := by
    rw [he, opToGpr64, needMode64, hm64]
  refine ⟨fun hm => ⟨_, he'.trans (frame_next h.named h.place h.value hm), ?_, rfl, ?_⟩,
    fun hm => he'.trans (frame_fault h.named h.place h.value hm)⟩
  · rw [readGpr_advance]; exact readGpr_setGpr_self _ _ _
  · exact gprFrame_of _ _ _ _

/-! ### Memory destinations complete -/

/-- A store with usable operands. -/
theorem opStore_next {n align : Nat} {m : MemOp} {rs : List Reg} {x : State → BitVec n} {s : State}
    (h : Stores (n / 8) align s rs m) :
    opStore align m rs x s =
      .next (advance { s with
        mem := Memory.writeBytes s.mem (spanOf s.par.mode (effAddr s m) (n / 8)) (x s).toNat }) := by
  unfold opStore
  rw [needOperands_ok (b := .mem m) h.named h.place]
  simp only [bind, Except.bind]
  unfold store storeAt
  rw [h.checks]
  simp only [bind, Except.bind]
  rw [h.free]
  rfl

/-- What a store leaves. -/
theorem storeResult_opStore {n align : Nat} {i : Instr} {m : MemOp} {rs : List Reg} {x : State → BitVec n} {s : State}
    (h : Stores (n / 8) align s rs m) (hn : n ≤ 2 ^ 32) (he : exec i s = opStore align m rs x s) :
    StoreResult i s m (x s) := by
  refine ⟨_, he.trans (opStore_next h), ?_, ?_⟩
  · intro k hk
    rw [readByte_advance, readByte]
    rw [Memory.read_writeBytes_span _ _ _ h.form (by omega) hk, byte_of_toNat]
  · exact ⟨fun _ => rfl, fun _ => rfl, rfl, rfl,
      fun a ha => Memory.read_writeBytes_notMem _ _ _ ha, rfl, rfl⟩

/-- MR with a memory operand. -/
theorem storeResult_opMR {n align : Nat} {i : Instr} {m : MemOp} {a : Reg} {x : State → BitVec n} {s : State}
    (h : Stores (n / 8) align s [a] m) (hn : n ≤ 2 ^ 32) (he : exec i s = opMR align (.mem m) a x s) :
    StoreResult i s m (x s) := storeResult_opStore h hn he

/-- MR with a register operand. -/
theorem vecResult_opMR {w n k align : Nat} {i : Instr} {s : State} {d a : Reg} {x : State → BitVec n} {g : Nat → BitVec w}
    (h1 : [d, a].all s.par.mode.names = true) (he : exec i s = opMR align (.reg d) a x s) (hn : n ≤ 256) (hk : w * k = n)
    (hg : ∀ j < k, elem w j (x s) = g j) : VecResult w k i s d g := by
  have hd : s.par.mode.names d = true ∧ s.par.mode.names a = true := by simpa using h1
  have e : exec i s = .next (advance (writeVex s d (x s))) := by
    rw [he]
    show finish (needOperands s [a] (.reg d) >>= fun _ => .ok (advance (writeVex s d (x s)))) = _
    rw [needOperands_ok (rs := [a]) (b := .reg d) (by simpa using hd.2) hd.1]
    rfl
  refine ⟨_, e, ?_, ?_, rfl, by simpa using vecFrame_of s 0 d (x s)⟩
  · intro j hj
    have hb : w * j + w ≤ w * k := by
      have := Nat.mul_le_mul_left w (Nat.succ_le_of_lt hj)
      rwa [Nat.mul_succ] at this
    rw [readYmm_advance, readYmm_writeVex_self, elem_setWidth _ (by omega), hg j hj]
  · intro j hj
    rw [readYmm_advance, readYmm_writeVex_self, BitVec.getLsbD_setWidth,
      BitVec.getLsbD_of_ge _ _ (by omega), Bool.and_false]

/-! ### Tests complete -/

/-- A test with usable operands. -/
theorem opTest_next {n : Nat} {f : BitVec n → BitVec n → StatusFlags} {a : Reg} {b : RegMem} {s : State} {v : BitVec n}
    (h : Reads n 1 s [a] b v) : opTest n f a b s = .next (advance { s with flags := f (readVec n s a) v }) := by
  unfold opTest
  rw [needOperands_ok h.named h.place]
  simp only [bind, Except.bind]
  rw [h.value]
  rfl

/-- What a test leaves. -/
theorem testResult_opTest {n : Nat} {i : Instr} {f : BitVec n → BitVec n → StatusFlags} {a : Reg} {b : RegMem} {s : State}
    {v : BitVec n} {zf cf : Bool} (h : Reads n 1 s [a] b v) (he : exec i s = opTest n f a b s)
    (hf : f (readVec n s a) v = testFlags zf cf) : TestResult i s zf cf :=
  ⟨_, he.trans (opTest_next h), hf, rfl, ⟨fun _ => rfl, fun _ => rfl, fun _ => rfl, rfl, rfl⟩⟩

end Sys2Proof.Machine
end

