-- ==== Sys2Proof/Laws/Effects.lean ====
section
/-! SUPPORT. Everything an instruction can do, said once: the next states it can leave and the faults it can raise. -/

namespace Sys2Proof.Machine

/-! ### Checks -/

/-- Only the empty list has no lowest address. -/
theorem lowest_eq_none {l : List Addr} (h : lowest l = none) : l = [] := by
  cases l with
  | nil => rfl
  | cons a t =>
    unfold lowest at h
    split at h <;> cases h

/-- The map check passes only if every address does. -/
theorem of_checkMap {ok : Addr → Bool} {as : List Addr} (h : checkMap ok as = .ok ()) : ∀ a ∈ as, ok a = true := by
  unfold checkMap at h
  split at h
  · cases h
  · rename_i e
    have := List.filter_eq_nil_iff.mp (lowest_eq_none e)
    intro a ha
    simpa using this a ha

/-- An access check passes only if every address does. -/
theorem of_checkAccess {m : Mode} {ok : Addr → Bool} {align n : Nat} {a : Addr}
    (h : checkAccess m ok align a n = .ok ()) :
    addressOk m a = true ∧ a.toNat % align = 0 ∧ ∀ x ∈ spanOf m a n, ok x = true := by
  unfold checkAccess at h
  split at h
  · cases h
  · rename_i h1
    split at h
    · cases h
    · rename_i h2
      exact ⟨by simpa using h1, by simpa using h2, of_checkMap h⟩

/-- The faults of a memory access. -/
def AccessFault (e : Stop) : Prop := e = .fault .gp0 ∨ ∃ a, e = .fault (.pf a)

theorem checkMap_error {ok : Addr → Bool} {as : List Addr} {e : Stop} (h : checkMap ok as = .error e) : AccessFault e := by
  unfold checkMap at h
  split at h
  · cases h; exact .inr ⟨_, rfl⟩
  · cases h

theorem checkAccess_error {m : Mode} {ok : Addr → Bool} {align n : Nat} {a : Addr} {e : Stop}
    (h : checkAccess m ok align a n = .error e) : AccessFault e := by
  unfold checkAccess at h
  split at h
  · cases h; exact .inl rfl
  · split at h
    · cases h; exact .inl rfl
    · exact checkMap_error h

theorem load_error {s : State} {a : Addr} {w align : Nat} {e : Stop} (h : load s a w align = .error e) : AccessFault e := by
  unfold load at h
  cases hc : checkAccess s.par.mode (mapped s.par) align a (w / 8) with
  | ok u => rw [hc] at h; cases h
  | error e' => rw [hc] at h; cases h; exact checkAccess_error hc

theorem readVecMem_error {w align : Nat} {s : State} {b : RegMem} {e : Stop} (h : readVecMem w align s b = .error e) :
    AccessFault e := by
  cases b with
  | reg r => cases h
  | mem m => exact load_error h

theorem readGprMem_error {w : Nat} {s : State} {b : RegMem} {e : Stop} (h : readGprMem w s b = .error e) :
    AccessFault e := by
  cases b with
  | reg r => cases h
  | mem m => exact load_error h

/-! ### What a step can do -/

/-- The part of the state that an instruction is there to write. -/
inductive Writes where
  | vector
  | general
  | memory
  | status
  | control
  deriving DecidableEq, Repr

/-- What each row of the opcode table writes; a row with a destination in memory may have a vector register there. -/
def formWrites : Form → Writes
  | .vcvtsd2siR32 | .vcvtsd2siR64 | .vcvttsd2siR32 | .vcvttsd2siR64 | .vcvtss2siR32 | .vcvtss2siR64 | .vcvttss2siR32
  | .vcvttss2siR64 | .vmovmskpsX | .vmovmskpsY | .vmovmskpdX | .vmovmskpdY => .general
  | .vmovupsXStore | .vmovupsYStore | .vmovupdXStore | .vmovupdYStore | .vmovapsXStore | .vmovapsYStore | .vmovapdXStore
  | .vmovapdYStore | .vmovdqaXStore | .vmovdqaYStore | .vmovdquXStore | .vmovdquYStore | .vmovssStore | .vmovsdStore
  | .vmovlpsStore | .vmovlpdStore | .vmovhpsStore | .vmovhpdStore | .vextractf128 | .vmaskmovpsXStore | .vmaskmovpsYStore
  | .vmaskmovpdXStore | .vmaskmovpdYStore | .vstmxcsr => .memory
  | .vptestX | .vptestY | .vtestpsX | .vtestpsY | .vtestpdX | .vtestpdY => .status
  | .vldmxcsr => .control
  | _ => .vector

/-- The next states of an instruction: a vector register, a general register, memory, the status flags or MXCSR written, or
the vector registers of the mode cleared; pc advanced in every case. -/
inductive Effect (s : State) : Writes → State → Prop where
  | vec (d : Reg) (x : BitVec 256) (fl : FpFlags) (hd : s.par.mode.names d = true) (hm : unmaskedFlags s fl = 0) :
      Effect s .vector (advance (setYmm (raised s fl) d x))
  | copy (d : Reg) (x : BitVec 256) (hd : s.par.mode.names d = true) : Effect s .memory (advance (setYmm s d x))
  | gpr (d : Reg) (x : BitVec 64) (fl : FpFlags) (hd : s.par.mode.names d = true) (hm : unmaskedFlags s fl = 0) :
      Effect s .general (advance (setGpr (raised s fl) d x))
  | store (m : Memory) (hw : s.mem.wf = true → m.wf = true)
      (hm : ∀ a : Addr, Memory.read m a.toNat = Memory.read s.mem a.toNat ∨
        (writable s.par a = true ∧ inProgram s.par a = false)) :
      Effect s .memory (advance { s with mem := m })
  | test (zf cf : Bool) : Effect s .status (advance { s with flags := testFlags zf cf })
  | control (v : BitVec 32) (hv : v.extractLsb' 16 16 = 0) : Effect s .control (advance { s with mxcsr := v })
  | clear (f : BitVec 256 → BitVec 256) : Effect s .vector (advance (updateReachable f s))

/-- The faults an instruction can raise once it is decoded. -/
inductive Raisable (s : State) : Fault → Prop where
  | gp0 : Raisable s .gp0
  | pf (a : Addr) : Raisable s (.pf a)
  | xm (fl : FpFlags) (h : unmaskedFlags s fl ≠ 0) : Raisable s (.xm (unmaskedFlags s fl))

/-- What an outcome may be. -/
def Behaves (s : State) (w : Writes) : Out → Prop
  | .next t => Effect s w t
  | .fault f => Raisable s f
  | .refused _ => True

theorem behaves_accessFault {s : State} {w : Writes} {e : Stop} (h : AccessFault e) : Behaves s w (finish (.error e)) := by
  rcases h with rfl | ⟨a, rfl⟩
  · exact .gp0
  · exact .pf a

/-- The frame that writes a vector register. -/
theorem frame_behaves_vec {w n : Nat} {read : State → RegMem → Res (BitVec w)} {put : State → BitVec n → State}
    {rs : List Reg} {b : RegMem} {f : BitVec w → BitVec n × FpFlags} {s : State} {d : Reg}
    (hr : ∀ e, read s b = .error e → AccessFault e) (hd : d ∈ rs)
    (hp : ∀ t x, ∃ y, put t x = setYmm t d y) : Behaves s .vector (frame read put rs b f s) := by
  rcases frame_cases read put rs b f s with ⟨v, h1, _, _, hm, he⟩ | ⟨v, _, hm, he⟩ | ⟨e, h, he⟩ | he
  · rw [he]
    obtain ⟨y, hy⟩ := hp (raised s (f v).2) (f v).1
    rw [hy]
    exact .vec d y _ (List.all_eq_true.mp h1 d hd) hm
  · rw [he]; exact .xm _ hm
  · rw [he]; exact behaves_accessFault (hr e h)
  · rw [he]; trivial

/-- The frame that writes a general register. -/
theorem frame_behaves_gpr {w n : Nat} {read : State → RegMem → Res (BitVec w)} {put : State → BitVec n → State}
    {rs : List Reg} {b : RegMem} {f : BitVec w → BitVec n × FpFlags} {s : State} {d : Reg}
    (hr : ∀ e, read s b = .error e → AccessFault e) (hd : d ∈ rs)
    (hp : ∀ t x, ∃ y, put t x = setGpr t d y) : Behaves s .general (frame read put rs b f s) := by
  rcases frame_cases read put rs b f s with ⟨v, h1, _, _, hm, he⟩ | ⟨v, _, hm, he⟩ | ⟨e, h, he⟩ | he
  · rw [he]
    obtain ⟨y, hy⟩ := hp (raised s (f v).2) (f v).1
    rw [hy]
    exact .gpr d y _ (List.all_eq_true.mp h1 d hd) hm
  · rw [he]; exact .xm _ hm
  · rw [he]; exact behaves_accessFault (hr e h)
  · rw [he]; trivial

theorem opRM_behaves {n w : Nat} {f : BitVec w → BitVec n} {d : Reg} {b : RegMem} {s : State} :
    Behaves s .vector (opRM n w f d b s) :=
  frame_behaves_vec (fun _ => readVecMem_error) (List.mem_cons_self) fun _ _ => ⟨_, rfl⟩

theorem opMoveAligned_behaves {n : Nat} {d : Reg} {b : RegMem} {s : State} : Behaves s .vector (opMoveAligned n d b s) :=
  frame_behaves_vec (fun _ => readVecMem_error) (List.mem_cons_self) fun _ _ => ⟨_, rfl⟩

theorem opRMfp_behaves {n w : Nat} {f : Ctl → BitVec w → BitVec n × FpFlags} {d : Reg} {b : RegMem} {s : State} :
    Behaves s .vector (opRMfp n w f d b s) :=
  frame_behaves_vec (fun _ => readVecMem_error) (List.mem_cons_self) fun _ _ => ⟨_, rfl⟩

theorem opRVM_behaves {n w : Nat} {f : BitVec n → BitVec w → BitVec n} {d a : Reg} {b : RegMem} {s : State} :
    Behaves s .vector (opRVM n w f d a b s) :=
  frame_behaves_vec (fun _ => readVecMem_error) (List.mem_cons_self) fun _ _ => ⟨_, rfl⟩

theorem opRVMfp_behaves {n w : Nat} {f : Ctl → BitVec n → BitVec w → BitVec n × FpFlags} {d a : Reg} {b : RegMem}
    {s : State} : Behaves s .vector (opRVMfp n w f d a b s) :=
  frame_behaves_vec (fun _ => readVecMem_error) (List.mem_cons_self) fun _ _ => ⟨_, rfl⟩

theorem opRVMR_behaves {n : Nat} {f : BitVec n → BitVec n → BitVec n → BitVec n} {d a c : Reg} {b : RegMem} {s : State} :
    Behaves s .vector (opRVMR n f d a b c s) :=
  frame_behaves_vec (fun _ => readVecMem_error) (List.mem_cons_self) fun _ _ => ⟨_, rfl⟩

theorem opRVRM_behaves {n : Nat} {f : BitVec n → BitVec n → BitVec n → BitVec n} {d a c : Reg} {b : RegMem} {s : State} :
    Behaves s .vector (opRVRM n f d a c b s) :=
  frame_behaves_vec (fun _ => readVecMem_error) (List.mem_cons_self) fun _ _ => ⟨_, rfl⟩

theorem opRVMRfp_behaves {n w : Nat} {f : Ctl → BitVec w → BitVec w → BitVec w → BitVec n × FpFlags} {d a c : Reg}
    {b : RegMem} {s : State} : Behaves s .vector (opRVMRfp n w f d a b c s) :=
  frame_behaves_vec (fun _ => readVecMem_error) (List.mem_cons_self) fun _ _ => ⟨_, rfl⟩

theorem opRVRMfp_behaves {n w : Nat} {f : Ctl → BitVec w → BitVec w → BitVec w → BitVec n × FpFlags} {d a c : Reg}
    {b : RegMem} {s : State} : Behaves s .vector (opRVRMfp n w f d a c b s) :=
  frame_behaves_vec (fun _ => readVecMem_error) (List.mem_cons_self) fun _ _ => ⟨_, rfl⟩

theorem opLegacy_behaves {f : BitVec 128 → BitVec 128 → BitVec 128} {d : Reg} {b : RegMem} {s : State} :
    Behaves s .vector (opLegacy f d b s) :=
  frame_behaves_vec (fun _ => readVecMem_error) (List.mem_cons_self) fun _ _ => ⟨_, rfl⟩

theorem opFromGpr_behaves {w : Nat} {f : Ctl → BitVec 128 → BitVec w → BitVec 128 × FpFlags} {d a : Reg} {b : RegMem}
    {s : State} : Behaves s .vector (opFromGpr w f d a b s) :=
  frame_behaves_vec (fun _ => readGprMem_error) (List.mem_cons_self) fun _ _ => ⟨_, rfl⟩

theorem needMode64_behaves {s : State} {w : Writes} {k : Out} (h : Behaves s w k) : Behaves s w (needMode64 s k) := by
  unfold needMode64
  cases s.par.mode <;> first | exact h | trivial

theorem opFromGpr64_behaves {f : Ctl → BitVec 128 → BitVec 64 → BitVec 128 × FpFlags} {d a : Reg} {b : RegMem} {s : State} :
    Behaves s .vector (opFromGpr64 f d a b s) := needMode64_behaves opFromGpr_behaves

theorem opToGpr32_behaves {w : Nat} {f : Ctl → BitVec w → BitVec 32 × FpFlags} {d : Reg} {b : RegMem} {s : State} :
    Behaves s .general (opToGpr32 w f d b s) :=
  frame_behaves_gpr (fun _ => readVecMem_error) (List.mem_cons_self) fun _ _ => ⟨_, writeGpr32_eq _ _ _⟩

theorem opToGpr64_behaves {w : Nat} {f : Ctl → BitVec w → BitVec 64 × FpFlags} {d : Reg} {b : RegMem} {s : State} :
    Behaves s .general (opToGpr64 w f d b s) :=
  needMode64_behaves (frame_behaves_gpr (fun _ => readVecMem_error) (List.mem_cons_self) fun _ _ => ⟨_, rfl⟩)

theorem needPermil2_behaves {s : State} {w : Writes} {k : Out} (h : Behaves s w k) : Behaves s w (needPermil2 s k) := by
  unfold needPermil2
  split
  · exact h
  · trivial

/-- The operand check either passes or refuses. -/
theorem needOperands_cases (s : State) (rs : List Reg) (b : RegMem) :
    (needOperands s rs b = .ok () ∧ rs.all s.par.mode.names = true ∧ regMemNamed s.par.mode b = true) ∨
      needOperands s rs b = .error (.refused .operandNotInMode) := by
  unfold needOperands
  split
  · rename_i h; exact .inl ⟨rfl, by simpa using h⟩
  · exact .inr rfl

theorem opStore_behaves {n align : Nat} {m : MemOp} {rs : List Reg} {x : State → BitVec n} {s : State} :
    Behaves s .memory (opStore align m rs x s) := by
  unfold opStore
  rcases needOperands_cases s rs (.mem m) with ⟨h, _⟩ | h <;> rw [h]
  · simp only [bind, Except.bind]
    unfold store
    cases hc : checkAccess s.par.mode (writable s.par) align (effAddr s m) (n / 8) with
    | error e => exact behaves_accessFault (checkAccess_error hc)
    | ok u =>
      simp only [bind, Except.bind]
      unfold storeAt
      by_cases hp : (spanOf s.par.mode (effAddr s m) (n / 8)).any (inProgram s.par) = true
      · rw [if_pos hp]; trivial
      · rw [if_neg hp]
        refine .store _ (Memory.wf_writeBytes _ _) fun a => ?_
        by_cases ha : a ∈ spanOf s.par.mode (effAddr s m) (n / 8)
        · refine .inr ⟨(of_checkAccess hc).2.2 a ha, ?_⟩
          simp only [List.any_eq_true, not_exists, not_and, Bool.not_eq_true] at hp
          exact hp a ha
        · exact .inl (Memory.read_writeBytes_notMem _ _ _ ha)
  · trivial

theorem opMR_behaves {n align : Nat} {d : RegMem} {a : Reg} {x : State → BitVec n} {s : State} :
    Behaves s .memory (opMR align d a x s) := by
  cases d with
  | mem m => exact opStore_behaves
  | reg r =>
    show Behaves s .memory (finish (needOperands s [a] (.reg r) >>= fun _ => .ok (advance (writeVex s r (x s)))))
    rcases needOperands_cases s [a] (.reg r) with ⟨h, _, h2⟩ | h <;> rw [h]
    · exact .copy r _ h2
    · trivial

theorem opTest_behaves {n : Nat} {f : BitVec n → BitVec n → StatusFlags} {a : Reg} {b : RegMem} {s : State}
    (hf : ∀ x y, ∃ zf cf, f x y = testFlags zf cf) : Behaves s .status (opTest n f a b s) := by
  unfold opTest
  rcases needOperands_cases s [a] b with ⟨h, _⟩ | h <;> rw [h]
  · simp only [bind, Except.bind]
    cases hr : readVecMem n 1 s b with
    | error e => exact behaves_accessFault (readVecMem_error hr)
    | ok v =>
      obtain ⟨zf, cf, e⟩ := hf (readVec n s a) v
      show Effect s .status (advance { s with flags := f (readVec n s a) v })
      rw [e]
      exact .test zf cf
  · trivial

theorem checkSelected_error {m : Mode} {ok : Addr → Bool} {a : Addr} {w : Nat} {sel : List Nat} {e : Stop}
    (h : checkSelected m ok a w sel = .error e) : AccessFault e := by
  unfold checkSelected at h
  split at h
  · exact checkMap_error h
  · cases h; exact .inl rfl

theorem opMaskedLoad_behaves {n w : Nat} {d a : Reg} {m : MemOp} {s : State} : Behaves s .vector (opMaskedLoad n w d a m s) := by
  unfold opMaskedLoad
  rcases needOperands_cases s [d, a] (.mem m) with ⟨h, h1, _⟩ | h <;> rw [h]
  · simp only [bind, Except.bind]
    cases hc : checkSelected s.par.mode (mapped s.par) (effAddr s m) w (selected w (readVec n s a)) with
    | error e => exact behaves_accessFault (checkSelected_error hc)
    | ok u =>
      have : ∀ x : BitVec n, advance (writeVex s d x) = advance (setYmm (raised s 0#6) d (x.setWidth 256)) := by
        intro x; rw [raised_zero]; rfl
      show Effect s .vector (advance (writeVex s d _))
      rw [this]
      exact .vec d _ _ (List.all_eq_true.mp h1 d List.mem_cons_self) (unmaskedFlags_zero s)
  · trivial

/-- Bytes outside the selected elements are unchanged. -/
theorem Memory.read_writeSelected_notMem {n w : Nat} (mo : Mode) (a : Addr) (x : BitVec n) (m : Memory) (l : List Nat)
    {b : Addr} (h : b ∉ selectedSpan mo a w l) :
    Memory.read (Memory.writeSelected w mo a x m l) b.toNat = Memory.read m b.toNat := by
  induction l generalizing m with
  | nil => rfl
  | cons i t ih =>
    simp only [selectedSpan, List.flatMap_cons, List.mem_append, not_or] at h
    simp only [Memory.writeSelected]
    rw [ih _ h.2, Memory.read_writeBytes_notMem _ _ _ h.1]

theorem opMaskedStore_behaves {n w : Nat} {m : MemOp} {a b : Reg} {s : State} : Behaves s .memory (opMaskedStore n w m a b s) := by
  unfold opMaskedStore
  rcases needOperands_cases s [a, b] (.mem m) with ⟨h, _⟩ | h <;> rw [h]
  · simp only [bind, Except.bind]
    cases hc : checkSelected s.par.mode (writable s.par) (effAddr s m) w (selected w (readVec n s a)) with
    | error e => exact behaves_accessFault (checkSelected_error hc)
    | ok u =>
      simp only []
      split
      · trivial
      · rename_i hp
        refine .store _ (Memory.wf_writeSelected _ _ _ _) fun c => ?_
        by_cases hcm : c ∈ selectedSpan s.par.mode (effAddr s m) w (selected w (readVec n s a))
        · refine .inr ⟨?_, ?_⟩
          · unfold checkSelected at hc
            split at hc
            · exact of_checkMap hc c hcm
            · cases hc
          · simp only [List.any_eq_true, not_exists, not_and, Bool.not_eq_true] at hp
            exact hp c hcm
        · exact .inl (Memory.read_writeSelected_notMem _ _ _ _ _ hcm)
  · trivial

theorem execVldmxcsr_behaves {m : MemOp} {s : State} : Behaves s .control (execVldmxcsr m s) := by
  unfold execVldmxcsr
  rcases needOperands_cases s [] (.mem m) with ⟨h, _⟩ | h <;> rw [h]
  · simp only [bind, Except.bind]
    cases hl : load s (effAddr s m) 32 1 with
    | error e => exact behaves_accessFault (load_error hl)
    | ok v =>
      simp only []
      unfold loadMxcsr
      by_cases hv : v.extractLsb' 16 16 = 0
      · rw [if_pos hv]; exact .control v hv
      · rw [if_neg hv]; exact .gp0
  · trivial

theorem execVinsertps_behaves {d a : Reg} {b : RegMem} {imm : BitVec 8} {s : State} :
    Behaves s .vector (execVinsertps d a b imm s) := by
  cases b with
  | reg r => exact (opRVM_behaves : Behaves s .vector (opRVM 128 128 (fun x v => insertPs imm x (elem 32 (fieldNat imm 6) v)) d a (.reg r) s))
  | mem m => exact (opRVM_behaves : Behaves s .vector (opRVM 128 32 (insertPs imm) d a (.mem m) s))

/-! ### Every instruction -/

namespace Effects
theorem vmovupsX (d : Reg) (b : RegMem) (s : State) : Behaves s .vector (exec (.vmovupsX d b) s) :=
  (opRM_behaves : Behaves s .vector (execVmovupsX d b s))
theorem vmovupsY (d : Reg) (b : RegMem) (s : State) : Behaves s .vector (exec (.vmovupsY d b) s) :=
  (opRM_behaves : Behaves s .vector (execVmovupsY d b s))
theorem vmovupdX (d : Reg) (b : RegMem) (s : State) : Behaves s .vector (exec (.vmovupdX d b) s) :=
  (opRM_behaves : Behaves s .vector (execVmovupdX d b s))
theorem vmovupdY (d : Reg) (b : RegMem) (s : State) : Behaves s .vector (exec (.vmovupdY d b) s) :=
  (opRM_behaves : Behaves s .vector (execVmovupdY d b s))
theorem vmovssReg (d : Reg) (a : Reg) (b : Reg) (s : State) : Behaves s .vector (exec (.vmovssReg d a b) s) :=
  (opRVM_behaves : Behaves s .vector (execVmovssReg d a b s))
theorem vmovssLoad (d : Reg) (b : MemOp) (s : State) : Behaves s .vector (exec (.vmovssLoad d b) s) :=
  (opRM_behaves : Behaves s .vector (execVmovssLoad d b s))
theorem vmovsdReg (d : Reg) (a : Reg) (b : Reg) (s : State) : Behaves s .vector (exec (.vmovsdReg d a b) s) :=
  (opRVM_behaves : Behaves s .vector (execVmovsdReg d a b s))
theorem vmovsdLoad (d : Reg) (b : MemOp) (s : State) : Behaves s .vector (exec (.vmovsdLoad d b) s) :=
  (opRM_behaves : Behaves s .vector (execVmovsdLoad d b s))
theorem vmovupsXStore (d : RegMem) (a : Reg) (s : State) : Behaves s .memory (exec (.vmovupsXStore d a) s) :=
  (opMR_behaves : Behaves s .memory (execVmovupsXStore d a s))
theorem vmovupsYStore (d : RegMem) (a : Reg) (s : State) : Behaves s .memory (exec (.vmovupsYStore d a) s) :=
  (opMR_behaves : Behaves s .memory (execVmovupsYStore d a s))
theorem vmovupdXStore (d : RegMem) (a : Reg) (s : State) : Behaves s .memory (exec (.vmovupdXStore d a) s) :=
  (opMR_behaves : Behaves s .memory (execVmovupdXStore d a s))
theorem vmovupdYStore (d : RegMem) (a : Reg) (s : State) : Behaves s .memory (exec (.vmovupdYStore d a) s) :=
  (opMR_behaves : Behaves s .memory (execVmovupdYStore d a s))
theorem vmovssStore (d : MemOp) (a : Reg) (s : State) : Behaves s .memory (exec (.vmovssStore d a) s) :=
  (opStore_behaves : Behaves s .memory (execVmovssStore d a s))
theorem vmovssReg2 (d : Reg) (a : Reg) (b : Reg) (s : State) : Behaves s .vector (exec (.vmovssReg2 d a b) s) :=
  (opRVM_behaves : Behaves s .vector (execVmovssReg2 d a b s))
theorem vmovsdStore (d : MemOp) (a : Reg) (s : State) : Behaves s .memory (exec (.vmovsdStore d a) s) :=
  (opStore_behaves : Behaves s .memory (execVmovsdStore d a s))
theorem vmovsdReg2 (d : Reg) (a : Reg) (b : Reg) (s : State) : Behaves s .vector (exec (.vmovsdReg2 d a b) s) :=
  (opRVM_behaves : Behaves s .vector (execVmovsdReg2 d a b s))
theorem vmovhlps (d : Reg) (a : Reg) (b : Reg) (s : State) : Behaves s .vector (exec (.vmovhlps d a b) s) :=
  (opRVM_behaves : Behaves s .vector (execVmovhlps d a b s))
theorem vmovlpsLoad (d : Reg) (a : Reg) (b : MemOp) (s : State) : Behaves s .vector (exec (.vmovlpsLoad d a b) s) :=
  (opRVM_behaves : Behaves s .vector (execVmovlpsLoad d a b s))
theorem vmovlpdLoad (d : Reg) (a : Reg) (b : MemOp) (s : State) : Behaves s .vector (exec (.vmovlpdLoad d a b) s) :=
  (opRVM_behaves : Behaves s .vector (execVmovlpdLoad d a b s))
theorem vmovsldupX (d : Reg) (b : RegMem) (s : State) : Behaves s .vector (exec (.vmovsldupX d b) s) :=
  (opRM_behaves : Behaves s .vector (execVmovsldupX d b s))
theorem vmovsldupY (d : Reg) (b : RegMem) (s : State) : Behaves s .vector (exec (.vmovsldupY d b) s) :=
  (opRM_behaves : Behaves s .vector (execVmovsldupY d b s))
theorem vmovddupX (d : Reg) (b : RegMem) (s : State) : Behaves s .vector (exec (.vmovddupX d b) s) :=
  (opRM_behaves : Behaves s .vector (execVmovddupX d b s))
theorem vmovddupY (d : Reg) (b : RegMem) (s : State) : Behaves s .vector (exec (.vmovddupY d b) s) :=
  (opRM_behaves : Behaves s .vector (execVmovddupY d b s))
theorem vmovlpsStore (d : MemOp) (a : Reg) (s : State) : Behaves s .memory (exec (.vmovlpsStore d a) s) :=
  (opStore_behaves : Behaves s .memory (execVmovlpsStore d a s))
theorem vmovlpdStore (d : MemOp) (a : Reg) (s : State) : Behaves s .memory (exec (.vmovlpdStore d a) s) :=
  (opStore_behaves : Behaves s .memory (execVmovlpdStore d a s))
theorem vunpcklpsX (d : Reg) (a : Reg) (b : RegMem) (s : State) : Behaves s .vector (exec (.vunpcklpsX d a b) s) :=
  (opRVM_behaves : Behaves s .vector (execVunpcklpsX d a b s))
theorem vunpcklpsY (d : Reg) (a : Reg) (b : RegMem) (s : State) : Behaves s .vector (exec (.vunpcklpsY d a b) s) :=
  (opRVM_behaves : Behaves s .vector (execVunpcklpsY d a b s))
theorem vunpcklpdX (d : Reg) (a : Reg) (b : RegMem) (s : State) : Behaves s .vector (exec (.vunpcklpdX d a b) s) :=
  (opRVM_behaves : Behaves s .vector (execVunpcklpdX d a b s))
theorem vunpcklpdY (d : Reg) (a : Reg) (b : RegMem) (s : State) : Behaves s .vector (exec (.vunpcklpdY d a b) s) :=
  (opRVM_behaves : Behaves s .vector (execVunpcklpdY d a b s))
theorem vunpckhpsX (d : Reg) (a : Reg) (b : RegMem) (s : State) : Behaves s .vector (exec (.vunpckhpsX d a b) s) :=
  (opRVM_behaves : Behaves s .vector (execVunpckhpsX d a b s))
theorem vunpckhpsY (d : Reg) (a : Reg) (b : RegMem) (s : State) : Behaves s .vector (exec (.vunpckhpsY d a b) s) :=
  (opRVM_behaves : Behaves s .vector (execVunpckhpsY d a b s))
theorem vunpckhpdX (d : Reg) (a : Reg) (b : RegMem) (s : State) : Behaves s .vector (exec (.vunpckhpdX d a b) s) :=
  (opRVM_behaves : Behaves s .vector (execVunpckhpdX d a b s))
theorem vunpckhpdY (d : Reg) (a : Reg) (b : RegMem) (s : State) : Behaves s .vector (exec (.vunpckhpdY d a b) s) :=
  (opRVM_behaves : Behaves s .vector (execVunpckhpdY d a b s))
theorem vmovlhps (d : Reg) (a : Reg) (b : Reg) (s : State) : Behaves s .vector (exec (.vmovlhps d a b) s) :=
  (opRVM_behaves : Behaves s .vector (execVmovlhps d a b s))
theorem vmovhpsLoad (d : Reg) (a : Reg) (b : MemOp) (s : State) : Behaves s .vector (exec (.vmovhpsLoad d a b) s) :=
  (opRVM_behaves : Behaves s .vector (execVmovhpsLoad d a b s))
theorem vmovhpdLoad (d : Reg) (a : Reg) (b : MemOp) (s : State) : Behaves s .vector (exec (.vmovhpdLoad d a b) s) :=
  (opRVM_behaves : Behaves s .vector (execVmovhpdLoad d a b s))
theorem vmovshdupX (d : Reg) (b : RegMem) (s : State) : Behaves s .vector (exec (.vmovshdupX d b) s) :=
  (opRM_behaves : Behaves s .vector (execVmovshdupX d b s))
theorem vmovshdupY (d : Reg) (b : RegMem) (s : State) : Behaves s .vector (exec (.vmovshdupY d b) s) :=
  (opRM_behaves : Behaves s .vector (execVmovshdupY d b s))
theorem vmovhpsStore (d : MemOp) (a : Reg) (s : State) : Behaves s .memory (exec (.vmovhpsStore d a) s) :=
  (opStore_behaves : Behaves s .memory (execVmovhpsStore d a s))
theorem vmovhpdStore (d : MemOp) (a : Reg) (s : State) : Behaves s .memory (exec (.vmovhpdStore d a) s) :=
  (opStore_behaves : Behaves s .memory (execVmovhpdStore d a s))
theorem vmovapsX (d : Reg) (b : RegMem) (s : State) : Behaves s .vector (exec (.vmovapsX d b) s) :=
  (opMoveAligned_behaves : Behaves s .vector (execVmovapsX d b s))
theorem vmovapsY (d : Reg) (b : RegMem) (s : State) : Behaves s .vector (exec (.vmovapsY d b) s) :=
  (opMoveAligned_behaves : Behaves s .vector (execVmovapsY d b s))
theorem vmovapdX (d : Reg) (b : RegMem) (s : State) : Behaves s .vector (exec (.vmovapdX d b) s) :=
  (opMoveAligned_behaves : Behaves s .vector (execVmovapdX d b s))
theorem vmovapdY (d : Reg) (b : RegMem) (s : State) : Behaves s .vector (exec (.vmovapdY d b) s) :=
  (opMoveAligned_behaves : Behaves s .vector (execVmovapdY d b s))
theorem vmovapsXStore (d : RegMem) (a : Reg) (s : State) : Behaves s .memory (exec (.vmovapsXStore d a) s) :=
  (opMR_behaves : Behaves s .memory (execVmovapsXStore d a s))
theorem vmovapsYStore (d : RegMem) (a : Reg) (s : State) : Behaves s .memory (exec (.vmovapsYStore d a) s) :=
  (opMR_behaves : Behaves s .memory (execVmovapsYStore d a s))
theorem vmovapdXStore (d : RegMem) (a : Reg) (s : State) : Behaves s .memory (exec (.vmovapdXStore d a) s) :=
  (opMR_behaves : Behaves s .memory (execVmovapdXStore d a s))
theorem vmovapdYStore (d : RegMem) (a : Reg) (s : State) : Behaves s .memory (exec (.vmovapdYStore d a) s) :=
  (opMR_behaves : Behaves s .memory (execVmovapdYStore d a s))
theorem vcvtsi2ssR32 (d : Reg) (a : Reg) (b : RegMem) (s : State) : Behaves s .vector (exec (.vcvtsi2ssR32 d a b) s) :=
  (opFromGpr_behaves : Behaves s .vector (execVcvtsi2ssR32 d a b s))
theorem vcvtsi2ssR64 (d : Reg) (a : Reg) (b : RegMem) (s : State) : Behaves s .vector (exec (.vcvtsi2ssR64 d a b) s) :=
  (opFromGpr64_behaves : Behaves s .vector (execVcvtsi2ssR64 d a b s))
theorem vcvtsi2sdR32 (d : Reg) (a : Reg) (b : RegMem) (s : State) : Behaves s .vector (exec (.vcvtsi2sdR32 d a b) s) :=
  (opFromGpr_behaves : Behaves s .vector (execVcvtsi2sdR32 d a b s))
theorem vcvtsi2sdR64 (d : Reg) (a : Reg) (b : RegMem) (s : State) : Behaves s .vector (exec (.vcvtsi2sdR64 d a b) s) :=
  (opFromGpr64_behaves : Behaves s .vector (execVcvtsi2sdR64 d a b s))
theorem vcvttss2siR32 (d : Reg) (b : RegMem) (s : State) : Behaves s .general (exec (.vcvttss2siR32 d b) s) :=
  (opToGpr32_behaves : Behaves s .general (execVcvttss2siR32 d b s))
theorem vcvttss2siR64 (d : Reg) (b : RegMem) (s : State) : Behaves s .general (exec (.vcvttss2siR64 d b) s) :=
  (opToGpr64_behaves : Behaves s .general (execVcvttss2siR64 d b s))
theorem vcvttsd2siR32 (d : Reg) (b : RegMem) (s : State) : Behaves s .general (exec (.vcvttsd2siR32 d b) s) :=
  (opToGpr32_behaves : Behaves s .general (execVcvttsd2siR32 d b s))
theorem vcvttsd2siR64 (d : Reg) (b : RegMem) (s : State) : Behaves s .general (exec (.vcvttsd2siR64 d b) s) :=
  (opToGpr64_behaves : Behaves s .general (execVcvttsd2siR64 d b s))
theorem vcvtss2siR32 (d : Reg) (b : RegMem) (s : State) : Behaves s .general (exec (.vcvtss2siR32 d b) s) :=
  (opToGpr32_behaves : Behaves s .general (execVcvtss2siR32 d b s))
theorem vcvtss2siR64 (d : Reg) (b : RegMem) (s : State) : Behaves s .general (exec (.vcvtss2siR64 d b) s) :=
  (opToGpr64_behaves : Behaves s .general (execVcvtss2siR64 d b s))
theorem vcvtsd2siR32 (d : Reg) (b : RegMem) (s : State) : Behaves s .general (exec (.vcvtsd2siR32 d b) s) :=
  (opToGpr32_behaves : Behaves s .general (execVcvtsd2siR32 d b s))
theorem vcvtsd2siR64 (d : Reg) (b : RegMem) (s : State) : Behaves s .general (exec (.vcvtsd2siR64 d b) s) :=
  (opToGpr64_behaves : Behaves s .general (execVcvtsd2siR64 d b s))
theorem vmovmskpsX (d : Reg) (b : Reg) (s : State) : Behaves s .general (exec (.vmovmskpsX d b) s) :=
  (opToGpr32_behaves : Behaves s .general (execVmovmskpsX d b s))
theorem vmovmskpsY (d : Reg) (b : Reg) (s : State) : Behaves s .general (exec (.vmovmskpsY d b) s) :=
  (opToGpr32_behaves : Behaves s .general (execVmovmskpsY d b s))
theorem vmovmskpdX (d : Reg) (b : Reg) (s : State) : Behaves s .general (exec (.vmovmskpdX d b) s) :=
  (opToGpr32_behaves : Behaves s .general (execVmovmskpdX d b s))
theorem vmovmskpdY (d : Reg) (b : Reg) (s : State) : Behaves s .general (exec (.vmovmskpdY d b) s) :=
  (opToGpr32_behaves : Behaves s .general (execVmovmskpdY d b s))
theorem vsqrtpsX (d : Reg) (b : RegMem) (s : State) : Behaves s .vector (exec (.vsqrtpsX d b) s) :=
  (opRMfp_behaves : Behaves s .vector (execVsqrtpsX d b s))
theorem vsqrtpsY (d : Reg) (b : RegMem) (s : State) : Behaves s .vector (exec (.vsqrtpsY d b) s) :=
  (opRMfp_behaves : Behaves s .vector (execVsqrtpsY d b s))
theorem vsqrtpdX (d : Reg) (b : RegMem) (s : State) : Behaves s .vector (exec (.vsqrtpdX d b) s) :=
  (opRMfp_behaves : Behaves s .vector (execVsqrtpdX d b s))
theorem vsqrtpdY (d : Reg) (b : RegMem) (s : State) : Behaves s .vector (exec (.vsqrtpdY d b) s) :=
  (opRMfp_behaves : Behaves s .vector (execVsqrtpdY d b s))
theorem vsqrtss (d : Reg) (a : Reg) (b : RegMem) (s : State) : Behaves s .vector (exec (.vsqrtss d a b) s) :=
  (opRVMfp_behaves : Behaves s .vector (execVsqrtss d a b s))
theorem vsqrtsd (d : Reg) (a : Reg) (b : RegMem) (s : State) : Behaves s .vector (exec (.vsqrtsd d a b) s) :=
  (opRVMfp_behaves : Behaves s .vector (execVsqrtsd d a b s))
theorem vrsqrtpsX (d : Reg) (b : RegMem) (s : State) : Behaves s .vector (exec (.vrsqrtpsX d b) s) :=
  (opRM_behaves : Behaves s .vector (execVrsqrtpsX d b s))
theorem vrsqrtpsY (d : Reg) (b : RegMem) (s : State) : Behaves s .vector (exec (.vrsqrtpsY d b) s) :=
  (opRM_behaves : Behaves s .vector (execVrsqrtpsY d b s))
theorem vrsqrtss (d : Reg) (a : Reg) (b : RegMem) (s : State) : Behaves s .vector (exec (.vrsqrtss d a b) s) :=
  (opRVM_behaves : Behaves s .vector (execVrsqrtss d a b s))
theorem vrcppsX (d : Reg) (b : RegMem) (s : State) : Behaves s .vector (exec (.vrcppsX d b) s) :=
  (opRM_behaves : Behaves s .vector (execVrcppsX d b s))
theorem vrcppsY (d : Reg) (b : RegMem) (s : State) : Behaves s .vector (exec (.vrcppsY d b) s) :=
  (opRM_behaves : Behaves s .vector (execVrcppsY d b s))
theorem vrcpss (d : Reg) (a : Reg) (b : RegMem) (s : State) : Behaves s .vector (exec (.vrcpss d a b) s) :=
  (opRVM_behaves : Behaves s .vector (execVrcpss d a b s))
theorem vandpsX (d : Reg) (a : Reg) (b : RegMem) (s : State) : Behaves s .vector (exec (.vandpsX d a b) s) :=
  (opRVM_behaves : Behaves s .vector (execVandpsX d a b s))
theorem vandpsY (d : Reg) (a : Reg) (b : RegMem) (s : State) : Behaves s .vector (exec (.vandpsY d a b) s) :=
  (opRVM_behaves : Behaves s .vector (execVandpsY d a b s))
theorem vandpdX (d : Reg) (a : Reg) (b : RegMem) (s : State) : Behaves s .vector (exec (.vandpdX d a b) s) :=
  (opRVM_behaves : Behaves s .vector (execVandpdX d a b s))
theorem vandpdY (d : Reg) (a : Reg) (b : RegMem) (s : State) : Behaves s .vector (exec (.vandpdY d a b) s) :=
  (opRVM_behaves : Behaves s .vector (execVandpdY d a b s))
theorem vandnpsX (d : Reg) (a : Reg) (b : RegMem) (s : State) : Behaves s .vector (exec (.vandnpsX d a b) s) :=
  (opRVM_behaves : Behaves s .vector (execVandnpsX d a b s))
theorem vandnpsY (d : Reg) (a : Reg) (b : RegMem) (s : State) : Behaves s .vector (exec (.vandnpsY d a b) s) :=
  (opRVM_behaves : Behaves s .vector (execVandnpsY d a b s))
theorem vandnpdX (d : Reg) (a : Reg) (b : RegMem) (s : State) : Behaves s .vector (exec (.vandnpdX d a b) s) :=
  (opRVM_behaves : Behaves s .vector (execVandnpdX d a b s))
theorem vandnpdY (d : Reg) (a : Reg) (b : RegMem) (s : State) : Behaves s .vector (exec (.vandnpdY d a b) s) :=
  (opRVM_behaves : Behaves s .vector (execVandnpdY d a b s))
theorem vorpsX (d : Reg) (a : Reg) (b : RegMem) (s : State) : Behaves s .vector (exec (.vorpsX d a b) s) :=
  (opRVM_behaves : Behaves s .vector (execVorpsX d a b s))
theorem vorpsY (d : Reg) (a : Reg) (b : RegMem) (s : State) : Behaves s .vector (exec (.vorpsY d a b) s) :=
  (opRVM_behaves : Behaves s .vector (execVorpsY d a b s))
theorem vorpdX (d : Reg) (a : Reg) (b : RegMem) (s : State) : Behaves s .vector (exec (.vorpdX d a b) s) :=
  (opRVM_behaves : Behaves s .vector (execVorpdX d a b s))
theorem vorpdY (d : Reg) (a : Reg) (b : RegMem) (s : State) : Behaves s .vector (exec (.vorpdY d a b) s) :=
  (opRVM_behaves : Behaves s .vector (execVorpdY d a b s))
theorem vxorpsX (d : Reg) (a : Reg) (b : RegMem) (s : State) : Behaves s .vector (exec (.vxorpsX d a b) s) :=
  (opRVM_behaves : Behaves s .vector (execVxorpsX d a b s))
theorem vxorpsY (d : Reg) (a : Reg) (b : RegMem) (s : State) : Behaves s .vector (exec (.vxorpsY d a b) s) :=
  (opRVM_behaves : Behaves s .vector (execVxorpsY d a b s))
theorem vxorpdX (d : Reg) (a : Reg) (b : RegMem) (s : State) : Behaves s .vector (exec (.vxorpdX d a b) s) :=
  (opRVM_behaves : Behaves s .vector (execVxorpdX d a b s))
theorem vxorpdY (d : Reg) (a : Reg) (b : RegMem) (s : State) : Behaves s .vector (exec (.vxorpdY d a b) s) :=
  (opRVM_behaves : Behaves s .vector (execVxorpdY d a b s))
theorem vaddpsX (d : Reg) (a : Reg) (b : RegMem) (s : State) : Behaves s .vector (exec (.vaddpsX d a b) s) :=
  (opRVMfp_behaves : Behaves s .vector (execVaddpsX d a b s))
theorem vaddpsY (d : Reg) (a : Reg) (b : RegMem) (s : State) : Behaves s .vector (exec (.vaddpsY d a b) s) :=
  (opRVMfp_behaves : Behaves s .vector (execVaddpsY d a b s))
theorem vaddpdX (d : Reg) (a : Reg) (b : RegMem) (s : State) : Behaves s .vector (exec (.vaddpdX d a b) s) :=
  (opRVMfp_behaves : Behaves s .vector (execVaddpdX d a b s))
theorem vaddpdY (d : Reg) (a : Reg) (b : RegMem) (s : State) : Behaves s .vector (exec (.vaddpdY d a b) s) :=
  (opRVMfp_behaves : Behaves s .vector (execVaddpdY d a b s))
theorem vaddss (d : Reg) (a : Reg) (b : RegMem) (s : State) : Behaves s .vector (exec (.vaddss d a b) s) :=
  (opRVMfp_behaves : Behaves s .vector (execVaddss d a b s))
theorem vaddsd (d : Reg) (a : Reg) (b : RegMem) (s : State) : Behaves s .vector (exec (.vaddsd d a b) s) :=
  (opRVMfp_behaves : Behaves s .vector (execVaddsd d a b s))
theorem vmulpsX (d : Reg) (a : Reg) (b : RegMem) (s : State) : Behaves s .vector (exec (.vmulpsX d a b) s) :=
  (opRVMfp_behaves : Behaves s .vector (execVmulpsX d a b s))
theorem vmulpsY (d : Reg) (a : Reg) (b : RegMem) (s : State) : Behaves s .vector (exec (.vmulpsY d a b) s) :=
  (opRVMfp_behaves : Behaves s .vector (execVmulpsY d a b s))
theorem vmulpdX (d : Reg) (a : Reg) (b : RegMem) (s : State) : Behaves s .vector (exec (.vmulpdX d a b) s) :=
  (opRVMfp_behaves : Behaves s .vector (execVmulpdX d a b s))
theorem vmulpdY (d : Reg) (a : Reg) (b : RegMem) (s : State) : Behaves s .vector (exec (.vmulpdY d a b) s) :=
  (opRVMfp_behaves : Behaves s .vector (execVmulpdY d a b s))
theorem vmulss (d : Reg) (a : Reg) (b : RegMem) (s : State) : Behaves s .vector (exec (.vmulss d a b) s) :=
  (opRVMfp_behaves : Behaves s .vector (execVmulss d a b s))
theorem vmulsd (d : Reg) (a : Reg) (b : RegMem) (s : State) : Behaves s .vector (exec (.vmulsd d a b) s) :=
  (opRVMfp_behaves : Behaves s .vector (execVmulsd d a b s))
theorem vcvtps2pdX (d : Reg) (b : RegMem) (s : State) : Behaves s .vector (exec (.vcvtps2pdX d b) s) :=
  (opRMfp_behaves : Behaves s .vector (execVcvtps2pdX d b s))
theorem vcvtps2pdY (d : Reg) (b : RegMem) (s : State) : Behaves s .vector (exec (.vcvtps2pdY d b) s) :=
  (opRMfp_behaves : Behaves s .vector (execVcvtps2pdY d b s))
theorem vcvtpd2psX (d : Reg) (b : RegMem) (s : State) : Behaves s .vector (exec (.vcvtpd2psX d b) s) :=
  (opRMfp_behaves : Behaves s .vector (execVcvtpd2psX d b s))
theorem vcvtpd2psY (d : Reg) (b : RegMem) (s : State) : Behaves s .vector (exec (.vcvtpd2psY d b) s) :=
  (opRMfp_behaves : Behaves s .vector (execVcvtpd2psY d b s))
theorem vcvtss2sd (d : Reg) (a : Reg) (b : RegMem) (s : State) : Behaves s .vector (exec (.vcvtss2sd d a b) s) :=
  (opRVMfp_behaves : Behaves s .vector (execVcvtss2sd d a b s))
theorem vcvtsd2ss (d : Reg) (a : Reg) (b : RegMem) (s : State) : Behaves s .vector (exec (.vcvtsd2ss d a b) s) :=
  (opRVMfp_behaves : Behaves s .vector (execVcvtsd2ss d a b s))
theorem vcvtdq2psX (d : Reg) (b : RegMem) (s : State) : Behaves s .vector (exec (.vcvtdq2psX d b) s) :=
  (opRMfp_behaves : Behaves s .vector (execVcvtdq2psX d b s))
theorem vcvtdq2psY (d : Reg) (b : RegMem) (s : State) : Behaves s .vector (exec (.vcvtdq2psY d b) s) :=
  (opRMfp_behaves : Behaves s .vector (execVcvtdq2psY d b s))
theorem vcvtps2dqX (d : Reg) (b : RegMem) (s : State) : Behaves s .vector (exec (.vcvtps2dqX d b) s) :=
  (opRMfp_behaves : Behaves s .vector (execVcvtps2dqX d b s))
theorem vcvtps2dqY (d : Reg) (b : RegMem) (s : State) : Behaves s .vector (exec (.vcvtps2dqY d b) s) :=
  (opRMfp_behaves : Behaves s .vector (execVcvtps2dqY d b s))
theorem vcvttps2dqX (d : Reg) (b : RegMem) (s : State) : Behaves s .vector (exec (.vcvttps2dqX d b) s) :=
  (opRMfp_behaves : Behaves s .vector (execVcvttps2dqX d b s))
theorem vcvttps2dqY (d : Reg) (b : RegMem) (s : State) : Behaves s .vector (exec (.vcvttps2dqY d b) s) :=
  (opRMfp_behaves : Behaves s .vector (execVcvttps2dqY d b s))
theorem vsubpsX (d : Reg) (a : Reg) (b : RegMem) (s : State) : Behaves s .vector (exec (.vsubpsX d a b) s) :=
  (opRVMfp_behaves : Behaves s .vector (execVsubpsX d a b s))
theorem vsubpsY (d : Reg) (a : Reg) (b : RegMem) (s : State) : Behaves s .vector (exec (.vsubpsY d a b) s) :=
  (opRVMfp_behaves : Behaves s .vector (execVsubpsY d a b s))
theorem vsubpdX (d : Reg) (a : Reg) (b : RegMem) (s : State) : Behaves s .vector (exec (.vsubpdX d a b) s) :=
  (opRVMfp_behaves : Behaves s .vector (execVsubpdX d a b s))
theorem vsubpdY (d : Reg) (a : Reg) (b : RegMem) (s : State) : Behaves s .vector (exec (.vsubpdY d a b) s) :=
  (opRVMfp_behaves : Behaves s .vector (execVsubpdY d a b s))
theorem vsubss (d : Reg) (a : Reg) (b : RegMem) (s : State) : Behaves s .vector (exec (.vsubss d a b) s) :=
  (opRVMfp_behaves : Behaves s .vector (execVsubss d a b s))
theorem vsubsd (d : Reg) (a : Reg) (b : RegMem) (s : State) : Behaves s .vector (exec (.vsubsd d a b) s) :=
  (opRVMfp_behaves : Behaves s .vector (execVsubsd d a b s))
theorem vminpsX (d : Reg) (a : Reg) (b : RegMem) (s : State) : Behaves s .vector (exec (.vminpsX d a b) s) :=
  (opRVMfp_behaves : Behaves s .vector (execVminpsX d a b s))
theorem vminpsY (d : Reg) (a : Reg) (b : RegMem) (s : State) : Behaves s .vector (exec (.vminpsY d a b) s) :=
  (opRVMfp_behaves : Behaves s .vector (execVminpsY d a b s))
theorem vminpdX (d : Reg) (a : Reg) (b : RegMem) (s : State) : Behaves s .vector (exec (.vminpdX d a b) s) :=
  (opRVMfp_behaves : Behaves s .vector (execVminpdX d a b s))
theorem vminpdY (d : Reg) (a : Reg) (b : RegMem) (s : State) : Behaves s .vector (exec (.vminpdY d a b) s) :=
  (opRVMfp_behaves : Behaves s .vector (execVminpdY d a b s))
theorem vminss (d : Reg) (a : Reg) (b : RegMem) (s : State) : Behaves s .vector (exec (.vminss d a b) s) :=
  (opRVMfp_behaves : Behaves s .vector (execVminss d a b s))
theorem vminsd (d : Reg) (a : Reg) (b : RegMem) (s : State) : Behaves s .vector (exec (.vminsd d a b) s) :=
  (opRVMfp_behaves : Behaves s .vector (execVminsd d a b s))
theorem vdivpsX (d : Reg) (a : Reg) (b : RegMem) (s : State) : Behaves s .vector (exec (.vdivpsX d a b) s) :=
  (opRVMfp_behaves : Behaves s .vector (execVdivpsX d a b s))
theorem vdivpsY (d : Reg) (a : Reg) (b : RegMem) (s : State) : Behaves s .vector (exec (.vdivpsY d a b) s) :=
  (opRVMfp_behaves : Behaves s .vector (execVdivpsY d a b s))
theorem vdivpdX (d : Reg) (a : Reg) (b : RegMem) (s : State) : Behaves s .vector (exec (.vdivpdX d a b) s) :=
  (opRVMfp_behaves : Behaves s .vector (execVdivpdX d a b s))
theorem vdivpdY (d : Reg) (a : Reg) (b : RegMem) (s : State) : Behaves s .vector (exec (.vdivpdY d a b) s) :=
  (opRVMfp_behaves : Behaves s .vector (execVdivpdY d a b s))
theorem vdivss (d : Reg) (a : Reg) (b : RegMem) (s : State) : Behaves s .vector (exec (.vdivss d a b) s) :=
  (opRVMfp_behaves : Behaves s .vector (execVdivss d a b s))
theorem vdivsd (d : Reg) (a : Reg) (b : RegMem) (s : State) : Behaves s .vector (exec (.vdivsd d a b) s) :=
  (opRVMfp_behaves : Behaves s .vector (execVdivsd d a b s))
theorem vmaxpsX (d : Reg) (a : Reg) (b : RegMem) (s : State) : Behaves s .vector (exec (.vmaxpsX d a b) s) :=
  (opRVMfp_behaves : Behaves s .vector (execVmaxpsX d a b s))
theorem vmaxpsY (d : Reg) (a : Reg) (b : RegMem) (s : State) : Behaves s .vector (exec (.vmaxpsY d a b) s) :=
  (opRVMfp_behaves : Behaves s .vector (execVmaxpsY d a b s))
theorem vmaxpdX (d : Reg) (a : Reg) (b : RegMem) (s : State) : Behaves s .vector (exec (.vmaxpdX d a b) s) :=
  (opRVMfp_behaves : Behaves s .vector (execVmaxpdX d a b s))
theorem vmaxpdY (d : Reg) (a : Reg) (b : RegMem) (s : State) : Behaves s .vector (exec (.vmaxpdY d a b) s) :=
  (opRVMfp_behaves : Behaves s .vector (execVmaxpdY d a b s))
theorem vmaxss (d : Reg) (a : Reg) (b : RegMem) (s : State) : Behaves s .vector (exec (.vmaxss d a b) s) :=
  (opRVMfp_behaves : Behaves s .vector (execVmaxss d a b s))
theorem vmaxsd (d : Reg) (a : Reg) (b : RegMem) (s : State) : Behaves s .vector (exec (.vmaxsd d a b) s) :=
  (opRVMfp_behaves : Behaves s .vector (execVmaxsd d a b s))
theorem vpunpcklbw (d : Reg) (a : Reg) (b : RegMem) (s : State) : Behaves s .vector (exec (.vpunpcklbw d a b) s) :=
  (opRVM_behaves : Behaves s .vector (execVpunpcklbw d a b s))
theorem vpunpcklwd (d : Reg) (a : Reg) (b : RegMem) (s : State) : Behaves s .vector (exec (.vpunpcklwd d a b) s) :=
  (opRVM_behaves : Behaves s .vector (execVpunpcklwd d a b s))
theorem vpunpckldq (d : Reg) (a : Reg) (b : RegMem) (s : State) : Behaves s .vector (exec (.vpunpckldq d a b) s) :=
  (opRVM_behaves : Behaves s .vector (execVpunpckldq d a b s))
theorem vpacksswb (d : Reg) (a : Reg) (b : RegMem) (s : State) : Behaves s .vector (exec (.vpacksswb d a b) s) :=
  (opRVM_behaves : Behaves s .vector (execVpacksswb d a b s))
theorem vpcmpgtb (d : Reg) (a : Reg) (b : RegMem) (s : State) : Behaves s .vector (exec (.vpcmpgtb d a b) s) :=
  (opRVM_behaves : Behaves s .vector (execVpcmpgtb d a b s))
theorem vpcmpgtw (d : Reg) (a : Reg) (b : RegMem) (s : State) : Behaves s .vector (exec (.vpcmpgtw d a b) s) :=
  (opRVM_behaves : Behaves s .vector (execVpcmpgtw d a b s))
theorem vpcmpgtd (d : Reg) (a : Reg) (b : RegMem) (s : State) : Behaves s .vector (exec (.vpcmpgtd d a b) s) :=
  (opRVM_behaves : Behaves s .vector (execVpcmpgtd d a b s))
theorem vpackuswb (d : Reg) (a : Reg) (b : RegMem) (s : State) : Behaves s .vector (exec (.vpackuswb d a b) s) :=
  (opRVM_behaves : Behaves s .vector (execVpackuswb d a b s))
theorem vpunpckhbw (d : Reg) (a : Reg) (b : RegMem) (s : State) : Behaves s .vector (exec (.vpunpckhbw d a b) s) :=
  (opRVM_behaves : Behaves s .vector (execVpunpckhbw d a b s))
theorem vpunpckhwd (d : Reg) (a : Reg) (b : RegMem) (s : State) : Behaves s .vector (exec (.vpunpckhwd d a b) s) :=
  (opRVM_behaves : Behaves s .vector (execVpunpckhwd d a b s))
theorem vpunpckhdq (d : Reg) (a : Reg) (b : RegMem) (s : State) : Behaves s .vector (exec (.vpunpckhdq d a b) s) :=
  (opRVM_behaves : Behaves s .vector (execVpunpckhdq d a b s))
theorem vpackssdw (d : Reg) (a : Reg) (b : RegMem) (s : State) : Behaves s .vector (exec (.vpackssdw d a b) s) :=
  (opRVM_behaves : Behaves s .vector (execVpackssdw d a b s))
theorem vpunpcklqdq (d : Reg) (a : Reg) (b : RegMem) (s : State) : Behaves s .vector (exec (.vpunpcklqdq d a b) s) :=
  (opRVM_behaves : Behaves s .vector (execVpunpcklqdq d a b s))
theorem vpunpckhqdq (d : Reg) (a : Reg) (b : RegMem) (s : State) : Behaves s .vector (exec (.vpunpckhqdq d a b) s) :=
  (opRVM_behaves : Behaves s .vector (execVpunpckhqdq d a b s))
theorem vmovdqaX (d : Reg) (b : RegMem) (s : State) : Behaves s .vector (exec (.vmovdqaX d b) s) :=
  (opMoveAligned_behaves : Behaves s .vector (execVmovdqaX d b s))
theorem vmovdqaY (d : Reg) (b : RegMem) (s : State) : Behaves s .vector (exec (.vmovdqaY d b) s) :=
  (opMoveAligned_behaves : Behaves s .vector (execVmovdqaY d b s))
theorem vmovdquX (d : Reg) (b : RegMem) (s : State) : Behaves s .vector (exec (.vmovdquX d b) s) :=
  (opRM_behaves : Behaves s .vector (execVmovdquX d b s))
theorem vmovdquY (d : Reg) (b : RegMem) (s : State) : Behaves s .vector (exec (.vmovdquY d b) s) :=
  (opRM_behaves : Behaves s .vector (execVmovdquY d b s))
theorem vpshufd (d : Reg) (b : RegMem) (imm : BitVec 8) (s : State) : Behaves s .vector (exec (.vpshufd d b imm) s) :=
  (opRM_behaves : Behaves s .vector (execVpshufd d b imm s))
theorem vpshufhw (d : Reg) (b : RegMem) (imm : BitVec 8) (s : State) : Behaves s .vector (exec (.vpshufhw d b imm) s) :=
  (opRM_behaves : Behaves s .vector (execVpshufhw d b imm s))
theorem vpshuflw (d : Reg) (b : RegMem) (imm : BitVec 8) (s : State) : Behaves s .vector (exec (.vpshuflw d b imm) s) :=
  (opRM_behaves : Behaves s .vector (execVpshuflw d b imm s))
theorem vpsrlwImm (d : Reg) (a : Reg) (imm : BitVec 8) (s : State) : Behaves s .vector (exec (.vpsrlwImm d a imm) s) :=
  (opRM_behaves : Behaves s .vector (execVpsrlwImm d a imm s))
theorem vpsrawImm (d : Reg) (a : Reg) (imm : BitVec 8) (s : State) : Behaves s .vector (exec (.vpsrawImm d a imm) s) :=
  (opRM_behaves : Behaves s .vector (execVpsrawImm d a imm s))
theorem vpsllwImm (d : Reg) (a : Reg) (imm : BitVec 8) (s : State) : Behaves s .vector (exec (.vpsllwImm d a imm) s) :=
  (opRM_behaves : Behaves s .vector (execVpsllwImm d a imm s))
theorem vpsrldImm (d : Reg) (a : Reg) (imm : BitVec 8) (s : State) : Behaves s .vector (exec (.vpsrldImm d a imm) s) :=
  (opRM_behaves : Behaves s .vector (execVpsrldImm d a imm s))
theorem vpsradImm (d : Reg) (a : Reg) (imm : BitVec 8) (s : State) : Behaves s .vector (exec (.vpsradImm d a imm) s) :=
  (opRM_behaves : Behaves s .vector (execVpsradImm d a imm s))
theorem vpslldImm (d : Reg) (a : Reg) (imm : BitVec 8) (s : State) : Behaves s .vector (exec (.vpslldImm d a imm) s) :=
  (opRM_behaves : Behaves s .vector (execVpslldImm d a imm s))
theorem vpsrlqImm (d : Reg) (a : Reg) (imm : BitVec 8) (s : State) : Behaves s .vector (exec (.vpsrlqImm d a imm) s) :=
  (opRM_behaves : Behaves s .vector (execVpsrlqImm d a imm s))
theorem vpsrldq (d : Reg) (a : Reg) (imm : BitVec 8) (s : State) : Behaves s .vector (exec (.vpsrldq d a imm) s) :=
  (opRM_behaves : Behaves s .vector (execVpsrldq d a imm s))
theorem vpsllqImm (d : Reg) (a : Reg) (imm : BitVec 8) (s : State) : Behaves s .vector (exec (.vpsllqImm d a imm) s) :=
  (opRM_behaves : Behaves s .vector (execVpsllqImm d a imm s))
theorem vpslldq (d : Reg) (a : Reg) (imm : BitVec 8) (s : State) : Behaves s .vector (exec (.vpslldq d a imm) s) :=
  (opRM_behaves : Behaves s .vector (execVpslldq d a imm s))
theorem vpcmpeqb (d : Reg) (a : Reg) (b : RegMem) (s : State) : Behaves s .vector (exec (.vpcmpeqb d a b) s) :=
  (opRVM_behaves : Behaves s .vector (execVpcmpeqb d a b s))
theorem vpcmpeqw (d : Reg) (a : Reg) (b : RegMem) (s : State) : Behaves s .vector (exec (.vpcmpeqw d a b) s) :=
  (opRVM_behaves : Behaves s .vector (execVpcmpeqw d a b s))
theorem vpcmpeqd (d : Reg) (a : Reg) (b : RegMem) (s : State) : Behaves s .vector (exec (.vpcmpeqd d a b) s) :=
  (opRVM_behaves : Behaves s .vector (execVpcmpeqd d a b s))
theorem vzeroupper (s : State) : Behaves s .vector (exec (.vzeroupper) s) :=
  .clear _
theorem vzeroall (s : State) : Behaves s .vector (exec (.vzeroall) s) :=
  .clear _
theorem vhaddpdX (d : Reg) (a : Reg) (b : RegMem) (s : State) : Behaves s .vector (exec (.vhaddpdX d a b) s) :=
  (opRVMfp_behaves : Behaves s .vector (execVhaddpdX d a b s))
theorem vhaddpdY (d : Reg) (a : Reg) (b : RegMem) (s : State) : Behaves s .vector (exec (.vhaddpdY d a b) s) :=
  (opRVMfp_behaves : Behaves s .vector (execVhaddpdY d a b s))
theorem vhaddpsX (d : Reg) (a : Reg) (b : RegMem) (s : State) : Behaves s .vector (exec (.vhaddpsX d a b) s) :=
  (opRVMfp_behaves : Behaves s .vector (execVhaddpsX d a b s))
theorem vhaddpsY (d : Reg) (a : Reg) (b : RegMem) (s : State) : Behaves s .vector (exec (.vhaddpsY d a b) s) :=
  (opRVMfp_behaves : Behaves s .vector (execVhaddpsY d a b s))
theorem vhsubpdX (d : Reg) (a : Reg) (b : RegMem) (s : State) : Behaves s .vector (exec (.vhsubpdX d a b) s) :=
  (opRVMfp_behaves : Behaves s .vector (execVhsubpdX d a b s))
theorem vhsubpdY (d : Reg) (a : Reg) (b : RegMem) (s : State) : Behaves s .vector (exec (.vhsubpdY d a b) s) :=
  (opRVMfp_behaves : Behaves s .vector (execVhsubpdY d a b s))
theorem vhsubpsX (d : Reg) (a : Reg) (b : RegMem) (s : State) : Behaves s .vector (exec (.vhsubpsX d a b) s) :=
  (opRVMfp_behaves : Behaves s .vector (execVhsubpsX d a b s))
theorem vhsubpsY (d : Reg) (a : Reg) (b : RegMem) (s : State) : Behaves s .vector (exec (.vhsubpsY d a b) s) :=
  (opRVMfp_behaves : Behaves s .vector (execVhsubpsY d a b s))
theorem vmovdqaXStore (d : RegMem) (a : Reg) (s : State) : Behaves s .memory (exec (.vmovdqaXStore d a) s) :=
  (opMR_behaves : Behaves s .memory (execVmovdqaXStore d a s))
theorem vmovdqaYStore (d : RegMem) (a : Reg) (s : State) : Behaves s .memory (exec (.vmovdqaYStore d a) s) :=
  (opMR_behaves : Behaves s .memory (execVmovdqaYStore d a s))
theorem vmovdquXStore (d : RegMem) (a : Reg) (s : State) : Behaves s .memory (exec (.vmovdquXStore d a) s) :=
  (opMR_behaves : Behaves s .memory (execVmovdquXStore d a s))
theorem vmovdquYStore (d : RegMem) (a : Reg) (s : State) : Behaves s .memory (exec (.vmovdquYStore d a) s) :=
  (opMR_behaves : Behaves s .memory (execVmovdquYStore d a s))
theorem vldmxcsr (m : MemOp) (s : State) : Behaves s .control (exec (.vldmxcsr m) s) :=
  execVldmxcsr_behaves
theorem vstmxcsr (m : MemOp) (s : State) : Behaves s .memory (exec (.vstmxcsr m) s) :=
  (opStore_behaves : Behaves s .memory (execVstmxcsr m s))
theorem vcmppsX (d : Reg) (a : Reg) (b : RegMem) (imm : BitVec 8) (s : State) : Behaves s .vector (exec (.vcmppsX d a b imm) s) :=
  (opRVMfp_behaves : Behaves s .vector (execVcmppsX d a b imm s))
theorem vcmppsY (d : Reg) (a : Reg) (b : RegMem) (imm : BitVec 8) (s : State) : Behaves s .vector (exec (.vcmppsY d a b imm) s) :=
  (opRVMfp_behaves : Behaves s .vector (execVcmppsY d a b imm s))
theorem vcmppdX (d : Reg) (a : Reg) (b : RegMem) (imm : BitVec 8) (s : State) : Behaves s .vector (exec (.vcmppdX d a b imm) s) :=
  (opRVMfp_behaves : Behaves s .vector (execVcmppdX d a b imm s))
theorem vcmppdY (d : Reg) (a : Reg) (b : RegMem) (imm : BitVec 8) (s : State) : Behaves s .vector (exec (.vcmppdY d a b imm) s) :=
  (opRVMfp_behaves : Behaves s .vector (execVcmppdY d a b imm s))
theorem vcmpss (d : Reg) (a : Reg) (b : RegMem) (imm : BitVec 8) (s : State) : Behaves s .vector (exec (.vcmpss d a b imm) s) :=
  (opRVMfp_behaves : Behaves s .vector (execVcmpss d a b imm s))
theorem vcmpsd (d : Reg) (a : Reg) (b : RegMem) (imm : BitVec 8) (s : State) : Behaves s .vector (exec (.vcmpsd d a b imm) s) :=
  (opRVMfp_behaves : Behaves s .vector (execVcmpsd d a b imm s))
theorem vpinsrw (d : Reg) (a : Reg) (b : RegMem) (imm : BitVec 8) (s : State) : Behaves s .vector (exec (.vpinsrw d a b imm) s) :=
  (opFromGpr_behaves : Behaves s .vector (execVpinsrw d a b imm s))
theorem vshufpsX (d : Reg) (a : Reg) (b : RegMem) (imm : BitVec 8) (s : State) : Behaves s .vector (exec (.vshufpsX d a b imm) s) :=
  (opRVM_behaves : Behaves s .vector (execVshufpsX d a b imm s))
theorem vshufpsY (d : Reg) (a : Reg) (b : RegMem) (imm : BitVec 8) (s : State) : Behaves s .vector (exec (.vshufpsY d a b imm) s) :=
  (opRVM_behaves : Behaves s .vector (execVshufpsY d a b imm s))
theorem vshufpdX (d : Reg) (a : Reg) (b : RegMem) (imm : BitVec 8) (s : State) : Behaves s .vector (exec (.vshufpdX d a b imm) s) :=
  (opRVM_behaves : Behaves s .vector (execVshufpdX d a b imm s))
theorem vshufpdY (d : Reg) (a : Reg) (b : RegMem) (imm : BitVec 8) (s : State) : Behaves s .vector (exec (.vshufpdY d a b imm) s) :=
  (opRVM_behaves : Behaves s .vector (execVshufpdY d a b imm s))
theorem vaddsubpdX (d : Reg) (a : Reg) (b : RegMem) (s : State) : Behaves s .vector (exec (.vaddsubpdX d a b) s) :=
  (opRVMfp_behaves : Behaves s .vector (execVaddsubpdX d a b s))
theorem vaddsubpdY (d : Reg) (a : Reg) (b : RegMem) (s : State) : Behaves s .vector (exec (.vaddsubpdY d a b) s) :=
  (opRVMfp_behaves : Behaves s .vector (execVaddsubpdY d a b s))
theorem vaddsubpsX (d : Reg) (a : Reg) (b : RegMem) (s : State) : Behaves s .vector (exec (.vaddsubpsX d a b) s) :=
  (opRVMfp_behaves : Behaves s .vector (execVaddsubpsX d a b s))
theorem vaddsubpsY (d : Reg) (a : Reg) (b : RegMem) (s : State) : Behaves s .vector (exec (.vaddsubpsY d a b) s) :=
  (opRVMfp_behaves : Behaves s .vector (execVaddsubpsY d a b s))
theorem vpsrlw (d : Reg) (a : Reg) (b : RegMem) (s : State) : Behaves s .vector (exec (.vpsrlw d a b) s) :=
  (opRVM_behaves : Behaves s .vector (execVpsrlw d a b s))
theorem vpsrld (d : Reg) (a : Reg) (b : RegMem) (s : State) : Behaves s .vector (exec (.vpsrld d a b) s) :=
  (opRVM_behaves : Behaves s .vector (execVpsrld d a b s))
theorem vpsrlq (d : Reg) (a : Reg) (b : RegMem) (s : State) : Behaves s .vector (exec (.vpsrlq d a b) s) :=
  (opRVM_behaves : Behaves s .vector (execVpsrlq d a b s))
theorem vpaddq (d : Reg) (a : Reg) (b : RegMem) (s : State) : Behaves s .vector (exec (.vpaddq d a b) s) :=
  (opRVM_behaves : Behaves s .vector (execVpaddq d a b s))
theorem vpmullw (d : Reg) (a : Reg) (b : RegMem) (s : State) : Behaves s .vector (exec (.vpmullw d a b) s) :=
  (opRVM_behaves : Behaves s .vector (execVpmullw d a b s))
theorem vpsubusb (d : Reg) (a : Reg) (b : RegMem) (s : State) : Behaves s .vector (exec (.vpsubusb d a b) s) :=
  (opRVM_behaves : Behaves s .vector (execVpsubusb d a b s))
theorem vpsubusw (d : Reg) (a : Reg) (b : RegMem) (s : State) : Behaves s .vector (exec (.vpsubusw d a b) s) :=
  (opRVM_behaves : Behaves s .vector (execVpsubusw d a b s))
theorem vpminub (d : Reg) (a : Reg) (b : RegMem) (s : State) : Behaves s .vector (exec (.vpminub d a b) s) :=
  (opRVM_behaves : Behaves s .vector (execVpminub d a b s))
theorem vpand (d : Reg) (a : Reg) (b : RegMem) (s : State) : Behaves s .vector (exec (.vpand d a b) s) :=
  (opRVM_behaves : Behaves s .vector (execVpand d a b s))
theorem vpaddusb (d : Reg) (a : Reg) (b : RegMem) (s : State) : Behaves s .vector (exec (.vpaddusb d a b) s) :=
  (opRVM_behaves : Behaves s .vector (execVpaddusb d a b s))
theorem vpaddusw (d : Reg) (a : Reg) (b : RegMem) (s : State) : Behaves s .vector (exec (.vpaddusw d a b) s) :=
  (opRVM_behaves : Behaves s .vector (execVpaddusw d a b s))
theorem vpmaxub (d : Reg) (a : Reg) (b : RegMem) (s : State) : Behaves s .vector (exec (.vpmaxub d a b) s) :=
  (opRVM_behaves : Behaves s .vector (execVpmaxub d a b s))
theorem vpandn (d : Reg) (a : Reg) (b : RegMem) (s : State) : Behaves s .vector (exec (.vpandn d a b) s) :=
  (opRVM_behaves : Behaves s .vector (execVpandn d a b s))
theorem vpavgb (d : Reg) (a : Reg) (b : RegMem) (s : State) : Behaves s .vector (exec (.vpavgb d a b) s) :=
  (opRVM_behaves : Behaves s .vector (execVpavgb d a b s))
theorem vpsraw (d : Reg) (a : Reg) (b : RegMem) (s : State) : Behaves s .vector (exec (.vpsraw d a b) s) :=
  (opRVM_behaves : Behaves s .vector (execVpsraw d a b s))
theorem vpsrad (d : Reg) (a : Reg) (b : RegMem) (s : State) : Behaves s .vector (exec (.vpsrad d a b) s) :=
  (opRVM_behaves : Behaves s .vector (execVpsrad d a b s))
theorem vpavgw (d : Reg) (a : Reg) (b : RegMem) (s : State) : Behaves s .vector (exec (.vpavgw d a b) s) :=
  (opRVM_behaves : Behaves s .vector (execVpavgw d a b s))
theorem vpmulhuw (d : Reg) (a : Reg) (b : RegMem) (s : State) : Behaves s .vector (exec (.vpmulhuw d a b) s) :=
  (opRVM_behaves : Behaves s .vector (execVpmulhuw d a b s))
theorem vpmulhw (d : Reg) (a : Reg) (b : RegMem) (s : State) : Behaves s .vector (exec (.vpmulhw d a b) s) :=
  (opRVM_behaves : Behaves s .vector (execVpmulhw d a b s))
theorem vcvttpd2dqX (d : Reg) (b : RegMem) (s : State) : Behaves s .vector (exec (.vcvttpd2dqX d b) s) :=
  (opRMfp_behaves : Behaves s .vector (execVcvttpd2dqX d b s))
theorem vcvttpd2dqY (d : Reg) (b : RegMem) (s : State) : Behaves s .vector (exec (.vcvttpd2dqY d b) s) :=
  (opRMfp_behaves : Behaves s .vector (execVcvttpd2dqY d b s))
theorem vcvtdq2pdX (d : Reg) (b : RegMem) (s : State) : Behaves s .vector (exec (.vcvtdq2pdX d b) s) :=
  (opRMfp_behaves : Behaves s .vector (execVcvtdq2pdX d b s))
theorem vcvtdq2pdY (d : Reg) (b : RegMem) (s : State) : Behaves s .vector (exec (.vcvtdq2pdY d b) s) :=
  (opRMfp_behaves : Behaves s .vector (execVcvtdq2pdY d b s))
theorem vcvtpd2dqX (d : Reg) (b : RegMem) (s : State) : Behaves s .vector (exec (.vcvtpd2dqX d b) s) :=
  (opRMfp_behaves : Behaves s .vector (execVcvtpd2dqX d b s))
theorem vcvtpd2dqY (d : Reg) (b : RegMem) (s : State) : Behaves s .vector (exec (.vcvtpd2dqY d b) s) :=
  (opRMfp_behaves : Behaves s .vector (execVcvtpd2dqY d b s))
theorem vpsubsb (d : Reg) (a : Reg) (b : RegMem) (s : State) : Behaves s .vector (exec (.vpsubsb d a b) s) :=
  (opRVM_behaves : Behaves s .vector (execVpsubsb d a b s))
theorem vpsubsw (d : Reg) (a : Reg) (b : RegMem) (s : State) : Behaves s .vector (exec (.vpsubsw d a b) s) :=
  (opRVM_behaves : Behaves s .vector (execVpsubsw d a b s))
theorem vpminsw (d : Reg) (a : Reg) (b : RegMem) (s : State) : Behaves s .vector (exec (.vpminsw d a b) s) :=
  (opRVM_behaves : Behaves s .vector (execVpminsw d a b s))
theorem vpor (d : Reg) (a : Reg) (b : RegMem) (s : State) : Behaves s .vector (exec (.vpor d a b) s) :=
  (opRVM_behaves : Behaves s .vector (execVpor d a b s))
theorem vpaddsb (d : Reg) (a : Reg) (b : RegMem) (s : State) : Behaves s .vector (exec (.vpaddsb d a b) s) :=
  (opRVM_behaves : Behaves s .vector (execVpaddsb d a b s))
theorem vpaddsw (d : Reg) (a : Reg) (b : RegMem) (s : State) : Behaves s .vector (exec (.vpaddsw d a b) s) :=
  (opRVM_behaves : Behaves s .vector (execVpaddsw d a b s))
theorem vpmaxsw (d : Reg) (a : Reg) (b : RegMem) (s : State) : Behaves s .vector (exec (.vpmaxsw d a b) s) :=
  (opRVM_behaves : Behaves s .vector (execVpmaxsw d a b s))
theorem vpxor (d : Reg) (a : Reg) (b : RegMem) (s : State) : Behaves s .vector (exec (.vpxor d a b) s) :=
  (opRVM_behaves : Behaves s .vector (execVpxor d a b s))
theorem vlddquX (d : Reg) (b : MemOp) (s : State) : Behaves s .vector (exec (.vlddquX d b) s) :=
  (opRM_behaves : Behaves s .vector (execVlddquX d b s))
theorem vlddquY (d : Reg) (b : MemOp) (s : State) : Behaves s .vector (exec (.vlddquY d b) s) :=
  (opRM_behaves : Behaves s .vector (execVlddquY d b s))
theorem vpsllw (d : Reg) (a : Reg) (b : RegMem) (s : State) : Behaves s .vector (exec (.vpsllw d a b) s) :=
  (opRVM_behaves : Behaves s .vector (execVpsllw d a b s))
theorem vpslld (d : Reg) (a : Reg) (b : RegMem) (s : State) : Behaves s .vector (exec (.vpslld d a b) s) :=
  (opRVM_behaves : Behaves s .vector (execVpslld d a b s))
theorem vpsllq (d : Reg) (a : Reg) (b : RegMem) (s : State) : Behaves s .vector (exec (.vpsllq d a b) s) :=
  (opRVM_behaves : Behaves s .vector (execVpsllq d a b s))
theorem vpmuludq (d : Reg) (a : Reg) (b : RegMem) (s : State) : Behaves s .vector (exec (.vpmuludq d a b) s) :=
  (opRVM_behaves : Behaves s .vector (execVpmuludq d a b s))
theorem vpmaddwd (d : Reg) (a : Reg) (b : RegMem) (s : State) : Behaves s .vector (exec (.vpmaddwd d a b) s) :=
  (opRVM_behaves : Behaves s .vector (execVpmaddwd d a b s))
theorem vpsadbw (d : Reg) (a : Reg) (b : RegMem) (s : State) : Behaves s .vector (exec (.vpsadbw d a b) s) :=
  (opRVM_behaves : Behaves s .vector (execVpsadbw d a b s))
theorem vpsubb (d : Reg) (a : Reg) (b : RegMem) (s : State) : Behaves s .vector (exec (.vpsubb d a b) s) :=
  (opRVM_behaves : Behaves s .vector (execVpsubb d a b s))
theorem vpsubw (d : Reg) (a : Reg) (b : RegMem) (s : State) : Behaves s .vector (exec (.vpsubw d a b) s) :=
  (opRVM_behaves : Behaves s .vector (execVpsubw d a b s))
theorem vpsubd (d : Reg) (a : Reg) (b : RegMem) (s : State) : Behaves s .vector (exec (.vpsubd d a b) s) :=
  (opRVM_behaves : Behaves s .vector (execVpsubd d a b s))
theorem vpsubq (d : Reg) (a : Reg) (b : RegMem) (s : State) : Behaves s .vector (exec (.vpsubq d a b) s) :=
  (opRVM_behaves : Behaves s .vector (execVpsubq d a b s))
theorem vpaddb (d : Reg) (a : Reg) (b : RegMem) (s : State) : Behaves s .vector (exec (.vpaddb d a b) s) :=
  (opRVM_behaves : Behaves s .vector (execVpaddb d a b s))
theorem vpaddw (d : Reg) (a : Reg) (b : RegMem) (s : State) : Behaves s .vector (exec (.vpaddw d a b) s) :=
  (opRVM_behaves : Behaves s .vector (execVpaddw d a b s))
theorem vpaddd (d : Reg) (a : Reg) (b : RegMem) (s : State) : Behaves s .vector (exec (.vpaddd d a b) s) :=
  (opRVM_behaves : Behaves s .vector (execVpaddd d a b s))
theorem vpshufb (d : Reg) (a : Reg) (b : RegMem) (s : State) : Behaves s .vector (exec (.vpshufb d a b) s) :=
  (opRVM_behaves : Behaves s .vector (execVpshufb d a b s))
theorem vphaddw (d : Reg) (a : Reg) (b : RegMem) (s : State) : Behaves s .vector (exec (.vphaddw d a b) s) :=
  (opRVM_behaves : Behaves s .vector (execVphaddw d a b s))
theorem vphaddd (d : Reg) (a : Reg) (b : RegMem) (s : State) : Behaves s .vector (exec (.vphaddd d a b) s) :=
  (opRVM_behaves : Behaves s .vector (execVphaddd d a b s))
theorem vphaddsw (d : Reg) (a : Reg) (b : RegMem) (s : State) : Behaves s .vector (exec (.vphaddsw d a b) s) :=
  (opRVM_behaves : Behaves s .vector (execVphaddsw d a b s))
theorem vpmaddubsw (d : Reg) (a : Reg) (b : RegMem) (s : State) : Behaves s .vector (exec (.vpmaddubsw d a b) s) :=
  (opRVM_behaves : Behaves s .vector (execVpmaddubsw d a b s))
theorem vphsubw (d : Reg) (a : Reg) (b : RegMem) (s : State) : Behaves s .vector (exec (.vphsubw d a b) s) :=
  (opRVM_behaves : Behaves s .vector (execVphsubw d a b s))
theorem vphsubd (d : Reg) (a : Reg) (b : RegMem) (s : State) : Behaves s .vector (exec (.vphsubd d a b) s) :=
  (opRVM_behaves : Behaves s .vector (execVphsubd d a b s))
theorem vphsubsw (d : Reg) (a : Reg) (b : RegMem) (s : State) : Behaves s .vector (exec (.vphsubsw d a b) s) :=
  (opRVM_behaves : Behaves s .vector (execVphsubsw d a b s))
theorem vpsignb (d : Reg) (a : Reg) (b : RegMem) (s : State) : Behaves s .vector (exec (.vpsignb d a b) s) :=
  (opRVM_behaves : Behaves s .vector (execVpsignb d a b s))
theorem vpsignw (d : Reg) (a : Reg) (b : RegMem) (s : State) : Behaves s .vector (exec (.vpsignw d a b) s) :=
  (opRVM_behaves : Behaves s .vector (execVpsignw d a b s))
theorem vpsignd (d : Reg) (a : Reg) (b : RegMem) (s : State) : Behaves s .vector (exec (.vpsignd d a b) s) :=
  (opRVM_behaves : Behaves s .vector (execVpsignd d a b s))
theorem vpmulhrsw (d : Reg) (a : Reg) (b : RegMem) (s : State) : Behaves s .vector (exec (.vpmulhrsw d a b) s) :=
  (opRVM_behaves : Behaves s .vector (execVpmulhrsw d a b s))
theorem vpermilpsX (d : Reg) (a : Reg) (b : RegMem) (s : State) : Behaves s .vector (exec (.vpermilpsX d a b) s) :=
  (opRVM_behaves : Behaves s .vector (execVpermilpsX d a b s))
theorem vpermilpsY (d : Reg) (a : Reg) (b : RegMem) (s : State) : Behaves s .vector (exec (.vpermilpsY d a b) s) :=
  (opRVM_behaves : Behaves s .vector (execVpermilpsY d a b s))
theorem vpermilpdX (d : Reg) (a : Reg) (b : RegMem) (s : State) : Behaves s .vector (exec (.vpermilpdX d a b) s) :=
  (opRVM_behaves : Behaves s .vector (execVpermilpdX d a b s))
theorem vpermilpdY (d : Reg) (a : Reg) (b : RegMem) (s : State) : Behaves s .vector (exec (.vpermilpdY d a b) s) :=
  (opRVM_behaves : Behaves s .vector (execVpermilpdY d a b s))
theorem vtestpsX (a : Reg) (b : RegMem) (s : State) : Behaves s .status (exec (.vtestpsX a b) s) :=
  (opTest_behaves fun _ _ => ⟨_, _, rfl⟩ : Behaves s .status (execVtestpsX a b s))
theorem vtestpsY (a : Reg) (b : RegMem) (s : State) : Behaves s .status (exec (.vtestpsY a b) s) :=
  (opTest_behaves fun _ _ => ⟨_, _, rfl⟩ : Behaves s .status (execVtestpsY a b s))
theorem vtestpdX (a : Reg) (b : RegMem) (s : State) : Behaves s .status (exec (.vtestpdX a b) s) :=
  (opTest_behaves fun _ _ => ⟨_, _, rfl⟩ : Behaves s .status (execVtestpdX a b s))
theorem vtestpdY (a : Reg) (b : RegMem) (s : State) : Behaves s .status (exec (.vtestpdY a b) s) :=
  (opTest_behaves fun _ _ => ⟨_, _, rfl⟩ : Behaves s .status (execVtestpdY a b s))
theorem vptestX (a : Reg) (b : RegMem) (s : State) : Behaves s .status (exec (.vptestX a b) s) :=
  (opTest_behaves fun _ _ => ⟨_, _, rfl⟩ : Behaves s .status (execVptestX a b s))
theorem vptestY (a : Reg) (b : RegMem) (s : State) : Behaves s .status (exec (.vptestY a b) s) :=
  (opTest_behaves fun _ _ => ⟨_, _, rfl⟩ : Behaves s .status (execVptestY a b s))
theorem vbroadcastssX (d : Reg) (b : MemOp) (s : State) : Behaves s .vector (exec (.vbroadcastssX d b) s) :=
  (opRM_behaves : Behaves s .vector (execVbroadcastssX d b s))
theorem vbroadcastssY (d : Reg) (b : MemOp) (s : State) : Behaves s .vector (exec (.vbroadcastssY d b) s) :=
  (opRM_behaves : Behaves s .vector (execVbroadcastssY d b s))
theorem vbroadcastsd (d : Reg) (b : MemOp) (s : State) : Behaves s .vector (exec (.vbroadcastsd d b) s) :=
  (opRM_behaves : Behaves s .vector (execVbroadcastsd d b s))
theorem vbroadcastf128 (d : Reg) (b : MemOp) (s : State) : Behaves s .vector (exec (.vbroadcastf128 d b) s) :=
  (opRM_behaves : Behaves s .vector (execVbroadcastf128 d b s))
theorem vpmuldq (d : Reg) (a : Reg) (b : RegMem) (s : State) : Behaves s .vector (exec (.vpmuldq d a b) s) :=
  (opRVM_behaves : Behaves s .vector (execVpmuldq d a b s))
theorem vpcmpeqq (d : Reg) (a : Reg) (b : RegMem) (s : State) : Behaves s .vector (exec (.vpcmpeqq d a b) s) :=
  (opRVM_behaves : Behaves s .vector (execVpcmpeqq d a b s))
theorem vpackusdw (d : Reg) (a : Reg) (b : RegMem) (s : State) : Behaves s .vector (exec (.vpackusdw d a b) s) :=
  (opRVM_behaves : Behaves s .vector (execVpackusdw d a b s))
theorem vmaskmovpsXLoad (d : Reg) (a : Reg) (b : MemOp) (s : State) : Behaves s .vector (exec (.vmaskmovpsXLoad d a b) s) :=
  (opMaskedLoad_behaves : Behaves s .vector (execVmaskmovpsXLoad d a b s))
theorem vmaskmovpsYLoad (d : Reg) (a : Reg) (b : MemOp) (s : State) : Behaves s .vector (exec (.vmaskmovpsYLoad d a b) s) :=
  (opMaskedLoad_behaves : Behaves s .vector (execVmaskmovpsYLoad d a b s))
theorem vmaskmovpdXLoad (d : Reg) (a : Reg) (b : MemOp) (s : State) : Behaves s .vector (exec (.vmaskmovpdXLoad d a b) s) :=
  (opMaskedLoad_behaves : Behaves s .vector (execVmaskmovpdXLoad d a b s))
theorem vmaskmovpdYLoad (d : Reg) (a : Reg) (b : MemOp) (s : State) : Behaves s .vector (exec (.vmaskmovpdYLoad d a b) s) :=
  (opMaskedLoad_behaves : Behaves s .vector (execVmaskmovpdYLoad d a b s))
theorem vmaskmovpsXStore (d : MemOp) (a : Reg) (b : Reg) (s : State) : Behaves s .memory (exec (.vmaskmovpsXStore d a b) s) :=
  (opMaskedStore_behaves : Behaves s .memory (execVmaskmovpsXStore d a b s))
theorem vmaskmovpsYStore (d : MemOp) (a : Reg) (b : Reg) (s : State) : Behaves s .memory (exec (.vmaskmovpsYStore d a b) s) :=
  (opMaskedStore_behaves : Behaves s .memory (execVmaskmovpsYStore d a b s))
theorem vmaskmovpdXStore (d : MemOp) (a : Reg) (b : Reg) (s : State) : Behaves s .memory (exec (.vmaskmovpdXStore d a b) s) :=
  (opMaskedStore_behaves : Behaves s .memory (execVmaskmovpdXStore d a b s))
theorem vmaskmovpdYStore (d : MemOp) (a : Reg) (b : Reg) (s : State) : Behaves s .memory (exec (.vmaskmovpdYStore d a b) s) :=
  (opMaskedStore_behaves : Behaves s .memory (execVmaskmovpdYStore d a b s))
theorem vpcmpgtq (d : Reg) (a : Reg) (b : RegMem) (s : State) : Behaves s .vector (exec (.vpcmpgtq d a b) s) :=
  (opRVM_behaves : Behaves s .vector (execVpcmpgtq d a b s))
theorem vpminsb (d : Reg) (a : Reg) (b : RegMem) (s : State) : Behaves s .vector (exec (.vpminsb d a b) s) :=
  (opRVM_behaves : Behaves s .vector (execVpminsb d a b s))
theorem vpminsd (d : Reg) (a : Reg) (b : RegMem) (s : State) : Behaves s .vector (exec (.vpminsd d a b) s) :=
  (opRVM_behaves : Behaves s .vector (execVpminsd d a b s))
theorem vpminuw (d : Reg) (a : Reg) (b : RegMem) (s : State) : Behaves s .vector (exec (.vpminuw d a b) s) :=
  (opRVM_behaves : Behaves s .vector (execVpminuw d a b s))
theorem vpminud (d : Reg) (a : Reg) (b : RegMem) (s : State) : Behaves s .vector (exec (.vpminud d a b) s) :=
  (opRVM_behaves : Behaves s .vector (execVpminud d a b s))
theorem vpmaxsb (d : Reg) (a : Reg) (b : RegMem) (s : State) : Behaves s .vector (exec (.vpmaxsb d a b) s) :=
  (opRVM_behaves : Behaves s .vector (execVpmaxsb d a b s))
theorem vpmaxsd (d : Reg) (a : Reg) (b : RegMem) (s : State) : Behaves s .vector (exec (.vpmaxsd d a b) s) :=
  (opRVM_behaves : Behaves s .vector (execVpmaxsd d a b s))
theorem vpmaxuw (d : Reg) (a : Reg) (b : RegMem) (s : State) : Behaves s .vector (exec (.vpmaxuw d a b) s) :=
  (opRVM_behaves : Behaves s .vector (execVpmaxuw d a b s))
theorem vpmaxud (d : Reg) (a : Reg) (b : RegMem) (s : State) : Behaves s .vector (exec (.vpmaxud d a b) s) :=
  (opRVM_behaves : Behaves s .vector (execVpmaxud d a b s))
theorem vpmulld (d : Reg) (a : Reg) (b : RegMem) (s : State) : Behaves s .vector (exec (.vpmulld d a b) s) :=
  (opRVM_behaves : Behaves s .vector (execVpmulld d a b s))
theorem aesimc (d : Reg) (b : RegMem) (s : State) : Behaves s .vector (exec (.aesimc d b) s) :=
  (opLegacy_behaves : Behaves s .vector (execAesimc d b s))
theorem vaesimc (d : Reg) (b : RegMem) (s : State) : Behaves s .vector (exec (.vaesimc d b) s) :=
  (opRM_behaves : Behaves s .vector (execVaesimc d b s))
theorem aesenc (d : Reg) (b : RegMem) (s : State) : Behaves s .vector (exec (.aesenc d b) s) :=
  (opLegacy_behaves : Behaves s .vector (execAesenc d b s))
theorem vaesenc (d : Reg) (a : Reg) (b : RegMem) (s : State) : Behaves s .vector (exec (.vaesenc d a b) s) :=
  (opRVM_behaves : Behaves s .vector (execVaesenc d a b s))
theorem aesenclast (d : Reg) (b : RegMem) (s : State) : Behaves s .vector (exec (.aesenclast d b) s) :=
  (opLegacy_behaves : Behaves s .vector (execAesenclast d b s))
theorem vaesenclast (d : Reg) (a : Reg) (b : RegMem) (s : State) : Behaves s .vector (exec (.vaesenclast d a b) s) :=
  (opRVM_behaves : Behaves s .vector (execVaesenclast d a b s))
theorem aesdec (d : Reg) (b : RegMem) (s : State) : Behaves s .vector (exec (.aesdec d b) s) :=
  (opLegacy_behaves : Behaves s .vector (execAesdec d b s))
theorem vaesdec (d : Reg) (a : Reg) (b : RegMem) (s : State) : Behaves s .vector (exec (.vaesdec d a b) s) :=
  (opRVM_behaves : Behaves s .vector (execVaesdec d a b s))
theorem aesdeclast (d : Reg) (b : RegMem) (s : State) : Behaves s .vector (exec (.aesdeclast d b) s) :=
  (opLegacy_behaves : Behaves s .vector (execAesdeclast d b s))
theorem vaesdeclast (d : Reg) (a : Reg) (b : RegMem) (s : State) : Behaves s .vector (exec (.vaesdeclast d a b) s) :=
  (opRVM_behaves : Behaves s .vector (execVaesdeclast d a b s))
theorem vpermilpsXImm (d : Reg) (b : RegMem) (imm : BitVec 8) (s : State) : Behaves s .vector (exec (.vpermilpsXImm d b imm) s) :=
  (opRM_behaves : Behaves s .vector (execVpermilpsXImm d b imm s))
theorem vpermilpsYImm (d : Reg) (b : RegMem) (imm : BitVec 8) (s : State) : Behaves s .vector (exec (.vpermilpsYImm d b imm) s) :=
  (opRM_behaves : Behaves s .vector (execVpermilpsYImm d b imm s))
theorem vpermilpdXImm (d : Reg) (b : RegMem) (imm : BitVec 8) (s : State) : Behaves s .vector (exec (.vpermilpdXImm d b imm) s) :=
  (opRM_behaves : Behaves s .vector (execVpermilpdXImm d b imm s))
theorem vpermilpdYImm (d : Reg) (b : RegMem) (imm : BitVec 8) (s : State) : Behaves s .vector (exec (.vpermilpdYImm d b imm) s) :=
  (opRM_behaves : Behaves s .vector (execVpermilpdYImm d b imm s))
theorem vperm2f128 (d : Reg) (a : Reg) (b : RegMem) (imm : BitVec 8) (s : State) : Behaves s .vector (exec (.vperm2f128 d a b imm) s) :=
  (opRVM_behaves : Behaves s .vector (execVperm2f128 d a b imm s))
theorem vroundpsX (d : Reg) (b : RegMem) (imm : BitVec 8) (s : State) : Behaves s .vector (exec (.vroundpsX d b imm) s) :=
  (opRMfp_behaves : Behaves s .vector (execVroundpsX d b imm s))
theorem vroundpsY (d : Reg) (b : RegMem) (imm : BitVec 8) (s : State) : Behaves s .vector (exec (.vroundpsY d b imm) s) :=
  (opRMfp_behaves : Behaves s .vector (execVroundpsY d b imm s))
theorem vroundpdX (d : Reg) (b : RegMem) (imm : BitVec 8) (s : State) : Behaves s .vector (exec (.vroundpdX d b imm) s) :=
  (opRMfp_behaves : Behaves s .vector (execVroundpdX d b imm s))
theorem vroundpdY (d : Reg) (b : RegMem) (imm : BitVec 8) (s : State) : Behaves s .vector (exec (.vroundpdY d b imm) s) :=
  (opRMfp_behaves : Behaves s .vector (execVroundpdY d b imm s))
theorem vroundss (d : Reg) (a : Reg) (b : RegMem) (imm : BitVec 8) (s : State) : Behaves s .vector (exec (.vroundss d a b imm) s) :=
  (opRVMfp_behaves : Behaves s .vector (execVroundss d a b imm s))
theorem vroundsd (d : Reg) (a : Reg) (b : RegMem) (imm : BitVec 8) (s : State) : Behaves s .vector (exec (.vroundsd d a b imm) s) :=
  (opRVMfp_behaves : Behaves s .vector (execVroundsd d a b imm s))
theorem vblendpsX (d : Reg) (a : Reg) (b : RegMem) (imm : BitVec 8) (s : State) : Behaves s .vector (exec (.vblendpsX d a b imm) s) :=
  (opRVM_behaves : Behaves s .vector (execVblendpsX d a b imm s))
theorem vblendpsY (d : Reg) (a : Reg) (b : RegMem) (imm : BitVec 8) (s : State) : Behaves s .vector (exec (.vblendpsY d a b imm) s) :=
  (opRVM_behaves : Behaves s .vector (execVblendpsY d a b imm s))
theorem vblendpdX (d : Reg) (a : Reg) (b : RegMem) (imm : BitVec 8) (s : State) : Behaves s .vector (exec (.vblendpdX d a b imm) s) :=
  (opRVM_behaves : Behaves s .vector (execVblendpdX d a b imm s))
theorem vblendpdY (d : Reg) (a : Reg) (b : RegMem) (imm : BitVec 8) (s : State) : Behaves s .vector (exec (.vblendpdY d a b imm) s) :=
  (opRVM_behaves : Behaves s .vector (execVblendpdY d a b imm s))
theorem vpblendw (d : Reg) (a : Reg) (b : RegMem) (imm : BitVec 8) (s : State) : Behaves s .vector (exec (.vpblendw d a b imm) s) :=
  (opRVM_behaves : Behaves s .vector (execVpblendw d a b imm s))
theorem vpalignr (d : Reg) (a : Reg) (b : RegMem) (imm : BitVec 8) (s : State) : Behaves s .vector (exec (.vpalignr d a b imm) s) :=
  (opRVM_behaves : Behaves s .vector (execVpalignr d a b imm s))
theorem vinsertf128 (d : Reg) (a : Reg) (b : RegMem) (imm : BitVec 8) (s : State) : Behaves s .vector (exec (.vinsertf128 d a b imm) s) :=
  (opRVM_behaves : Behaves s .vector (execVinsertf128 d a b imm s))
theorem vextractf128 (d : RegMem) (a : Reg) (imm : BitVec 8) (s : State) : Behaves s .memory (exec (.vextractf128 d a imm) s) :=
  (opMR_behaves : Behaves s .memory (execVextractf128 d a imm s))
theorem vpinsrb (d : Reg) (a : Reg) (b : RegMem) (imm : BitVec 8) (s : State) : Behaves s .vector (exec (.vpinsrb d a b imm) s) :=
  (opFromGpr_behaves : Behaves s .vector (execVpinsrb d a b imm s))
theorem vinsertps (d : Reg) (a : Reg) (b : RegMem) (imm : BitVec 8) (s : State) : Behaves s .vector (exec (.vinsertps d a b imm) s) :=
  execVinsertps_behaves
theorem vpinsrd (d : Reg) (a : Reg) (b : RegMem) (imm : BitVec 8) (s : State) : Behaves s .vector (exec (.vpinsrd d a b imm) s) :=
  (opFromGpr_behaves : Behaves s .vector (execVpinsrd d a b imm s))
theorem vpinsrq (d : Reg) (a : Reg) (b : RegMem) (imm : BitVec 8) (s : State) : Behaves s .vector (exec (.vpinsrq d a b imm) s) :=
  (opFromGpr64_behaves : Behaves s .vector (execVpinsrq d a b imm s))
theorem vdppsX (d : Reg) (a : Reg) (b : RegMem) (imm : BitVec 8) (s : State) : Behaves s .vector (exec (.vdppsX d a b imm) s) :=
  (opRVMfp_behaves : Behaves s .vector (execVdppsX d a b imm s))
theorem vdppsY (d : Reg) (a : Reg) (b : RegMem) (imm : BitVec 8) (s : State) : Behaves s .vector (exec (.vdppsY d a b imm) s) :=
  (opRVMfp_behaves : Behaves s .vector (execVdppsY d a b imm s))
theorem vdppd (d : Reg) (a : Reg) (b : RegMem) (imm : BitVec 8) (s : State) : Behaves s .vector (exec (.vdppd d a b imm) s) :=
  (opRVMfp_behaves : Behaves s .vector (execVdppd d a b imm s))
theorem vmpsadbw (d : Reg) (a : Reg) (b : RegMem) (imm : BitVec 8) (s : State) : Behaves s .vector (exec (.vmpsadbw d a b imm) s) :=
  (opRVM_behaves : Behaves s .vector (execVmpsadbw d a b imm s))
theorem pclmulqdq (d : Reg) (b : RegMem) (imm : BitVec 8) (s : State) : Behaves s .vector (exec (.pclmulqdq d b imm) s) :=
  (opLegacy_behaves : Behaves s .vector (execPclmulqdq d b imm s))
theorem vpclmulqdq (d : Reg) (a : Reg) (b : RegMem) (imm : BitVec 8) (s : State) : Behaves s .vector (exec (.vpclmulqdq d a b imm) s) :=
  (opRVM_behaves : Behaves s .vector (execVpclmulqdq d a b imm s))
theorem vpermil2psX (d : Reg) (a : Reg) (b : RegMem) (c : Reg) (imm : BitVec 2) (s : State) : Behaves s .vector (exec (.vpermil2psX d a b c imm) s) :=
  (needPermil2_behaves opRVMR_behaves : Behaves s .vector (execVpermil2psX d a b c imm s))
theorem vpermil2psXW1 (d : Reg) (a : Reg) (c : Reg) (b : RegMem) (imm : BitVec 2) (s : State) : Behaves s .vector (exec (.vpermil2psXW1 d a c b imm) s) :=
  (needPermil2_behaves opRVRM_behaves : Behaves s .vector (execVpermil2psXW1 d a c b imm s))
theorem vpermil2psY (d : Reg) (a : Reg) (b : RegMem) (c : Reg) (imm : BitVec 2) (s : State) : Behaves s .vector (exec (.vpermil2psY d a b c imm) s) :=
  (needPermil2_behaves opRVMR_behaves : Behaves s .vector (execVpermil2psY d a b c imm s))
theorem vpermil2psYW1 (d : Reg) (a : Reg) (c : Reg) (b : RegMem) (imm : BitVec 2) (s : State) : Behaves s .vector (exec (.vpermil2psYW1 d a c b imm) s) :=
  (needPermil2_behaves opRVRM_behaves : Behaves s .vector (execVpermil2psYW1 d a c b imm s))
theorem vpermil2pdX (d : Reg) (a : Reg) (b : RegMem) (c : Reg) (imm : BitVec 2) (s : State) : Behaves s .vector (exec (.vpermil2pdX d a b c imm) s) :=
  (needPermil2_behaves opRVMR_behaves : Behaves s .vector (execVpermil2pdX d a b c imm s))
theorem vpermil2pdXW1 (d : Reg) (a : Reg) (c : Reg) (b : RegMem) (imm : BitVec 2) (s : State) : Behaves s .vector (exec (.vpermil2pdXW1 d a c b imm) s) :=
  (needPermil2_behaves opRVRM_behaves : Behaves s .vector (execVpermil2pdXW1 d a c b imm s))
theorem vpermil2pdY (d : Reg) (a : Reg) (b : RegMem) (c : Reg) (imm : BitVec 2) (s : State) : Behaves s .vector (exec (.vpermil2pdY d a b c imm) s) :=
  (needPermil2_behaves opRVMR_behaves : Behaves s .vector (execVpermil2pdY d a b c imm s))
theorem vpermil2pdYW1 (d : Reg) (a : Reg) (c : Reg) (b : RegMem) (imm : BitVec 2) (s : State) : Behaves s .vector (exec (.vpermil2pdYW1 d a c b imm) s) :=
  (needPermil2_behaves opRVRM_behaves : Behaves s .vector (execVpermil2pdYW1 d a c b imm s))
theorem vblendvpsX (d : Reg) (a : Reg) (b : RegMem) (c : Reg) (s : State) : Behaves s .vector (exec (.vblendvpsX d a b c) s) :=
  (opRVMR_behaves : Behaves s .vector (execVblendvpsX d a b c s))
theorem vblendvpsY (d : Reg) (a : Reg) (b : RegMem) (c : Reg) (s : State) : Behaves s .vector (exec (.vblendvpsY d a b c) s) :=
  (opRVMR_behaves : Behaves s .vector (execVblendvpsY d a b c s))
theorem vblendvpdX (d : Reg) (a : Reg) (b : RegMem) (c : Reg) (s : State) : Behaves s .vector (exec (.vblendvpdX d a b c) s) :=
  (opRVMR_behaves : Behaves s .vector (execVblendvpdX d a b c s))
theorem vblendvpdY (d : Reg) (a : Reg) (b : RegMem) (c : Reg) (s : State) : Behaves s .vector (exec (.vblendvpdY d a b c) s) :=
  (opRVMR_behaves : Behaves s .vector (execVblendvpdY d a b c s))
theorem vpblendvb (d : Reg) (a : Reg) (b : RegMem) (c : Reg) (s : State) : Behaves s .vector (exec (.vpblendvb d a b c) s) :=
  (opRVMR_behaves : Behaves s .vector (execVpblendvb d a b c s))
theorem vfmaddsubpsX (d : Reg) (a : Reg) (b : RegMem) (c : Reg) (s : State) : Behaves s .vector (exec (.vfmaddsubpsX d a b c) s) :=
  (opRVMRfp_behaves : Behaves s .vector (execVfmaddsubpsX d a b c s))
theorem vfmaddsubpsXW1 (d : Reg) (a : Reg) (c : Reg) (b : RegMem) (s : State) : Behaves s .vector (exec (.vfmaddsubpsXW1 d a c b) s) :=
  (opRVRMfp_behaves : Behaves s .vector (execVfmaddsubpsXW1 d a c b s))
theorem vfmaddsubpsY (d : Reg) (a : Reg) (b : RegMem) (c : Reg) (s : State) : Behaves s .vector (exec (.vfmaddsubpsY d a b c) s) :=
  (opRVMRfp_behaves : Behaves s .vector (execVfmaddsubpsY d a b c s))
theorem vfmaddsubpsYW1 (d : Reg) (a : Reg) (c : Reg) (b : RegMem) (s : State) : Behaves s .vector (exec (.vfmaddsubpsYW1 d a c b) s) :=
  (opRVRMfp_behaves : Behaves s .vector (execVfmaddsubpsYW1 d a c b s))
theorem vfmaddsubpdX (d : Reg) (a : Reg) (b : RegMem) (c : Reg) (s : State) : Behaves s .vector (exec (.vfmaddsubpdX d a b c) s) :=
  (opRVMRfp_behaves : Behaves s .vector (execVfmaddsubpdX d a b c s))
theorem vfmaddsubpdXW1 (d : Reg) (a : Reg) (c : Reg) (b : RegMem) (s : State) : Behaves s .vector (exec (.vfmaddsubpdXW1 d a c b) s) :=
  (opRVRMfp_behaves : Behaves s .vector (execVfmaddsubpdXW1 d a c b s))
theorem vfmaddsubpdY (d : Reg) (a : Reg) (b : RegMem) (c : Reg) (s : State) : Behaves s .vector (exec (.vfmaddsubpdY d a b c) s) :=
  (opRVMRfp_behaves : Behaves s .vector (execVfmaddsubpdY d a b c s))
theorem vfmaddsubpdYW1 (d : Reg) (a : Reg) (c : Reg) (b : RegMem) (s : State) : Behaves s .vector (exec (.vfmaddsubpdYW1 d a c b) s) :=
  (opRVRMfp_behaves : Behaves s .vector (execVfmaddsubpdYW1 d a c b s))
theorem vfmsubaddpsX (d : Reg) (a : Reg) (b : RegMem) (c : Reg) (s : State) : Behaves s .vector (exec (.vfmsubaddpsX d a b c) s) :=
  (opRVMRfp_behaves : Behaves s .vector (execVfmsubaddpsX d a b c s))
theorem vfmsubaddpsXW1 (d : Reg) (a : Reg) (c : Reg) (b : RegMem) (s : State) : Behaves s .vector (exec (.vfmsubaddpsXW1 d a c b) s) :=
  (opRVRMfp_behaves : Behaves s .vector (execVfmsubaddpsXW1 d a c b s))
theorem vfmsubaddpsY (d : Reg) (a : Reg) (b : RegMem) (c : Reg) (s : State) : Behaves s .vector (exec (.vfmsubaddpsY d a b c) s) :=
  (opRVMRfp_behaves : Behaves s .vector (execVfmsubaddpsY d a b c s))
theorem vfmsubaddpsYW1 (d : Reg) (a : Reg) (c : Reg) (b : RegMem) (s : State) : Behaves s .vector (exec (.vfmsubaddpsYW1 d a c b) s) :=
  (opRVRMfp_behaves : Behaves s .vector (execVfmsubaddpsYW1 d a c b s))
theorem vfmsubaddpdX (d : Reg) (a : Reg) (b : RegMem) (c : Reg) (s : State) : Behaves s .vector (exec (.vfmsubaddpdX d a b c) s) :=
  (opRVMRfp_behaves : Behaves s .vector (execVfmsubaddpdX d a b c s))
theorem vfmsubaddpdXW1 (d : Reg) (a : Reg) (c : Reg) (b : RegMem) (s : State) : Behaves s .vector (exec (.vfmsubaddpdXW1 d a c b) s) :=
  (opRVRMfp_behaves : Behaves s .vector (execVfmsubaddpdXW1 d a c b s))
theorem vfmsubaddpdY (d : Reg) (a : Reg) (b : RegMem) (c : Reg) (s : State) : Behaves s .vector (exec (.vfmsubaddpdY d a b c) s) :=
  (opRVMRfp_behaves : Behaves s .vector (execVfmsubaddpdY d a b c s))
theorem vfmsubaddpdYW1 (d : Reg) (a : Reg) (c : Reg) (b : RegMem) (s : State) : Behaves s .vector (exec (.vfmsubaddpdYW1 d a c b) s) :=
  (opRVRMfp_behaves : Behaves s .vector (execVfmsubaddpdYW1 d a c b s))
theorem vfmaddpsX (d : Reg) (a : Reg) (b : RegMem) (c : Reg) (s : State) : Behaves s .vector (exec (.vfmaddpsX d a b c) s) :=
  (opRVMRfp_behaves : Behaves s .vector (execVfmaddpsX d a b c s))
theorem vfmaddpsXW1 (d : Reg) (a : Reg) (c : Reg) (b : RegMem) (s : State) : Behaves s .vector (exec (.vfmaddpsXW1 d a c b) s) :=
  (opRVRMfp_behaves : Behaves s .vector (execVfmaddpsXW1 d a c b s))
theorem vfmaddpsY (d : Reg) (a : Reg) (b : RegMem) (c : Reg) (s : State) : Behaves s .vector (exec (.vfmaddpsY d a b c) s) :=
  (opRVMRfp_behaves : Behaves s .vector (execVfmaddpsY d a b c s))
theorem vfmaddpsYW1 (d : Reg) (a : Reg) (c : Reg) (b : RegMem) (s : State) : Behaves s .vector (exec (.vfmaddpsYW1 d a c b) s) :=
  (opRVRMfp_behaves : Behaves s .vector (execVfmaddpsYW1 d a c b s))
theorem vfmaddpdX (d : Reg) (a : Reg) (b : RegMem) (c : Reg) (s : State) : Behaves s .vector (exec (.vfmaddpdX d a b c) s) :=
  (opRVMRfp_behaves : Behaves s .vector (execVfmaddpdX d a b c s))
theorem vfmaddpdXW1 (d : Reg) (a : Reg) (c : Reg) (b : RegMem) (s : State) : Behaves s .vector (exec (.vfmaddpdXW1 d a c b) s) :=
  (opRVRMfp_behaves : Behaves s .vector (execVfmaddpdXW1 d a c b s))
theorem vfmaddpdY (d : Reg) (a : Reg) (b : RegMem) (c : Reg) (s : State) : Behaves s .vector (exec (.vfmaddpdY d a b c) s) :=
  (opRVMRfp_behaves : Behaves s .vector (execVfmaddpdY d a b c s))
theorem vfmaddpdYW1 (d : Reg) (a : Reg) (c : Reg) (b : RegMem) (s : State) : Behaves s .vector (exec (.vfmaddpdYW1 d a c b) s) :=
  (opRVRMfp_behaves : Behaves s .vector (execVfmaddpdYW1 d a c b s))
theorem vfmaddss (d : Reg) (a : Reg) (b : RegMem) (c : Reg) (s : State) : Behaves s .vector (exec (.vfmaddss d a b c) s) :=
  (opRVMRfp_behaves : Behaves s .vector (execVfmaddss d a b c s))
theorem vfmaddssW1 (d : Reg) (a : Reg) (c : Reg) (b : RegMem) (s : State) : Behaves s .vector (exec (.vfmaddssW1 d a c b) s) :=
  (opRVRMfp_behaves : Behaves s .vector (execVfmaddssW1 d a c b s))
theorem vfmaddsd (d : Reg) (a : Reg) (b : RegMem) (c : Reg) (s : State) : Behaves s .vector (exec (.vfmaddsd d a b c) s) :=
  (opRVMRfp_behaves : Behaves s .vector (execVfmaddsd d a b c s))
theorem vfmaddsdW1 (d : Reg) (a : Reg) (c : Reg) (b : RegMem) (s : State) : Behaves s .vector (exec (.vfmaddsdW1 d a c b) s) :=
  (opRVRMfp_behaves : Behaves s .vector (execVfmaddsdW1 d a c b s))
theorem vfmsubpsX (d : Reg) (a : Reg) (b : RegMem) (c : Reg) (s : State) : Behaves s .vector (exec (.vfmsubpsX d a b c) s) :=
  (opRVMRfp_behaves : Behaves s .vector (execVfmsubpsX d a b c s))
theorem vfmsubpsXW1 (d : Reg) (a : Reg) (c : Reg) (b : RegMem) (s : State) : Behaves s .vector (exec (.vfmsubpsXW1 d a c b) s) :=
  (opRVRMfp_behaves : Behaves s .vector (execVfmsubpsXW1 d a c b s))
theorem vfmsubpsY (d : Reg) (a : Reg) (b : RegMem) (c : Reg) (s : State) : Behaves s .vector (exec (.vfmsubpsY d a b c) s) :=
  (opRVMRfp_behaves : Behaves s .vector (execVfmsubpsY d a b c s))
theorem vfmsubpsYW1 (d : Reg) (a : Reg) (c : Reg) (b : RegMem) (s : State) : Behaves s .vector (exec (.vfmsubpsYW1 d a c b) s) :=
  (opRVRMfp_behaves : Behaves s .vector (execVfmsubpsYW1 d a c b s))
theorem vfmsubpdX (d : Reg) (a : Reg) (b : RegMem) (c : Reg) (s : State) : Behaves s .vector (exec (.vfmsubpdX d a b c) s) :=
  (opRVMRfp_behaves : Behaves s .vector (execVfmsubpdX d a b c s))
theorem vfmsubpdXW1 (d : Reg) (a : Reg) (c : Reg) (b : RegMem) (s : State) : Behaves s .vector (exec (.vfmsubpdXW1 d a c b) s) :=
  (opRVRMfp_behaves : Behaves s .vector (execVfmsubpdXW1 d a c b s))
theorem vfmsubpdY (d : Reg) (a : Reg) (b : RegMem) (c : Reg) (s : State) : Behaves s .vector (exec (.vfmsubpdY d a b c) s) :=
  (opRVMRfp_behaves : Behaves s .vector (execVfmsubpdY d a b c s))
theorem vfmsubpdYW1 (d : Reg) (a : Reg) (c : Reg) (b : RegMem) (s : State) : Behaves s .vector (exec (.vfmsubpdYW1 d a c b) s) :=
  (opRVRMfp_behaves : Behaves s .vector (execVfmsubpdYW1 d a c b s))
theorem vfmsubss (d : Reg) (a : Reg) (b : RegMem) (c : Reg) (s : State) : Behaves s .vector (exec (.vfmsubss d a b c) s) :=
  (opRVMRfp_behaves : Behaves s .vector (execVfmsubss d a b c s))
theorem vfmsubssW1 (d : Reg) (a : Reg) (c : Reg) (b : RegMem) (s : State) : Behaves s .vector (exec (.vfmsubssW1 d a c b) s) :=
  (opRVRMfp_behaves : Behaves s .vector (execVfmsubssW1 d a c b s))
theorem vfmsubsd (d : Reg) (a : Reg) (b : RegMem) (c : Reg) (s : State) : Behaves s .vector (exec (.vfmsubsd d a b c) s) :=
  (opRVMRfp_behaves : Behaves s .vector (execVfmsubsd d a b c s))
theorem vfmsubsdW1 (d : Reg) (a : Reg) (c : Reg) (b : RegMem) (s : State) : Behaves s .vector (exec (.vfmsubsdW1 d a c b) s) :=
  (opRVRMfp_behaves : Behaves s .vector (execVfmsubsdW1 d a c b s))
theorem vfnmaddpsX (d : Reg) (a : Reg) (b : RegMem) (c : Reg) (s : State) : Behaves s .vector (exec (.vfnmaddpsX d a b c) s) :=
  (opRVMRfp_behaves : Behaves s .vector (execVfnmaddpsX d a b c s))
theorem vfnmaddpsXW1 (d : Reg) (a : Reg) (c : Reg) (b : RegMem) (s : State) : Behaves s .vector (exec (.vfnmaddpsXW1 d a c b) s) :=
  (opRVRMfp_behaves : Behaves s .vector (execVfnmaddpsXW1 d a c b s))
theorem vfnmaddpsY (d : Reg) (a : Reg) (b : RegMem) (c : Reg) (s : State) : Behaves s .vector (exec (.vfnmaddpsY d a b c) s) :=
  (opRVMRfp_behaves : Behaves s .vector (execVfnmaddpsY d a b c s))
theorem vfnmaddpsYW1 (d : Reg) (a : Reg) (c : Reg) (b : RegMem) (s : State) : Behaves s .vector (exec (.vfnmaddpsYW1 d a c b) s) :=
  (opRVRMfp_behaves : Behaves s .vector (execVfnmaddpsYW1 d a c b s))
theorem vfnmaddpdX (d : Reg) (a : Reg) (b : RegMem) (c : Reg) (s : State) : Behaves s .vector (exec (.vfnmaddpdX d a b c) s) :=
  (opRVMRfp_behaves : Behaves s .vector (execVfnmaddpdX d a b c s))
theorem vfnmaddpdXW1 (d : Reg) (a : Reg) (c : Reg) (b : RegMem) (s : State) : Behaves s .vector (exec (.vfnmaddpdXW1 d a c b) s) :=
  (opRVRMfp_behaves : Behaves s .vector (execVfnmaddpdXW1 d a c b s))
theorem vfnmaddpdY (d : Reg) (a : Reg) (b : RegMem) (c : Reg) (s : State) : Behaves s .vector (exec (.vfnmaddpdY d a b c) s) :=
  (opRVMRfp_behaves : Behaves s .vector (execVfnmaddpdY d a b c s))
theorem vfnmaddpdYW1 (d : Reg) (a : Reg) (c : Reg) (b : RegMem) (s : State) : Behaves s .vector (exec (.vfnmaddpdYW1 d a c b) s) :=
  (opRVRMfp_behaves : Behaves s .vector (execVfnmaddpdYW1 d a c b s))
theorem vfnmaddss (d : Reg) (a : Reg) (b : RegMem) (c : Reg) (s : State) : Behaves s .vector (exec (.vfnmaddss d a b c) s) :=
  (opRVMRfp_behaves : Behaves s .vector (execVfnmaddss d a b c s))
theorem vfnmaddssW1 (d : Reg) (a : Reg) (c : Reg) (b : RegMem) (s : State) : Behaves s .vector (exec (.vfnmaddssW1 d a c b) s) :=
  (opRVRMfp_behaves : Behaves s .vector (execVfnmaddssW1 d a c b s))
theorem vfnmaddsd (d : Reg) (a : Reg) (b : RegMem) (c : Reg) (s : State) : Behaves s .vector (exec (.vfnmaddsd d a b c) s) :=
  (opRVMRfp_behaves : Behaves s .vector (execVfnmaddsd d a b c s))
theorem vfnmaddsdW1 (d : Reg) (a : Reg) (c : Reg) (b : RegMem) (s : State) : Behaves s .vector (exec (.vfnmaddsdW1 d a c b) s) :=
  (opRVRMfp_behaves : Behaves s .vector (execVfnmaddsdW1 d a c b s))
theorem vfnmsubpsX (d : Reg) (a : Reg) (b : RegMem) (c : Reg) (s : State) : Behaves s .vector (exec (.vfnmsubpsX d a b c) s) :=
  (opRVMRfp_behaves : Behaves s .vector (execVfnmsubpsX d a b c s))
theorem vfnmsubpsXW1 (d : Reg) (a : Reg) (c : Reg) (b : RegMem) (s : State) : Behaves s .vector (exec (.vfnmsubpsXW1 d a c b) s) :=
  (opRVRMfp_behaves : Behaves s .vector (execVfnmsubpsXW1 d a c b s))
theorem vfnmsubpsY (d : Reg) (a : Reg) (b : RegMem) (c : Reg) (s : State) : Behaves s .vector (exec (.vfnmsubpsY d a b c) s) :=
  (opRVMRfp_behaves : Behaves s .vector (execVfnmsubpsY d a b c s))
theorem vfnmsubpsYW1 (d : Reg) (a : Reg) (c : Reg) (b : RegMem) (s : State) : Behaves s .vector (exec (.vfnmsubpsYW1 d a c b) s) :=
  (opRVRMfp_behaves : Behaves s .vector (execVfnmsubpsYW1 d a c b s))
theorem vfnmsubpdX (d : Reg) (a : Reg) (b : RegMem) (c : Reg) (s : State) : Behaves s .vector (exec (.vfnmsubpdX d a b c) s) :=
  (opRVMRfp_behaves : Behaves s .vector (execVfnmsubpdX d a b c s))
theorem vfnmsubpdXW1 (d : Reg) (a : Reg) (c : Reg) (b : RegMem) (s : State) : Behaves s .vector (exec (.vfnmsubpdXW1 d a c b) s) :=
  (opRVRMfp_behaves : Behaves s .vector (execVfnmsubpdXW1 d a c b s))
theorem vfnmsubpdY (d : Reg) (a : Reg) (b : RegMem) (c : Reg) (s : State) : Behaves s .vector (exec (.vfnmsubpdY d a b c) s) :=
  (opRVMRfp_behaves : Behaves s .vector (execVfnmsubpdY d a b c s))
theorem vfnmsubpdYW1 (d : Reg) (a : Reg) (c : Reg) (b : RegMem) (s : State) : Behaves s .vector (exec (.vfnmsubpdYW1 d a c b) s) :=
  (opRVRMfp_behaves : Behaves s .vector (execVfnmsubpdYW1 d a c b s))
theorem vfnmsubss (d : Reg) (a : Reg) (b : RegMem) (c : Reg) (s : State) : Behaves s .vector (exec (.vfnmsubss d a b c) s) :=
  (opRVMRfp_behaves : Behaves s .vector (execVfnmsubss d a b c s))
theorem vfnmsubssW1 (d : Reg) (a : Reg) (c : Reg) (b : RegMem) (s : State) : Behaves s .vector (exec (.vfnmsubssW1 d a c b) s) :=
  (opRVRMfp_behaves : Behaves s .vector (execVfnmsubssW1 d a c b s))
theorem vfnmsubsd (d : Reg) (a : Reg) (b : RegMem) (c : Reg) (s : State) : Behaves s .vector (exec (.vfnmsubsd d a b c) s) :=
  (opRVMRfp_behaves : Behaves s .vector (execVfnmsubsd d a b c s))
theorem vfnmsubsdW1 (d : Reg) (a : Reg) (c : Reg) (b : RegMem) (s : State) : Behaves s .vector (exec (.vfnmsubsdW1 d a c b) s) :=
  (opRVRMfp_behaves : Behaves s .vector (execVfnmsubsdW1 d a c b s))
theorem aeskeygenassist (d : Reg) (b : RegMem) (imm : BitVec 8) (s : State) : Behaves s .vector (exec (.aeskeygenassist d b imm) s) :=
  (opLegacy_behaves : Behaves s .vector (execAeskeygenassist d b imm s))
theorem vaeskeygenassist (d : Reg) (b : RegMem) (imm : BitVec 8) (s : State) : Behaves s .vector (exec (.vaeskeygenassist d b imm) s) :=
  (opRM_behaves : Behaves s .vector (execVaeskeygenassist d b imm s))

end Effects

/-- What any instruction can do. -/
theorem exec_behaves (i : Instr) (s : State) : Behaves s (formWrites i.form) (exec i s) :=
  @Instr.casesOn (fun i => Behaves s (formWrites i.form) (exec i s)) i
    (fun d b => Effects.vmovupsX d b s)
    (fun d b => Effects.vmovupsY d b s)
    (fun d b => Effects.vmovupdX d b s)
    (fun d b => Effects.vmovupdY d b s)
    (fun d a b => Effects.vmovssReg d a b s)
    (fun d b => Effects.vmovssLoad d b s)
    (fun d a b => Effects.vmovsdReg d a b s)
    (fun d b => Effects.vmovsdLoad d b s)
    (fun d a => Effects.vmovupsXStore d a s)
    (fun d a => Effects.vmovupsYStore d a s)
    (fun d a => Effects.vmovupdXStore d a s)
    (fun d a => Effects.vmovupdYStore d a s)
    (fun d a => Effects.vmovssStore d a s)
    (fun d a b => Effects.vmovssReg2 d a b s)
    (fun d a => Effects.vmovsdStore d a s)
    (fun d a b => Effects.vmovsdReg2 d a b s)
    (fun d a b => Effects.vmovhlps d a b s)
    (fun d a b => Effects.vmovlpsLoad d a b s)
    (fun d a b => Effects.vmovlpdLoad d a b s)
    (fun d b => Effects.vmovsldupX d b s)
    (fun d b => Effects.vmovsldupY d b s)
    (fun d b => Effects.vmovddupX d b s)
    (fun d b => Effects.vmovddupY d b s)
    (fun d a => Effects.vmovlpsStore d a s)
    (fun d a => Effects.vmovlpdStore d a s)
    (fun d a b => Effects.vunpcklpsX d a b s)
    (fun d a b => Effects.vunpcklpsY d a b s)
    (fun d a b => Effects.vunpcklpdX d a b s)
    (fun d a b => Effects.vunpcklpdY d a b s)
    (fun d a b => Effects.vunpckhpsX d a b s)
    (fun d a b => Effects.vunpckhpsY d a b s)
    (fun d a b => Effects.vunpckhpdX d a b s)
    (fun d a b => Effects.vunpckhpdY d a b s)
    (fun d a b => Effects.vmovlhps d a b s)
    (fun d a b => Effects.vmovhpsLoad d a b s)
    (fun d a b => Effects.vmovhpdLoad d a b s)
    (fun d b => Effects.vmovshdupX d b s)
    (fun d b => Effects.vmovshdupY d b s)
    (fun d a => Effects.vmovhpsStore d a s)
    (fun d a => Effects.vmovhpdStore d a s)
    (fun d b => Effects.vmovapsX d b s)
    (fun d b => Effects.vmovapsY d b s)
    (fun d b => Effects.vmovapdX d b s)
    (fun d b => Effects.vmovapdY d b s)
    (fun d a => Effects.vmovapsXStore d a s)
    (fun d a => Effects.vmovapsYStore d a s)
    (fun d a => Effects.vmovapdXStore d a s)
    (fun d a => Effects.vmovapdYStore d a s)
    (fun d a b => Effects.vcvtsi2ssR32 d a b s)
    (fun d a b => Effects.vcvtsi2ssR64 d a b s)
    (fun d a b => Effects.vcvtsi2sdR32 d a b s)
    (fun d a b => Effects.vcvtsi2sdR64 d a b s)
    (fun d b => Effects.vcvttss2siR32 d b s)
    (fun d b => Effects.vcvttss2siR64 d b s)
    (fun d b => Effects.vcvttsd2siR32 d b s)
    (fun d b => Effects.vcvttsd2siR64 d b s)
    (fun d b => Effects.vcvtss2siR32 d b s)
    (fun d b => Effects.vcvtss2siR64 d b s)
    (fun d b => Effects.vcvtsd2siR32 d b s)
    (fun d b => Effects.vcvtsd2siR64 d b s)
    (fun d b => Effects.vmovmskpsX d b s)
    (fun d b => Effects.vmovmskpsY d b s)
    (fun d b => Effects.vmovmskpdX d b s)
    (fun d b => Effects.vmovmskpdY d b s)
    (fun d b => Effects.vsqrtpsX d b s)
    (fun d b => Effects.vsqrtpsY d b s)
    (fun d b => Effects.vsqrtpdX d b s)
    (fun d b => Effects.vsqrtpdY d b s)
    (fun d a b => Effects.vsqrtss d a b s)
    (fun d a b => Effects.vsqrtsd d a b s)
    (fun d b => Effects.vrsqrtpsX d b s)
    (fun d b => Effects.vrsqrtpsY d b s)
    (fun d a b => Effects.vrsqrtss d a b s)
    (fun d b => Effects.vrcppsX d b s)
    (fun d b => Effects.vrcppsY d b s)
    (fun d a b => Effects.vrcpss d a b s)
    (fun d a b => Effects.vandpsX d a b s)
    (fun d a b => Effects.vandpsY d a b s)
    (fun d a b => Effects.vandpdX d a b s)
    (fun d a b => Effects.vandpdY d a b s)
    (fun d a b => Effects.vandnpsX d a b s)
    (fun d a b => Effects.vandnpsY d a b s)
    (fun d a b => Effects.vandnpdX d a b s)
    (fun d a b => Effects.vandnpdY d a b s)
    (fun d a b => Effects.vorpsX d a b s)
    (fun d a b => Effects.vorpsY d a b s)
    (fun d a b => Effects.vorpdX d a b s)
    (fun d a b => Effects.vorpdY d a b s)
    (fun d a b => Effects.vxorpsX d a b s)
    (fun d a b => Effects.vxorpsY d a b s)
    (fun d a b => Effects.vxorpdX d a b s)
    (fun d a b => Effects.vxorpdY d a b s)
    (fun d a b => Effects.vaddpsX d a b s)
    (fun d a b => Effects.vaddpsY d a b s)
    (fun d a b => Effects.vaddpdX d a b s)
    (fun d a b => Effects.vaddpdY d a b s)
    (fun d a b => Effects.vaddss d a b s)
    (fun d a b => Effects.vaddsd d a b s)
    (fun d a b => Effects.vmulpsX d a b s)
    (fun d a b => Effects.vmulpsY d a b s)
    (fun d a b => Effects.vmulpdX d a b s)
    (fun d a b => Effects.vmulpdY d a b s)
    (fun d a b => Effects.vmulss d a b s)
    (fun d a b => Effects.vmulsd d a b s)
    (fun d b => Effects.vcvtps2pdX d b s)
    (fun d b => Effects.vcvtps2pdY d b s)
    (fun d b => Effects.vcvtpd2psX d b s)
    (fun d b => Effects.vcvtpd2psY d b s)
    (fun d a b => Effects.vcvtss2sd d a b s)
    (fun d a b => Effects.vcvtsd2ss d a b s)
    (fun d b => Effects.vcvtdq2psX d b s)
    (fun d b => Effects.vcvtdq2psY d b s)
    (fun d b => Effects.vcvtps2dqX d b s)
    (fun d b => Effects.vcvtps2dqY d b s)
    (fun d b => Effects.vcvttps2dqX d b s)
    (fun d b => Effects.vcvttps2dqY d b s)
    (fun d a b => Effects.vsubpsX d a b s)
    (fun d a b => Effects.vsubpsY d a b s)
    (fun d a b => Effects.vsubpdX d a b s)
    (fun d a b => Effects.vsubpdY d a b s)
    (fun d a b => Effects.vsubss d a b s)
    (fun d a b => Effects.vsubsd d a b s)
    (fun d a b => Effects.vminpsX d a b s)
    (fun d a b => Effects.vminpsY d a b s)
    (fun d a b => Effects.vminpdX d a b s)
    (fun d a b => Effects.vminpdY d a b s)
    (fun d a b => Effects.vminss d a b s)
    (fun d a b => Effects.vminsd d a b s)
    (fun d a b => Effects.vdivpsX d a b s)
    (fun d a b => Effects.vdivpsY d a b s)
    (fun d a b => Effects.vdivpdX d a b s)
    (fun d a b => Effects.vdivpdY d a b s)
    (fun d a b => Effects.vdivss d a b s)
    (fun d a b => Effects.vdivsd d a b s)
    (fun d a b => Effects.vmaxpsX d a b s)
    (fun d a b => Effects.vmaxpsY d a b s)
    (fun d a b => Effects.vmaxpdX d a b s)
    (fun d a b => Effects.vmaxpdY d a b s)
    (fun d a b => Effects.vmaxss d a b s)
    (fun d a b => Effects.vmaxsd d a b s)
    (fun d a b => Effects.vpunpcklbw d a b s)
    (fun d a b => Effects.vpunpcklwd d a b s)
    (fun d a b => Effects.vpunpckldq d a b s)
    (fun d a b => Effects.vpacksswb d a b s)
    (fun d a b => Effects.vpcmpgtb d a b s)
    (fun d a b => Effects.vpcmpgtw d a b s)
    (fun d a b => Effects.vpcmpgtd d a b s)
    (fun d a b => Effects.vpackuswb d a b s)
    (fun d a b => Effects.vpunpckhbw d a b s)
    (fun d a b => Effects.vpunpckhwd d a b s)
    (fun d a b => Effects.vpunpckhdq d a b s)
    (fun d a b => Effects.vpackssdw d a b s)
    (fun d a b => Effects.vpunpcklqdq d a b s)
    (fun d a b => Effects.vpunpckhqdq d a b s)
    (fun d b => Effects.vmovdqaX d b s)
    (fun d b => Effects.vmovdqaY d b s)
    (fun d b => Effects.vmovdquX d b s)
    (fun d b => Effects.vmovdquY d b s)
    (fun d b imm => Effects.vpshufd d b imm s)
    (fun d b imm => Effects.vpshufhw d b imm s)
    (fun d b imm => Effects.vpshuflw d b imm s)
    (fun d a imm => Effects.vpsrlwImm d a imm s)
    (fun d a imm => Effects.vpsrawImm d a imm s)
    (fun d a imm => Effects.vpsllwImm d a imm s)
    (fun d a imm => Effects.vpsrldImm d a imm s)
    (fun d a imm => Effects.vpsradImm d a imm s)
    (fun d a imm => Effects.vpslldImm d a imm s)
    (fun d a imm => Effects.vpsrlqImm d a imm s)
    (fun d a imm => Effects.vpsrldq d a imm s)
    (fun d a imm => Effects.vpsllqImm d a imm s)
    (fun d a imm => Effects.vpslldq d a imm s)
    (fun d a b => Effects.vpcmpeqb d a b s)
    (fun d a b => Effects.vpcmpeqw d a b s)
    (fun d a b => Effects.vpcmpeqd d a b s)
    (Effects.vzeroupper s)
    (Effects.vzeroall s)
    (fun d a b => Effects.vhaddpdX d a b s)
    (fun d a b => Effects.vhaddpdY d a b s)
    (fun d a b => Effects.vhaddpsX d a b s)
    (fun d a b => Effects.vhaddpsY d a b s)
    (fun d a b => Effects.vhsubpdX d a b s)
    (fun d a b => Effects.vhsubpdY d a b s)
    (fun d a b => Effects.vhsubpsX d a b s)
    (fun d a b => Effects.vhsubpsY d a b s)
    (fun d a => Effects.vmovdqaXStore d a s)
    (fun d a => Effects.vmovdqaYStore d a s)
    (fun d a => Effects.vmovdquXStore d a s)
    (fun d a => Effects.vmovdquYStore d a s)
    (fun m => Effects.vldmxcsr m s)
    (fun m => Effects.vstmxcsr m s)
    (fun d a b imm => Effects.vcmppsX d a b imm s)
    (fun d a b imm => Effects.vcmppsY d a b imm s)
    (fun d a b imm => Effects.vcmppdX d a b imm s)
    (fun d a b imm => Effects.vcmppdY d a b imm s)
    (fun d a b imm => Effects.vcmpss d a b imm s)
    (fun d a b imm => Effects.vcmpsd d a b imm s)
    (fun d a b imm => Effects.vpinsrw d a b imm s)
    (fun d a b imm => Effects.vshufpsX d a b imm s)
    (fun d a b imm => Effects.vshufpsY d a b imm s)
    (fun d a b imm => Effects.vshufpdX d a b imm s)
    (fun d a b imm => Effects.vshufpdY d a b imm s)
    (fun d a b => Effects.vaddsubpdX d a b s)
    (fun d a b => Effects.vaddsubpdY d a b s)
    (fun d a b => Effects.vaddsubpsX d a b s)
    (fun d a b => Effects.vaddsubpsY d a b s)
    (fun d a b => Effects.vpsrlw d a b s)
    (fun d a b => Effects.vpsrld d a b s)
    (fun d a b => Effects.vpsrlq d a b s)
    (fun d a b => Effects.vpaddq d a b s)
    (fun d a b => Effects.vpmullw d a b s)
    (fun d a b => Effects.vpsubusb d a b s)
    (fun d a b => Effects.vpsubusw d a b s)
    (fun d a b => Effects.vpminub d a b s)
    (fun d a b => Effects.vpand d a b s)
    (fun d a b => Effects.vpaddusb d a b s)
    (fun d a b => Effects.vpaddusw d a b s)
    (fun d a b => Effects.vpmaxub d a b s)
    (fun d a b => Effects.vpandn d a b s)
    (fun d a b => Effects.vpavgb d a b s)
    (fun d a b => Effects.vpsraw d a b s)
    (fun d a b => Effects.vpsrad d a b s)
    (fun d a b => Effects.vpavgw d a b s)
    (fun d a b => Effects.vpmulhuw d a b s)
    (fun d a b => Effects.vpmulhw d a b s)
    (fun d b => Effects.vcvttpd2dqX d b s)
    (fun d b => Effects.vcvttpd2dqY d b s)
    (fun d b => Effects.vcvtdq2pdX d b s)
    (fun d b => Effects.vcvtdq2pdY d b s)
    (fun d b => Effects.vcvtpd2dqX d b s)
    (fun d b => Effects.vcvtpd2dqY d b s)
    (fun d a b => Effects.vpsubsb d a b s)
    (fun d a b => Effects.vpsubsw d a b s)
    (fun d a b => Effects.vpminsw d a b s)
    (fun d a b => Effects.vpor d a b s)
    (fun d a b => Effects.vpaddsb d a b s)
    (fun d a b => Effects.vpaddsw d a b s)
    (fun d a b => Effects.vpmaxsw d a b s)
    (fun d a b => Effects.vpxor d a b s)
    (fun d b => Effects.vlddquX d b s)
    (fun d b => Effects.vlddquY d b s)
    (fun d a b => Effects.vpsllw d a b s)
    (fun d a b => Effects.vpslld d a b s)
    (fun d a b => Effects.vpsllq d a b s)
    (fun d a b => Effects.vpmuludq d a b s)
    (fun d a b => Effects.vpmaddwd d a b s)
    (fun d a b => Effects.vpsadbw d a b s)
    (fun d a b => Effects.vpsubb d a b s)
    (fun d a b => Effects.vpsubw d a b s)
    (fun d a b => Effects.vpsubd d a b s)
    (fun d a b => Effects.vpsubq d a b s)
    (fun d a b => Effects.vpaddb d a b s)
    (fun d a b => Effects.vpaddw d a b s)
    (fun d a b => Effects.vpaddd d a b s)
    (fun d a b => Effects.vpshufb d a b s)
    (fun d a b => Effects.vphaddw d a b s)
    (fun d a b => Effects.vphaddd d a b s)
    (fun d a b => Effects.vphaddsw d a b s)
    (fun d a b => Effects.vpmaddubsw d a b s)
    (fun d a b => Effects.vphsubw d a b s)
    (fun d a b => Effects.vphsubd d a b s)
    (fun d a b => Effects.vphsubsw d a b s)
    (fun d a b => Effects.vpsignb d a b s)
    (fun d a b => Effects.vpsignw d a b s)
    (fun d a b => Effects.vpsignd d a b s)
    (fun d a b => Effects.vpmulhrsw d a b s)
    (fun d a b => Effects.vpermilpsX d a b s)
    (fun d a b => Effects.vpermilpsY d a b s)
    (fun d a b => Effects.vpermilpdX d a b s)
    (fun d a b => Effects.vpermilpdY d a b s)
    (fun a b => Effects.vtestpsX a b s)
    (fun a b => Effects.vtestpsY a b s)
    (fun a b => Effects.vtestpdX a b s)
    (fun a b => Effects.vtestpdY a b s)
    (fun a b => Effects.vptestX a b s)
    (fun a b => Effects.vptestY a b s)
    (fun d b => Effects.vbroadcastssX d b s)
    (fun d b => Effects.vbroadcastssY d b s)
    (fun d b => Effects.vbroadcastsd d b s)
    (fun d b => Effects.vbroadcastf128 d b s)
    (fun d a b => Effects.vpmuldq d a b s)
    (fun d a b => Effects.vpcmpeqq d a b s)
    (fun d a b => Effects.vpackusdw d a b s)
    (fun d a b => Effects.vmaskmovpsXLoad d a b s)
    (fun d a b => Effects.vmaskmovpsYLoad d a b s)
    (fun d a b => Effects.vmaskmovpdXLoad d a b s)
    (fun d a b => Effects.vmaskmovpdYLoad d a b s)
    (fun d a b => Effects.vmaskmovpsXStore d a b s)
    (fun d a b => Effects.vmaskmovpsYStore d a b s)
    (fun d a b => Effects.vmaskmovpdXStore d a b s)
    (fun d a b => Effects.vmaskmovpdYStore d a b s)
    (fun d a b => Effects.vpcmpgtq d a b s)
    (fun d a b => Effects.vpminsb d a b s)
    (fun d a b => Effects.vpminsd d a b s)
    (fun d a b => Effects.vpminuw d a b s)
    (fun d a b => Effects.vpminud d a b s)
    (fun d a b => Effects.vpmaxsb d a b s)
    (fun d a b => Effects.vpmaxsd d a b s)
    (fun d a b => Effects.vpmaxuw d a b s)
    (fun d a b => Effects.vpmaxud d a b s)
    (fun d a b => Effects.vpmulld d a b s)
    (fun d b => Effects.aesimc d b s)
    (fun d b => Effects.vaesimc d b s)
    (fun d b => Effects.aesenc d b s)
    (fun d a b => Effects.vaesenc d a b s)
    (fun d b => Effects.aesenclast d b s)
    (fun d a b => Effects.vaesenclast d a b s)
    (fun d b => Effects.aesdec d b s)
    (fun d a b => Effects.vaesdec d a b s)
    (fun d b => Effects.aesdeclast d b s)
    (fun d a b => Effects.vaesdeclast d a b s)
    (fun d b imm => Effects.vpermilpsXImm d b imm s)
    (fun d b imm => Effects.vpermilpsYImm d b imm s)
    (fun d b imm => Effects.vpermilpdXImm d b imm s)
    (fun d b imm => Effects.vpermilpdYImm d b imm s)
    (fun d a b imm => Effects.vperm2f128 d a b imm s)
    (fun d b imm => Effects.vroundpsX d b imm s)
    (fun d b imm => Effects.vroundpsY d b imm s)
    (fun d b imm => Effects.vroundpdX d b imm s)
    (fun d b imm => Effects.vroundpdY d b imm s)
    (fun d a b imm => Effects.vroundss d a b imm s)
    (fun d a b imm => Effects.vroundsd d a b imm s)
    (fun d a b imm => Effects.vblendpsX d a b imm s)
    (fun d a b imm => Effects.vblendpsY d a b imm s)
    (fun d a b imm => Effects.vblendpdX d a b imm s)
    (fun d a b imm => Effects.vblendpdY d a b imm s)
    (fun d a b imm => Effects.vpblendw d a b imm s)
    (fun d a b imm => Effects.vpalignr d a b imm s)
    (fun d a b imm => Effects.vinsertf128 d a b imm s)
    (fun d a imm => Effects.vextractf128 d a imm s)
    (fun d a b imm => Effects.vpinsrb d a b imm s)
    (fun d a b imm => Effects.vinsertps d a b imm s)
    (fun d a b imm => Effects.vpinsrd d a b imm s)
    (fun d a b imm => Effects.vpinsrq d a b imm s)
    (fun d a b imm => Effects.vdppsX d a b imm s)
    (fun d a b imm => Effects.vdppsY d a b imm s)
    (fun d a b imm => Effects.vdppd d a b imm s)
    (fun d a b imm => Effects.vmpsadbw d a b imm s)
    (fun d b imm => Effects.pclmulqdq d b imm s)
    (fun d a b imm => Effects.vpclmulqdq d a b imm s)
    (fun d a b c imm => Effects.vpermil2psX d a b c imm s)
    (fun d a c b imm => Effects.vpermil2psXW1 d a c b imm s)
    (fun d a b c imm => Effects.vpermil2psY d a b c imm s)
    (fun d a c b imm => Effects.vpermil2psYW1 d a c b imm s)
    (fun d a b c imm => Effects.vpermil2pdX d a b c imm s)
    (fun d a c b imm => Effects.vpermil2pdXW1 d a c b imm s)
    (fun d a b c imm => Effects.vpermil2pdY d a b c imm s)
    (fun d a c b imm => Effects.vpermil2pdYW1 d a c b imm s)
    (fun d a b c => Effects.vblendvpsX d a b c s)
    (fun d a b c => Effects.vblendvpsY d a b c s)
    (fun d a b c => Effects.vblendvpdX d a b c s)
    (fun d a b c => Effects.vblendvpdY d a b c s)
    (fun d a b c => Effects.vpblendvb d a b c s)
    (fun d a b c => Effects.vfmaddsubpsX d a b c s)
    (fun d a c b => Effects.vfmaddsubpsXW1 d a c b s)
    (fun d a b c => Effects.vfmaddsubpsY d a b c s)
    (fun d a c b => Effects.vfmaddsubpsYW1 d a c b s)
    (fun d a b c => Effects.vfmaddsubpdX d a b c s)
    (fun d a c b => Effects.vfmaddsubpdXW1 d a c b s)
    (fun d a b c => Effects.vfmaddsubpdY d a b c s)
    (fun d a c b => Effects.vfmaddsubpdYW1 d a c b s)
    (fun d a b c => Effects.vfmsubaddpsX d a b c s)
    (fun d a c b => Effects.vfmsubaddpsXW1 d a c b s)
    (fun d a b c => Effects.vfmsubaddpsY d a b c s)
    (fun d a c b => Effects.vfmsubaddpsYW1 d a c b s)
    (fun d a b c => Effects.vfmsubaddpdX d a b c s)
    (fun d a c b => Effects.vfmsubaddpdXW1 d a c b s)
    (fun d a b c => Effects.vfmsubaddpdY d a b c s)
    (fun d a c b => Effects.vfmsubaddpdYW1 d a c b s)
    (fun d a b c => Effects.vfmaddpsX d a b c s)
    (fun d a c b => Effects.vfmaddpsXW1 d a c b s)
    (fun d a b c => Effects.vfmaddpsY d a b c s)
    (fun d a c b => Effects.vfmaddpsYW1 d a c b s)
    (fun d a b c => Effects.vfmaddpdX d a b c s)
    (fun d a c b => Effects.vfmaddpdXW1 d a c b s)
    (fun d a b c => Effects.vfmaddpdY d a b c s)
    (fun d a c b => Effects.vfmaddpdYW1 d a c b s)
    (fun d a b c => Effects.vfmaddss d a b c s)
    (fun d a c b => Effects.vfmaddssW1 d a c b s)
    (fun d a b c => Effects.vfmaddsd d a b c s)
    (fun d a c b => Effects.vfmaddsdW1 d a c b s)
    (fun d a b c => Effects.vfmsubpsX d a b c s)
    (fun d a c b => Effects.vfmsubpsXW1 d a c b s)
    (fun d a b c => Effects.vfmsubpsY d a b c s)
    (fun d a c b => Effects.vfmsubpsYW1 d a c b s)
    (fun d a b c => Effects.vfmsubpdX d a b c s)
    (fun d a c b => Effects.vfmsubpdXW1 d a c b s)
    (fun d a b c => Effects.vfmsubpdY d a b c s)
    (fun d a c b => Effects.vfmsubpdYW1 d a c b s)
    (fun d a b c => Effects.vfmsubss d a b c s)
    (fun d a c b => Effects.vfmsubssW1 d a c b s)
    (fun d a b c => Effects.vfmsubsd d a b c s)
    (fun d a c b => Effects.vfmsubsdW1 d a c b s)
    (fun d a b c => Effects.vfnmaddpsX d a b c s)
    (fun d a c b => Effects.vfnmaddpsXW1 d a c b s)
    (fun d a b c => Effects.vfnmaddpsY d a b c s)
    (fun d a c b => Effects.vfnmaddpsYW1 d a c b s)
    (fun d a b c => Effects.vfnmaddpdX d a b c s)
    (fun d a c b => Effects.vfnmaddpdXW1 d a c b s)
    (fun d a b c => Effects.vfnmaddpdY d a b c s)
    (fun d a c b => Effects.vfnmaddpdYW1 d a c b s)
    (fun d a b c => Effects.vfnmaddss d a b c s)
    (fun d a c b => Effects.vfnmaddssW1 d a c b s)
    (fun d a b c => Effects.vfnmaddsd d a b c s)
    (fun d a c b => Effects.vfnmaddsdW1 d a c b s)
    (fun d a b c => Effects.vfnmsubpsX d a b c s)
    (fun d a c b => Effects.vfnmsubpsXW1 d a c b s)
    (fun d a b c => Effects.vfnmsubpsY d a b c s)
    (fun d a c b => Effects.vfnmsubpsYW1 d a c b s)
    (fun d a b c => Effects.vfnmsubpdX d a b c s)
    (fun d a c b => Effects.vfnmsubpdXW1 d a c b s)
    (fun d a b c => Effects.vfnmsubpdY d a b c s)
    (fun d a c b => Effects.vfnmsubpdYW1 d a c b s)
    (fun d a b c => Effects.vfnmsubss d a b c s)
    (fun d a c b => Effects.vfnmsubssW1 d a c b s)
    (fun d a b c => Effects.vfnmsubsd d a b c s)
    (fun d a c b => Effects.vfnmsubsdW1 d a c b s)
    (fun d b imm => Effects.aeskeygenassist d b imm s)
    (fun d b imm => Effects.vaeskeygenassist d b imm s)

/-- What a next state is. -/
theorem exec_effect {i : Instr} {s t : State} (h : exec i s = .next t) : Effect s (formWrites i.form) t := by
  have b := exec_behaves i s
  rwa [h] at b

/-- What a fault is. -/
theorem exec_fault {i : Instr} {s : State} {f : Fault} (h : exec i s = .fault f) : Raisable s f := by
  have b := exec_behaves i s
  rwa [h] at b

end Sys2Proof.Machine
end

