-- ==== Sys2Proof/Laws/PerInstr.lean ====
section
/-! SUPPORT. What every instruction term has in common with its row of the opcode table, one lemma per constructor. -/

namespace Sys2Proof.Laws.TableRow

/-- The row and the operand fields make the instruction again; the row admits the kind of its ModRM.rm operand, has the width
of its general register, and holds no operand that its encoding has no place for (30_encoding.md R119, R130). -/
def Statement (i : Instr) : Prop :=
  i.form.build i.operands = i ∧ i.form.row.mod.accepts i.operands.rm.isReg = true ∧
    i.form.row.wide = i.operands.wide ∧ (i.form.row.enc.usesV = false → i.operands.v = 0) ∧
    (i.form.row.imm = .none → i.operands.imm = 0)

/-- Two bits survive in eight. -/
theorem imm2_roundtrip (x : BitVec 2) : (x.setWidth 8).setWidth 2 = x := by
  rw [BitVec.setWidth_setWidth_of_le _ (by decide), BitVec.setWidth_eq]

theorem vmovupsX (d : Reg) (b : RegMem) : Statement (.vmovupsX d b) :=
  ⟨rfl, rfl, rfl, fun _ => rfl, fun _ => rfl⟩
theorem vmovupsY (d : Reg) (b : RegMem) : Statement (.vmovupsY d b) :=
  ⟨rfl, rfl, rfl, fun _ => rfl, fun _ => rfl⟩
theorem vmovupdX (d : Reg) (b : RegMem) : Statement (.vmovupdX d b) :=
  ⟨rfl, rfl, rfl, fun _ => rfl, fun _ => rfl⟩
theorem vmovupdY (d : Reg) (b : RegMem) : Statement (.vmovupdY d b) :=
  ⟨rfl, rfl, rfl, fun _ => rfl, fun _ => rfl⟩
theorem vmovssReg (d : Reg) (a : Reg) (b : Reg) : Statement (.vmovssReg d a b) :=
  ⟨rfl, rfl, rfl, nofun, fun _ => rfl⟩
theorem vmovssLoad (d : Reg) (b : MemOp) : Statement (.vmovssLoad d b) :=
  ⟨rfl, rfl, rfl, fun _ => rfl, fun _ => rfl⟩
theorem vmovsdReg (d : Reg) (a : Reg) (b : Reg) : Statement (.vmovsdReg d a b) :=
  ⟨rfl, rfl, rfl, nofun, fun _ => rfl⟩
theorem vmovsdLoad (d : Reg) (b : MemOp) : Statement (.vmovsdLoad d b) :=
  ⟨rfl, rfl, rfl, fun _ => rfl, fun _ => rfl⟩
theorem vmovupsXStore (d : RegMem) (a : Reg) : Statement (.vmovupsXStore d a) :=
  ⟨rfl, rfl, rfl, fun _ => rfl, fun _ => rfl⟩
theorem vmovupsYStore (d : RegMem) (a : Reg) : Statement (.vmovupsYStore d a) :=
  ⟨rfl, rfl, rfl, fun _ => rfl, fun _ => rfl⟩
theorem vmovupdXStore (d : RegMem) (a : Reg) : Statement (.vmovupdXStore d a) :=
  ⟨rfl, rfl, rfl, fun _ => rfl, fun _ => rfl⟩
theorem vmovupdYStore (d : RegMem) (a : Reg) : Statement (.vmovupdYStore d a) :=
  ⟨rfl, rfl, rfl, fun _ => rfl, fun _ => rfl⟩
theorem vmovssStore (d : MemOp) (a : Reg) : Statement (.vmovssStore d a) :=
  ⟨rfl, rfl, rfl, fun _ => rfl, fun _ => rfl⟩
theorem vmovssReg2 (d : Reg) (a : Reg) (b : Reg) : Statement (.vmovssReg2 d a b) :=
  ⟨rfl, rfl, rfl, nofun, fun _ => rfl⟩
theorem vmovsdStore (d : MemOp) (a : Reg) : Statement (.vmovsdStore d a) :=
  ⟨rfl, rfl, rfl, fun _ => rfl, fun _ => rfl⟩
theorem vmovsdReg2 (d : Reg) (a : Reg) (b : Reg) : Statement (.vmovsdReg2 d a b) :=
  ⟨rfl, rfl, rfl, nofun, fun _ => rfl⟩
theorem vmovhlps (d : Reg) (a : Reg) (b : Reg) : Statement (.vmovhlps d a b) :=
  ⟨rfl, rfl, rfl, nofun, fun _ => rfl⟩
theorem vmovlpsLoad (d : Reg) (a : Reg) (b : MemOp) : Statement (.vmovlpsLoad d a b) :=
  ⟨rfl, rfl, rfl, nofun, fun _ => rfl⟩
theorem vmovlpdLoad (d : Reg) (a : Reg) (b : MemOp) : Statement (.vmovlpdLoad d a b) :=
  ⟨rfl, rfl, rfl, nofun, fun _ => rfl⟩
theorem vmovsldupX (d : Reg) (b : RegMem) : Statement (.vmovsldupX d b) :=
  ⟨rfl, rfl, rfl, fun _ => rfl, fun _ => rfl⟩
theorem vmovsldupY (d : Reg) (b : RegMem) : Statement (.vmovsldupY d b) :=
  ⟨rfl, rfl, rfl, fun _ => rfl, fun _ => rfl⟩
theorem vmovddupX (d : Reg) (b : RegMem) : Statement (.vmovddupX d b) :=
  ⟨rfl, rfl, rfl, fun _ => rfl, fun _ => rfl⟩
theorem vmovddupY (d : Reg) (b : RegMem) : Statement (.vmovddupY d b) :=
  ⟨rfl, rfl, rfl, fun _ => rfl, fun _ => rfl⟩
theorem vmovlpsStore (d : MemOp) (a : Reg) : Statement (.vmovlpsStore d a) :=
  ⟨rfl, rfl, rfl, fun _ => rfl, fun _ => rfl⟩
theorem vmovlpdStore (d : MemOp) (a : Reg) : Statement (.vmovlpdStore d a) :=
  ⟨rfl, rfl, rfl, fun _ => rfl, fun _ => rfl⟩
theorem vunpcklpsX (d : Reg) (a : Reg) (b : RegMem) : Statement (.vunpcklpsX d a b) :=
  ⟨rfl, rfl, rfl, nofun, fun _ => rfl⟩
theorem vunpcklpsY (d : Reg) (a : Reg) (b : RegMem) : Statement (.vunpcklpsY d a b) :=
  ⟨rfl, rfl, rfl, nofun, fun _ => rfl⟩
theorem vunpcklpdX (d : Reg) (a : Reg) (b : RegMem) : Statement (.vunpcklpdX d a b) :=
  ⟨rfl, rfl, rfl, nofun, fun _ => rfl⟩
theorem vunpcklpdY (d : Reg) (a : Reg) (b : RegMem) : Statement (.vunpcklpdY d a b) :=
  ⟨rfl, rfl, rfl, nofun, fun _ => rfl⟩
theorem vunpckhpsX (d : Reg) (a : Reg) (b : RegMem) : Statement (.vunpckhpsX d a b) :=
  ⟨rfl, rfl, rfl, nofun, fun _ => rfl⟩
theorem vunpckhpsY (d : Reg) (a : Reg) (b : RegMem) : Statement (.vunpckhpsY d a b) :=
  ⟨rfl, rfl, rfl, nofun, fun _ => rfl⟩
theorem vunpckhpdX (d : Reg) (a : Reg) (b : RegMem) : Statement (.vunpckhpdX d a b) :=
  ⟨rfl, rfl, rfl, nofun, fun _ => rfl⟩
theorem vunpckhpdY (d : Reg) (a : Reg) (b : RegMem) : Statement (.vunpckhpdY d a b) :=
  ⟨rfl, rfl, rfl, nofun, fun _ => rfl⟩
theorem vmovlhps (d : Reg) (a : Reg) (b : Reg) : Statement (.vmovlhps d a b) :=
  ⟨rfl, rfl, rfl, nofun, fun _ => rfl⟩
theorem vmovhpsLoad (d : Reg) (a : Reg) (b : MemOp) : Statement (.vmovhpsLoad d a b) :=
  ⟨rfl, rfl, rfl, nofun, fun _ => rfl⟩
theorem vmovhpdLoad (d : Reg) (a : Reg) (b : MemOp) : Statement (.vmovhpdLoad d a b) :=
  ⟨rfl, rfl, rfl, nofun, fun _ => rfl⟩
theorem vmovshdupX (d : Reg) (b : RegMem) : Statement (.vmovshdupX d b) :=
  ⟨rfl, rfl, rfl, fun _ => rfl, fun _ => rfl⟩
theorem vmovshdupY (d : Reg) (b : RegMem) : Statement (.vmovshdupY d b) :=
  ⟨rfl, rfl, rfl, fun _ => rfl, fun _ => rfl⟩
theorem vmovhpsStore (d : MemOp) (a : Reg) : Statement (.vmovhpsStore d a) :=
  ⟨rfl, rfl, rfl, fun _ => rfl, fun _ => rfl⟩
theorem vmovhpdStore (d : MemOp) (a : Reg) : Statement (.vmovhpdStore d a) :=
  ⟨rfl, rfl, rfl, fun _ => rfl, fun _ => rfl⟩
theorem vmovapsX (d : Reg) (b : RegMem) : Statement (.vmovapsX d b) :=
  ⟨rfl, rfl, rfl, fun _ => rfl, fun _ => rfl⟩
theorem vmovapsY (d : Reg) (b : RegMem) : Statement (.vmovapsY d b) :=
  ⟨rfl, rfl, rfl, fun _ => rfl, fun _ => rfl⟩
theorem vmovapdX (d : Reg) (b : RegMem) : Statement (.vmovapdX d b) :=
  ⟨rfl, rfl, rfl, fun _ => rfl, fun _ => rfl⟩
theorem vmovapdY (d : Reg) (b : RegMem) : Statement (.vmovapdY d b) :=
  ⟨rfl, rfl, rfl, fun _ => rfl, fun _ => rfl⟩
theorem vmovapsXStore (d : RegMem) (a : Reg) : Statement (.vmovapsXStore d a) :=
  ⟨rfl, rfl, rfl, fun _ => rfl, fun _ => rfl⟩
theorem vmovapsYStore (d : RegMem) (a : Reg) : Statement (.vmovapsYStore d a) :=
  ⟨rfl, rfl, rfl, fun _ => rfl, fun _ => rfl⟩
theorem vmovapdXStore (d : RegMem) (a : Reg) : Statement (.vmovapdXStore d a) :=
  ⟨rfl, rfl, rfl, fun _ => rfl, fun _ => rfl⟩
theorem vmovapdYStore (d : RegMem) (a : Reg) : Statement (.vmovapdYStore d a) :=
  ⟨rfl, rfl, rfl, fun _ => rfl, fun _ => rfl⟩
theorem vcvtsi2ssR32 (d : Reg) (a : Reg) (b : RegMem) : Statement (.vcvtsi2ssR32 d a b) :=
  ⟨rfl, rfl, rfl, nofun, fun _ => rfl⟩
theorem vcvtsi2ssR64 (d : Reg) (a : Reg) (b : RegMem) : Statement (.vcvtsi2ssR64 d a b) :=
  ⟨rfl, rfl, rfl, nofun, fun _ => rfl⟩
theorem vcvtsi2sdR32 (d : Reg) (a : Reg) (b : RegMem) : Statement (.vcvtsi2sdR32 d a b) :=
  ⟨rfl, rfl, rfl, nofun, fun _ => rfl⟩
theorem vcvtsi2sdR64 (d : Reg) (a : Reg) (b : RegMem) : Statement (.vcvtsi2sdR64 d a b) :=
  ⟨rfl, rfl, rfl, nofun, fun _ => rfl⟩
theorem vcvttss2siR32 (d : Reg) (b : RegMem) : Statement (.vcvttss2siR32 d b) :=
  ⟨rfl, rfl, rfl, fun _ => rfl, fun _ => rfl⟩
theorem vcvttss2siR64 (d : Reg) (b : RegMem) : Statement (.vcvttss2siR64 d b) :=
  ⟨rfl, rfl, rfl, fun _ => rfl, fun _ => rfl⟩
theorem vcvttsd2siR32 (d : Reg) (b : RegMem) : Statement (.vcvttsd2siR32 d b) :=
  ⟨rfl, rfl, rfl, fun _ => rfl, fun _ => rfl⟩
theorem vcvttsd2siR64 (d : Reg) (b : RegMem) : Statement (.vcvttsd2siR64 d b) :=
  ⟨rfl, rfl, rfl, fun _ => rfl, fun _ => rfl⟩
theorem vcvtss2siR32 (d : Reg) (b : RegMem) : Statement (.vcvtss2siR32 d b) :=
  ⟨rfl, rfl, rfl, fun _ => rfl, fun _ => rfl⟩
theorem vcvtss2siR64 (d : Reg) (b : RegMem) : Statement (.vcvtss2siR64 d b) :=
  ⟨rfl, rfl, rfl, fun _ => rfl, fun _ => rfl⟩
theorem vcvtsd2siR32 (d : Reg) (b : RegMem) : Statement (.vcvtsd2siR32 d b) :=
  ⟨rfl, rfl, rfl, fun _ => rfl, fun _ => rfl⟩
theorem vcvtsd2siR64 (d : Reg) (b : RegMem) : Statement (.vcvtsd2siR64 d b) :=
  ⟨rfl, rfl, rfl, fun _ => rfl, fun _ => rfl⟩
theorem vmovmskpsX (d : Reg) (b : Reg) : Statement (.vmovmskpsX d b) :=
  ⟨rfl, rfl, rfl, fun _ => rfl, fun _ => rfl⟩
theorem vmovmskpsY (d : Reg) (b : Reg) : Statement (.vmovmskpsY d b) :=
  ⟨rfl, rfl, rfl, fun _ => rfl, fun _ => rfl⟩
theorem vmovmskpdX (d : Reg) (b : Reg) : Statement (.vmovmskpdX d b) :=
  ⟨rfl, rfl, rfl, fun _ => rfl, fun _ => rfl⟩
theorem vmovmskpdY (d : Reg) (b : Reg) : Statement (.vmovmskpdY d b) :=
  ⟨rfl, rfl, rfl, fun _ => rfl, fun _ => rfl⟩
theorem vsqrtpsX (d : Reg) (b : RegMem) : Statement (.vsqrtpsX d b) :=
  ⟨rfl, rfl, rfl, fun _ => rfl, fun _ => rfl⟩
theorem vsqrtpsY (d : Reg) (b : RegMem) : Statement (.vsqrtpsY d b) :=
  ⟨rfl, rfl, rfl, fun _ => rfl, fun _ => rfl⟩
theorem vsqrtpdX (d : Reg) (b : RegMem) : Statement (.vsqrtpdX d b) :=
  ⟨rfl, rfl, rfl, fun _ => rfl, fun _ => rfl⟩
theorem vsqrtpdY (d : Reg) (b : RegMem) : Statement (.vsqrtpdY d b) :=
  ⟨rfl, rfl, rfl, fun _ => rfl, fun _ => rfl⟩
theorem vsqrtss (d : Reg) (a : Reg) (b : RegMem) : Statement (.vsqrtss d a b) :=
  ⟨rfl, rfl, rfl, nofun, fun _ => rfl⟩
theorem vsqrtsd (d : Reg) (a : Reg) (b : RegMem) : Statement (.vsqrtsd d a b) :=
  ⟨rfl, rfl, rfl, nofun, fun _ => rfl⟩
theorem vrsqrtpsX (d : Reg) (b : RegMem) : Statement (.vrsqrtpsX d b) :=
  ⟨rfl, rfl, rfl, fun _ => rfl, fun _ => rfl⟩
theorem vrsqrtpsY (d : Reg) (b : RegMem) : Statement (.vrsqrtpsY d b) :=
  ⟨rfl, rfl, rfl, fun _ => rfl, fun _ => rfl⟩
theorem vrsqrtss (d : Reg) (a : Reg) (b : RegMem) : Statement (.vrsqrtss d a b) :=
  ⟨rfl, rfl, rfl, nofun, fun _ => rfl⟩
theorem vrcppsX (d : Reg) (b : RegMem) : Statement (.vrcppsX d b) :=
  ⟨rfl, rfl, rfl, fun _ => rfl, fun _ => rfl⟩
theorem vrcppsY (d : Reg) (b : RegMem) : Statement (.vrcppsY d b) :=
  ⟨rfl, rfl, rfl, fun _ => rfl, fun _ => rfl⟩
theorem vrcpss (d : Reg) (a : Reg) (b : RegMem) : Statement (.vrcpss d a b) :=
  ⟨rfl, rfl, rfl, nofun, fun _ => rfl⟩
theorem vandpsX (d : Reg) (a : Reg) (b : RegMem) : Statement (.vandpsX d a b) :=
  ⟨rfl, rfl, rfl, nofun, fun _ => rfl⟩
theorem vandpsY (d : Reg) (a : Reg) (b : RegMem) : Statement (.vandpsY d a b) :=
  ⟨rfl, rfl, rfl, nofun, fun _ => rfl⟩
theorem vandpdX (d : Reg) (a : Reg) (b : RegMem) : Statement (.vandpdX d a b) :=
  ⟨rfl, rfl, rfl, nofun, fun _ => rfl⟩
theorem vandpdY (d : Reg) (a : Reg) (b : RegMem) : Statement (.vandpdY d a b) :=
  ⟨rfl, rfl, rfl, nofun, fun _ => rfl⟩
theorem vandnpsX (d : Reg) (a : Reg) (b : RegMem) : Statement (.vandnpsX d a b) :=
  ⟨rfl, rfl, rfl, nofun, fun _ => rfl⟩
theorem vandnpsY (d : Reg) (a : Reg) (b : RegMem) : Statement (.vandnpsY d a b) :=
  ⟨rfl, rfl, rfl, nofun, fun _ => rfl⟩
theorem vandnpdX (d : Reg) (a : Reg) (b : RegMem) : Statement (.vandnpdX d a b) :=
  ⟨rfl, rfl, rfl, nofun, fun _ => rfl⟩
theorem vandnpdY (d : Reg) (a : Reg) (b : RegMem) : Statement (.vandnpdY d a b) :=
  ⟨rfl, rfl, rfl, nofun, fun _ => rfl⟩
theorem vorpsX (d : Reg) (a : Reg) (b : RegMem) : Statement (.vorpsX d a b) :=
  ⟨rfl, rfl, rfl, nofun, fun _ => rfl⟩
theorem vorpsY (d : Reg) (a : Reg) (b : RegMem) : Statement (.vorpsY d a b) :=
  ⟨rfl, rfl, rfl, nofun, fun _ => rfl⟩
theorem vorpdX (d : Reg) (a : Reg) (b : RegMem) : Statement (.vorpdX d a b) :=
  ⟨rfl, rfl, rfl, nofun, fun _ => rfl⟩
theorem vorpdY (d : Reg) (a : Reg) (b : RegMem) : Statement (.vorpdY d a b) :=
  ⟨rfl, rfl, rfl, nofun, fun _ => rfl⟩
theorem vxorpsX (d : Reg) (a : Reg) (b : RegMem) : Statement (.vxorpsX d a b) :=
  ⟨rfl, rfl, rfl, nofun, fun _ => rfl⟩
theorem vxorpsY (d : Reg) (a : Reg) (b : RegMem) : Statement (.vxorpsY d a b) :=
  ⟨rfl, rfl, rfl, nofun, fun _ => rfl⟩
theorem vxorpdX (d : Reg) (a : Reg) (b : RegMem) : Statement (.vxorpdX d a b) :=
  ⟨rfl, rfl, rfl, nofun, fun _ => rfl⟩
theorem vxorpdY (d : Reg) (a : Reg) (b : RegMem) : Statement (.vxorpdY d a b) :=
  ⟨rfl, rfl, rfl, nofun, fun _ => rfl⟩
theorem vaddpsX (d : Reg) (a : Reg) (b : RegMem) : Statement (.vaddpsX d a b) :=
  ⟨rfl, rfl, rfl, nofun, fun _ => rfl⟩
theorem vaddpsY (d : Reg) (a : Reg) (b : RegMem) : Statement (.vaddpsY d a b) :=
  ⟨rfl, rfl, rfl, nofun, fun _ => rfl⟩
theorem vaddpdX (d : Reg) (a : Reg) (b : RegMem) : Statement (.vaddpdX d a b) :=
  ⟨rfl, rfl, rfl, nofun, fun _ => rfl⟩
theorem vaddpdY (d : Reg) (a : Reg) (b : RegMem) : Statement (.vaddpdY d a b) :=
  ⟨rfl, rfl, rfl, nofun, fun _ => rfl⟩
theorem vaddss (d : Reg) (a : Reg) (b : RegMem) : Statement (.vaddss d a b) :=
  ⟨rfl, rfl, rfl, nofun, fun _ => rfl⟩
theorem vaddsd (d : Reg) (a : Reg) (b : RegMem) : Statement (.vaddsd d a b) :=
  ⟨rfl, rfl, rfl, nofun, fun _ => rfl⟩
theorem vmulpsX (d : Reg) (a : Reg) (b : RegMem) : Statement (.vmulpsX d a b) :=
  ⟨rfl, rfl, rfl, nofun, fun _ => rfl⟩
theorem vmulpsY (d : Reg) (a : Reg) (b : RegMem) : Statement (.vmulpsY d a b) :=
  ⟨rfl, rfl, rfl, nofun, fun _ => rfl⟩
theorem vmulpdX (d : Reg) (a : Reg) (b : RegMem) : Statement (.vmulpdX d a b) :=
  ⟨rfl, rfl, rfl, nofun, fun _ => rfl⟩
theorem vmulpdY (d : Reg) (a : Reg) (b : RegMem) : Statement (.vmulpdY d a b) :=
  ⟨rfl, rfl, rfl, nofun, fun _ => rfl⟩
theorem vmulss (d : Reg) (a : Reg) (b : RegMem) : Statement (.vmulss d a b) :=
  ⟨rfl, rfl, rfl, nofun, fun _ => rfl⟩
theorem vmulsd (d : Reg) (a : Reg) (b : RegMem) : Statement (.vmulsd d a b) :=
  ⟨rfl, rfl, rfl, nofun, fun _ => rfl⟩
theorem vcvtps2pdX (d : Reg) (b : RegMem) : Statement (.vcvtps2pdX d b) :=
  ⟨rfl, rfl, rfl, fun _ => rfl, fun _ => rfl⟩
theorem vcvtps2pdY (d : Reg) (b : RegMem) : Statement (.vcvtps2pdY d b) :=
  ⟨rfl, rfl, rfl, fun _ => rfl, fun _ => rfl⟩
theorem vcvtpd2psX (d : Reg) (b : RegMem) : Statement (.vcvtpd2psX d b) :=
  ⟨rfl, rfl, rfl, fun _ => rfl, fun _ => rfl⟩
theorem vcvtpd2psY (d : Reg) (b : RegMem) : Statement (.vcvtpd2psY d b) :=
  ⟨rfl, rfl, rfl, fun _ => rfl, fun _ => rfl⟩
theorem vcvtss2sd (d : Reg) (a : Reg) (b : RegMem) : Statement (.vcvtss2sd d a b) :=
  ⟨rfl, rfl, rfl, nofun, fun _ => rfl⟩
theorem vcvtsd2ss (d : Reg) (a : Reg) (b : RegMem) : Statement (.vcvtsd2ss d a b) :=
  ⟨rfl, rfl, rfl, nofun, fun _ => rfl⟩
theorem vcvtdq2psX (d : Reg) (b : RegMem) : Statement (.vcvtdq2psX d b) :=
  ⟨rfl, rfl, rfl, fun _ => rfl, fun _ => rfl⟩
theorem vcvtdq2psY (d : Reg) (b : RegMem) : Statement (.vcvtdq2psY d b) :=
  ⟨rfl, rfl, rfl, fun _ => rfl, fun _ => rfl⟩
theorem vcvtps2dqX (d : Reg) (b : RegMem) : Statement (.vcvtps2dqX d b) :=
  ⟨rfl, rfl, rfl, fun _ => rfl, fun _ => rfl⟩
theorem vcvtps2dqY (d : Reg) (b : RegMem) : Statement (.vcvtps2dqY d b) :=
  ⟨rfl, rfl, rfl, fun _ => rfl, fun _ => rfl⟩
theorem vcvttps2dqX (d : Reg) (b : RegMem) : Statement (.vcvttps2dqX d b) :=
  ⟨rfl, rfl, rfl, fun _ => rfl, fun _ => rfl⟩
theorem vcvttps2dqY (d : Reg) (b : RegMem) : Statement (.vcvttps2dqY d b) :=
  ⟨rfl, rfl, rfl, fun _ => rfl, fun _ => rfl⟩
theorem vsubpsX (d : Reg) (a : Reg) (b : RegMem) : Statement (.vsubpsX d a b) :=
  ⟨rfl, rfl, rfl, nofun, fun _ => rfl⟩
theorem vsubpsY (d : Reg) (a : Reg) (b : RegMem) : Statement (.vsubpsY d a b) :=
  ⟨rfl, rfl, rfl, nofun, fun _ => rfl⟩
theorem vsubpdX (d : Reg) (a : Reg) (b : RegMem) : Statement (.vsubpdX d a b) :=
  ⟨rfl, rfl, rfl, nofun, fun _ => rfl⟩
theorem vsubpdY (d : Reg) (a : Reg) (b : RegMem) : Statement (.vsubpdY d a b) :=
  ⟨rfl, rfl, rfl, nofun, fun _ => rfl⟩
theorem vsubss (d : Reg) (a : Reg) (b : RegMem) : Statement (.vsubss d a b) :=
  ⟨rfl, rfl, rfl, nofun, fun _ => rfl⟩
theorem vsubsd (d : Reg) (a : Reg) (b : RegMem) : Statement (.vsubsd d a b) :=
  ⟨rfl, rfl, rfl, nofun, fun _ => rfl⟩
theorem vminpsX (d : Reg) (a : Reg) (b : RegMem) : Statement (.vminpsX d a b) :=
  ⟨rfl, rfl, rfl, nofun, fun _ => rfl⟩
theorem vminpsY (d : Reg) (a : Reg) (b : RegMem) : Statement (.vminpsY d a b) :=
  ⟨rfl, rfl, rfl, nofun, fun _ => rfl⟩
theorem vminpdX (d : Reg) (a : Reg) (b : RegMem) : Statement (.vminpdX d a b) :=
  ⟨rfl, rfl, rfl, nofun, fun _ => rfl⟩
theorem vminpdY (d : Reg) (a : Reg) (b : RegMem) : Statement (.vminpdY d a b) :=
  ⟨rfl, rfl, rfl, nofun, fun _ => rfl⟩
theorem vminss (d : Reg) (a : Reg) (b : RegMem) : Statement (.vminss d a b) :=
  ⟨rfl, rfl, rfl, nofun, fun _ => rfl⟩
theorem vminsd (d : Reg) (a : Reg) (b : RegMem) : Statement (.vminsd d a b) :=
  ⟨rfl, rfl, rfl, nofun, fun _ => rfl⟩
theorem vdivpsX (d : Reg) (a : Reg) (b : RegMem) : Statement (.vdivpsX d a b) :=
  ⟨rfl, rfl, rfl, nofun, fun _ => rfl⟩
theorem vdivpsY (d : Reg) (a : Reg) (b : RegMem) : Statement (.vdivpsY d a b) :=
  ⟨rfl, rfl, rfl, nofun, fun _ => rfl⟩
theorem vdivpdX (d : Reg) (a : Reg) (b : RegMem) : Statement (.vdivpdX d a b) :=
  ⟨rfl, rfl, rfl, nofun, fun _ => rfl⟩
theorem vdivpdY (d : Reg) (a : Reg) (b : RegMem) : Statement (.vdivpdY d a b) :=
  ⟨rfl, rfl, rfl, nofun, fun _ => rfl⟩
theorem vdivss (d : Reg) (a : Reg) (b : RegMem) : Statement (.vdivss d a b) :=
  ⟨rfl, rfl, rfl, nofun, fun _ => rfl⟩
theorem vdivsd (d : Reg) (a : Reg) (b : RegMem) : Statement (.vdivsd d a b) :=
  ⟨rfl, rfl, rfl, nofun, fun _ => rfl⟩
theorem vmaxpsX (d : Reg) (a : Reg) (b : RegMem) : Statement (.vmaxpsX d a b) :=
  ⟨rfl, rfl, rfl, nofun, fun _ => rfl⟩
theorem vmaxpsY (d : Reg) (a : Reg) (b : RegMem) : Statement (.vmaxpsY d a b) :=
  ⟨rfl, rfl, rfl, nofun, fun _ => rfl⟩
theorem vmaxpdX (d : Reg) (a : Reg) (b : RegMem) : Statement (.vmaxpdX d a b) :=
  ⟨rfl, rfl, rfl, nofun, fun _ => rfl⟩
theorem vmaxpdY (d : Reg) (a : Reg) (b : RegMem) : Statement (.vmaxpdY d a b) :=
  ⟨rfl, rfl, rfl, nofun, fun _ => rfl⟩
theorem vmaxss (d : Reg) (a : Reg) (b : RegMem) : Statement (.vmaxss d a b) :=
  ⟨rfl, rfl, rfl, nofun, fun _ => rfl⟩
theorem vmaxsd (d : Reg) (a : Reg) (b : RegMem) : Statement (.vmaxsd d a b) :=
  ⟨rfl, rfl, rfl, nofun, fun _ => rfl⟩
theorem vpunpcklbw (d : Reg) (a : Reg) (b : RegMem) : Statement (.vpunpcklbw d a b) :=
  ⟨rfl, rfl, rfl, nofun, fun _ => rfl⟩
theorem vpunpcklwd (d : Reg) (a : Reg) (b : RegMem) : Statement (.vpunpcklwd d a b) :=
  ⟨rfl, rfl, rfl, nofun, fun _ => rfl⟩
theorem vpunpckldq (d : Reg) (a : Reg) (b : RegMem) : Statement (.vpunpckldq d a b) :=
  ⟨rfl, rfl, rfl, nofun, fun _ => rfl⟩
theorem vpacksswb (d : Reg) (a : Reg) (b : RegMem) : Statement (.vpacksswb d a b) :=
  ⟨rfl, rfl, rfl, nofun, fun _ => rfl⟩
theorem vpcmpgtb (d : Reg) (a : Reg) (b : RegMem) : Statement (.vpcmpgtb d a b) :=
  ⟨rfl, rfl, rfl, nofun, fun _ => rfl⟩
theorem vpcmpgtw (d : Reg) (a : Reg) (b : RegMem) : Statement (.vpcmpgtw d a b) :=
  ⟨rfl, rfl, rfl, nofun, fun _ => rfl⟩
theorem vpcmpgtd (d : Reg) (a : Reg) (b : RegMem) : Statement (.vpcmpgtd d a b) :=
  ⟨rfl, rfl, rfl, nofun, fun _ => rfl⟩
theorem vpackuswb (d : Reg) (a : Reg) (b : RegMem) : Statement (.vpackuswb d a b) :=
  ⟨rfl, rfl, rfl, nofun, fun _ => rfl⟩
theorem vpunpckhbw (d : Reg) (a : Reg) (b : RegMem) : Statement (.vpunpckhbw d a b) :=
  ⟨rfl, rfl, rfl, nofun, fun _ => rfl⟩
theorem vpunpckhwd (d : Reg) (a : Reg) (b : RegMem) : Statement (.vpunpckhwd d a b) :=
  ⟨rfl, rfl, rfl, nofun, fun _ => rfl⟩
theorem vpunpckhdq (d : Reg) (a : Reg) (b : RegMem) : Statement (.vpunpckhdq d a b) :=
  ⟨rfl, rfl, rfl, nofun, fun _ => rfl⟩
theorem vpackssdw (d : Reg) (a : Reg) (b : RegMem) : Statement (.vpackssdw d a b) :=
  ⟨rfl, rfl, rfl, nofun, fun _ => rfl⟩
theorem vpunpcklqdq (d : Reg) (a : Reg) (b : RegMem) : Statement (.vpunpcklqdq d a b) :=
  ⟨rfl, rfl, rfl, nofun, fun _ => rfl⟩
theorem vpunpckhqdq (d : Reg) (a : Reg) (b : RegMem) : Statement (.vpunpckhqdq d a b) :=
  ⟨rfl, rfl, rfl, nofun, fun _ => rfl⟩
theorem vmovdqaX (d : Reg) (b : RegMem) : Statement (.vmovdqaX d b) :=
  ⟨rfl, rfl, rfl, fun _ => rfl, fun _ => rfl⟩
theorem vmovdqaY (d : Reg) (b : RegMem) : Statement (.vmovdqaY d b) :=
  ⟨rfl, rfl, rfl, fun _ => rfl, fun _ => rfl⟩
theorem vmovdquX (d : Reg) (b : RegMem) : Statement (.vmovdquX d b) :=
  ⟨rfl, rfl, rfl, fun _ => rfl, fun _ => rfl⟩
theorem vmovdquY (d : Reg) (b : RegMem) : Statement (.vmovdquY d b) :=
  ⟨rfl, rfl, rfl, fun _ => rfl, fun _ => rfl⟩
theorem vpshufd (d : Reg) (b : RegMem) (imm : BitVec 8) : Statement (.vpshufd d b imm) :=
  ⟨rfl, rfl, rfl, fun _ => rfl, nofun⟩
theorem vpshufhw (d : Reg) (b : RegMem) (imm : BitVec 8) : Statement (.vpshufhw d b imm) :=
  ⟨rfl, rfl, rfl, fun _ => rfl, nofun⟩
theorem vpshuflw (d : Reg) (b : RegMem) (imm : BitVec 8) : Statement (.vpshuflw d b imm) :=
  ⟨rfl, rfl, rfl, fun _ => rfl, nofun⟩
theorem vpsrlwImm (d : Reg) (a : Reg) (imm : BitVec 8) : Statement (.vpsrlwImm d a imm) :=
  ⟨rfl, rfl, rfl, nofun, nofun⟩
theorem vpsrawImm (d : Reg) (a : Reg) (imm : BitVec 8) : Statement (.vpsrawImm d a imm) :=
  ⟨rfl, rfl, rfl, nofun, nofun⟩
theorem vpsllwImm (d : Reg) (a : Reg) (imm : BitVec 8) : Statement (.vpsllwImm d a imm) :=
  ⟨rfl, rfl, rfl, nofun, nofun⟩
theorem vpsrldImm (d : Reg) (a : Reg) (imm : BitVec 8) : Statement (.vpsrldImm d a imm) :=
  ⟨rfl, rfl, rfl, nofun, nofun⟩
theorem vpsradImm (d : Reg) (a : Reg) (imm : BitVec 8) : Statement (.vpsradImm d a imm) :=
  ⟨rfl, rfl, rfl, nofun, nofun⟩
theorem vpslldImm (d : Reg) (a : Reg) (imm : BitVec 8) : Statement (.vpslldImm d a imm) :=
  ⟨rfl, rfl, rfl, nofun, nofun⟩
theorem vpsrlqImm (d : Reg) (a : Reg) (imm : BitVec 8) : Statement (.vpsrlqImm d a imm) :=
  ⟨rfl, rfl, rfl, nofun, nofun⟩
theorem vpsrldq (d : Reg) (a : Reg) (imm : BitVec 8) : Statement (.vpsrldq d a imm) :=
  ⟨rfl, rfl, rfl, nofun, nofun⟩
theorem vpsllqImm (d : Reg) (a : Reg) (imm : BitVec 8) : Statement (.vpsllqImm d a imm) :=
  ⟨rfl, rfl, rfl, nofun, nofun⟩
theorem vpslldq (d : Reg) (a : Reg) (imm : BitVec 8) : Statement (.vpslldq d a imm) :=
  ⟨rfl, rfl, rfl, nofun, nofun⟩
theorem vpcmpeqb (d : Reg) (a : Reg) (b : RegMem) : Statement (.vpcmpeqb d a b) :=
  ⟨rfl, rfl, rfl, nofun, fun _ => rfl⟩
theorem vpcmpeqw (d : Reg) (a : Reg) (b : RegMem) : Statement (.vpcmpeqw d a b) :=
  ⟨rfl, rfl, rfl, nofun, fun _ => rfl⟩
theorem vpcmpeqd (d : Reg) (a : Reg) (b : RegMem) : Statement (.vpcmpeqd d a b) :=
  ⟨rfl, rfl, rfl, nofun, fun _ => rfl⟩
theorem vzeroupper : Statement (.vzeroupper) :=
  ⟨rfl, rfl, rfl, fun _ => rfl, fun _ => rfl⟩
theorem vzeroall : Statement (.vzeroall) :=
  ⟨rfl, rfl, rfl, fun _ => rfl, fun _ => rfl⟩
theorem vhaddpdX (d : Reg) (a : Reg) (b : RegMem) : Statement (.vhaddpdX d a b) :=
  ⟨rfl, rfl, rfl, nofun, fun _ => rfl⟩
theorem vhaddpdY (d : Reg) (a : Reg) (b : RegMem) : Statement (.vhaddpdY d a b) :=
  ⟨rfl, rfl, rfl, nofun, fun _ => rfl⟩
theorem vhaddpsX (d : Reg) (a : Reg) (b : RegMem) : Statement (.vhaddpsX d a b) :=
  ⟨rfl, rfl, rfl, nofun, fun _ => rfl⟩
theorem vhaddpsY (d : Reg) (a : Reg) (b : RegMem) : Statement (.vhaddpsY d a b) :=
  ⟨rfl, rfl, rfl, nofun, fun _ => rfl⟩
theorem vhsubpdX (d : Reg) (a : Reg) (b : RegMem) : Statement (.vhsubpdX d a b) :=
  ⟨rfl, rfl, rfl, nofun, fun _ => rfl⟩
theorem vhsubpdY (d : Reg) (a : Reg) (b : RegMem) : Statement (.vhsubpdY d a b) :=
  ⟨rfl, rfl, rfl, nofun, fun _ => rfl⟩
theorem vhsubpsX (d : Reg) (a : Reg) (b : RegMem) : Statement (.vhsubpsX d a b) :=
  ⟨rfl, rfl, rfl, nofun, fun _ => rfl⟩
theorem vhsubpsY (d : Reg) (a : Reg) (b : RegMem) : Statement (.vhsubpsY d a b) :=
  ⟨rfl, rfl, rfl, nofun, fun _ => rfl⟩
theorem vmovdqaXStore (d : RegMem) (a : Reg) : Statement (.vmovdqaXStore d a) :=
  ⟨rfl, rfl, rfl, fun _ => rfl, fun _ => rfl⟩
theorem vmovdqaYStore (d : RegMem) (a : Reg) : Statement (.vmovdqaYStore d a) :=
  ⟨rfl, rfl, rfl, fun _ => rfl, fun _ => rfl⟩
theorem vmovdquXStore (d : RegMem) (a : Reg) : Statement (.vmovdquXStore d a) :=
  ⟨rfl, rfl, rfl, fun _ => rfl, fun _ => rfl⟩
theorem vmovdquYStore (d : RegMem) (a : Reg) : Statement (.vmovdquYStore d a) :=
  ⟨rfl, rfl, rfl, fun _ => rfl, fun _ => rfl⟩
theorem vldmxcsr (m : MemOp) : Statement (.vldmxcsr m) :=
  ⟨rfl, rfl, rfl, fun _ => rfl, fun _ => rfl⟩
theorem vstmxcsr (m : MemOp) : Statement (.vstmxcsr m) :=
  ⟨rfl, rfl, rfl, fun _ => rfl, fun _ => rfl⟩
theorem vcmppsX (d : Reg) (a : Reg) (b : RegMem) (imm : BitVec 8) : Statement (.vcmppsX d a b imm) :=
  ⟨rfl, rfl, rfl, nofun, nofun⟩
theorem vcmppsY (d : Reg) (a : Reg) (b : RegMem) (imm : BitVec 8) : Statement (.vcmppsY d a b imm) :=
  ⟨rfl, rfl, rfl, nofun, nofun⟩
theorem vcmppdX (d : Reg) (a : Reg) (b : RegMem) (imm : BitVec 8) : Statement (.vcmppdX d a b imm) :=
  ⟨rfl, rfl, rfl, nofun, nofun⟩
theorem vcmppdY (d : Reg) (a : Reg) (b : RegMem) (imm : BitVec 8) : Statement (.vcmppdY d a b imm) :=
  ⟨rfl, rfl, rfl, nofun, nofun⟩
theorem vcmpss (d : Reg) (a : Reg) (b : RegMem) (imm : BitVec 8) : Statement (.vcmpss d a b imm) :=
  ⟨rfl, rfl, rfl, nofun, nofun⟩
theorem vcmpsd (d : Reg) (a : Reg) (b : RegMem) (imm : BitVec 8) : Statement (.vcmpsd d a b imm) :=
  ⟨rfl, rfl, rfl, nofun, nofun⟩
theorem vpinsrw (d : Reg) (a : Reg) (b : RegMem) (imm : BitVec 8) : Statement (.vpinsrw d a b imm) :=
  ⟨rfl, rfl, rfl, nofun, nofun⟩
theorem vshufpsX (d : Reg) (a : Reg) (b : RegMem) (imm : BitVec 8) : Statement (.vshufpsX d a b imm) :=
  ⟨rfl, rfl, rfl, nofun, nofun⟩
theorem vshufpsY (d : Reg) (a : Reg) (b : RegMem) (imm : BitVec 8) : Statement (.vshufpsY d a b imm) :=
  ⟨rfl, rfl, rfl, nofun, nofun⟩
theorem vshufpdX (d : Reg) (a : Reg) (b : RegMem) (imm : BitVec 8) : Statement (.vshufpdX d a b imm) :=
  ⟨rfl, rfl, rfl, nofun, nofun⟩
theorem vshufpdY (d : Reg) (a : Reg) (b : RegMem) (imm : BitVec 8) : Statement (.vshufpdY d a b imm) :=
  ⟨rfl, rfl, rfl, nofun, nofun⟩
theorem vaddsubpdX (d : Reg) (a : Reg) (b : RegMem) : Statement (.vaddsubpdX d a b) :=
  ⟨rfl, rfl, rfl, nofun, fun _ => rfl⟩
theorem vaddsubpdY (d : Reg) (a : Reg) (b : RegMem) : Statement (.vaddsubpdY d a b) :=
  ⟨rfl, rfl, rfl, nofun, fun _ => rfl⟩
theorem vaddsubpsX (d : Reg) (a : Reg) (b : RegMem) : Statement (.vaddsubpsX d a b) :=
  ⟨rfl, rfl, rfl, nofun, fun _ => rfl⟩
theorem vaddsubpsY (d : Reg) (a : Reg) (b : RegMem) : Statement (.vaddsubpsY d a b) :=
  ⟨rfl, rfl, rfl, nofun, fun _ => rfl⟩
theorem vpsrlw (d : Reg) (a : Reg) (b : RegMem) : Statement (.vpsrlw d a b) :=
  ⟨rfl, rfl, rfl, nofun, fun _ => rfl⟩
theorem vpsrld (d : Reg) (a : Reg) (b : RegMem) : Statement (.vpsrld d a b) :=
  ⟨rfl, rfl, rfl, nofun, fun _ => rfl⟩
theorem vpsrlq (d : Reg) (a : Reg) (b : RegMem) : Statement (.vpsrlq d a b) :=
  ⟨rfl, rfl, rfl, nofun, fun _ => rfl⟩
theorem vpaddq (d : Reg) (a : Reg) (b : RegMem) : Statement (.vpaddq d a b) :=
  ⟨rfl, rfl, rfl, nofun, fun _ => rfl⟩
theorem vpmullw (d : Reg) (a : Reg) (b : RegMem) : Statement (.vpmullw d a b) :=
  ⟨rfl, rfl, rfl, nofun, fun _ => rfl⟩
theorem vpsubusb (d : Reg) (a : Reg) (b : RegMem) : Statement (.vpsubusb d a b) :=
  ⟨rfl, rfl, rfl, nofun, fun _ => rfl⟩
theorem vpsubusw (d : Reg) (a : Reg) (b : RegMem) : Statement (.vpsubusw d a b) :=
  ⟨rfl, rfl, rfl, nofun, fun _ => rfl⟩
theorem vpminub (d : Reg) (a : Reg) (b : RegMem) : Statement (.vpminub d a b) :=
  ⟨rfl, rfl, rfl, nofun, fun _ => rfl⟩
theorem vpand (d : Reg) (a : Reg) (b : RegMem) : Statement (.vpand d a b) :=
  ⟨rfl, rfl, rfl, nofun, fun _ => rfl⟩
theorem vpaddusb (d : Reg) (a : Reg) (b : RegMem) : Statement (.vpaddusb d a b) :=
  ⟨rfl, rfl, rfl, nofun, fun _ => rfl⟩
theorem vpaddusw (d : Reg) (a : Reg) (b : RegMem) : Statement (.vpaddusw d a b) :=
  ⟨rfl, rfl, rfl, nofun, fun _ => rfl⟩
theorem vpmaxub (d : Reg) (a : Reg) (b : RegMem) : Statement (.vpmaxub d a b) :=
  ⟨rfl, rfl, rfl, nofun, fun _ => rfl⟩
theorem vpandn (d : Reg) (a : Reg) (b : RegMem) : Statement (.vpandn d a b) :=
  ⟨rfl, rfl, rfl, nofun, fun _ => rfl⟩
theorem vpavgb (d : Reg) (a : Reg) (b : RegMem) : Statement (.vpavgb d a b) :=
  ⟨rfl, rfl, rfl, nofun, fun _ => rfl⟩
theorem vpsraw (d : Reg) (a : Reg) (b : RegMem) : Statement (.vpsraw d a b) :=
  ⟨rfl, rfl, rfl, nofun, fun _ => rfl⟩
theorem vpsrad (d : Reg) (a : Reg) (b : RegMem) : Statement (.vpsrad d a b) :=
  ⟨rfl, rfl, rfl, nofun, fun _ => rfl⟩
theorem vpavgw (d : Reg) (a : Reg) (b : RegMem) : Statement (.vpavgw d a b) :=
  ⟨rfl, rfl, rfl, nofun, fun _ => rfl⟩
theorem vpmulhuw (d : Reg) (a : Reg) (b : RegMem) : Statement (.vpmulhuw d a b) :=
  ⟨rfl, rfl, rfl, nofun, fun _ => rfl⟩
theorem vpmulhw (d : Reg) (a : Reg) (b : RegMem) : Statement (.vpmulhw d a b) :=
  ⟨rfl, rfl, rfl, nofun, fun _ => rfl⟩
theorem vcvttpd2dqX (d : Reg) (b : RegMem) : Statement (.vcvttpd2dqX d b) :=
  ⟨rfl, rfl, rfl, fun _ => rfl, fun _ => rfl⟩
theorem vcvttpd2dqY (d : Reg) (b : RegMem) : Statement (.vcvttpd2dqY d b) :=
  ⟨rfl, rfl, rfl, fun _ => rfl, fun _ => rfl⟩
theorem vcvtdq2pdX (d : Reg) (b : RegMem) : Statement (.vcvtdq2pdX d b) :=
  ⟨rfl, rfl, rfl, fun _ => rfl, fun _ => rfl⟩
theorem vcvtdq2pdY (d : Reg) (b : RegMem) : Statement (.vcvtdq2pdY d b) :=
  ⟨rfl, rfl, rfl, fun _ => rfl, fun _ => rfl⟩
theorem vcvtpd2dqX (d : Reg) (b : RegMem) : Statement (.vcvtpd2dqX d b) :=
  ⟨rfl, rfl, rfl, fun _ => rfl, fun _ => rfl⟩
theorem vcvtpd2dqY (d : Reg) (b : RegMem) : Statement (.vcvtpd2dqY d b) :=
  ⟨rfl, rfl, rfl, fun _ => rfl, fun _ => rfl⟩
theorem vpsubsb (d : Reg) (a : Reg) (b : RegMem) : Statement (.vpsubsb d a b) :=
  ⟨rfl, rfl, rfl, nofun, fun _ => rfl⟩
theorem vpsubsw (d : Reg) (a : Reg) (b : RegMem) : Statement (.vpsubsw d a b) :=
  ⟨rfl, rfl, rfl, nofun, fun _ => rfl⟩
theorem vpminsw (d : Reg) (a : Reg) (b : RegMem) : Statement (.vpminsw d a b) :=
  ⟨rfl, rfl, rfl, nofun, fun _ => rfl⟩
theorem vpor (d : Reg) (a : Reg) (b : RegMem) : Statement (.vpor d a b) :=
  ⟨rfl, rfl, rfl, nofun, fun _ => rfl⟩
theorem vpaddsb (d : Reg) (a : Reg) (b : RegMem) : Statement (.vpaddsb d a b) :=
  ⟨rfl, rfl, rfl, nofun, fun _ => rfl⟩
theorem vpaddsw (d : Reg) (a : Reg) (b : RegMem) : Statement (.vpaddsw d a b) :=
  ⟨rfl, rfl, rfl, nofun, fun _ => rfl⟩
theorem vpmaxsw (d : Reg) (a : Reg) (b : RegMem) : Statement (.vpmaxsw d a b) :=
  ⟨rfl, rfl, rfl, nofun, fun _ => rfl⟩
theorem vpxor (d : Reg) (a : Reg) (b : RegMem) : Statement (.vpxor d a b) :=
  ⟨rfl, rfl, rfl, nofun, fun _ => rfl⟩
theorem vlddquX (d : Reg) (b : MemOp) : Statement (.vlddquX d b) :=
  ⟨rfl, rfl, rfl, fun _ => rfl, fun _ => rfl⟩
theorem vlddquY (d : Reg) (b : MemOp) : Statement (.vlddquY d b) :=
  ⟨rfl, rfl, rfl, fun _ => rfl, fun _ => rfl⟩
theorem vpsllw (d : Reg) (a : Reg) (b : RegMem) : Statement (.vpsllw d a b) :=
  ⟨rfl, rfl, rfl, nofun, fun _ => rfl⟩
theorem vpslld (d : Reg) (a : Reg) (b : RegMem) : Statement (.vpslld d a b) :=
  ⟨rfl, rfl, rfl, nofun, fun _ => rfl⟩
theorem vpsllq (d : Reg) (a : Reg) (b : RegMem) : Statement (.vpsllq d a b) :=
  ⟨rfl, rfl, rfl, nofun, fun _ => rfl⟩
theorem vpmuludq (d : Reg) (a : Reg) (b : RegMem) : Statement (.vpmuludq d a b) :=
  ⟨rfl, rfl, rfl, nofun, fun _ => rfl⟩
theorem vpmaddwd (d : Reg) (a : Reg) (b : RegMem) : Statement (.vpmaddwd d a b) :=
  ⟨rfl, rfl, rfl, nofun, fun _ => rfl⟩
theorem vpsadbw (d : Reg) (a : Reg) (b : RegMem) : Statement (.vpsadbw d a b) :=
  ⟨rfl, rfl, rfl, nofun, fun _ => rfl⟩
theorem vpsubb (d : Reg) (a : Reg) (b : RegMem) : Statement (.vpsubb d a b) :=
  ⟨rfl, rfl, rfl, nofun, fun _ => rfl⟩
theorem vpsubw (d : Reg) (a : Reg) (b : RegMem) : Statement (.vpsubw d a b) :=
  ⟨rfl, rfl, rfl, nofun, fun _ => rfl⟩
theorem vpsubd (d : Reg) (a : Reg) (b : RegMem) : Statement (.vpsubd d a b) :=
  ⟨rfl, rfl, rfl, nofun, fun _ => rfl⟩
theorem vpsubq (d : Reg) (a : Reg) (b : RegMem) : Statement (.vpsubq d a b) :=
  ⟨rfl, rfl, rfl, nofun, fun _ => rfl⟩
theorem vpaddb (d : Reg) (a : Reg) (b : RegMem) : Statement (.vpaddb d a b) :=
  ⟨rfl, rfl, rfl, nofun, fun _ => rfl⟩
theorem vpaddw (d : Reg) (a : Reg) (b : RegMem) : Statement (.vpaddw d a b) :=
  ⟨rfl, rfl, rfl, nofun, fun _ => rfl⟩
theorem vpaddd (d : Reg) (a : Reg) (b : RegMem) : Statement (.vpaddd d a b) :=
  ⟨rfl, rfl, rfl, nofun, fun _ => rfl⟩
theorem vpshufb (d : Reg) (a : Reg) (b : RegMem) : Statement (.vpshufb d a b) :=
  ⟨rfl, rfl, rfl, nofun, fun _ => rfl⟩
theorem vphaddw (d : Reg) (a : Reg) (b : RegMem) : Statement (.vphaddw d a b) :=
  ⟨rfl, rfl, rfl, nofun, fun _ => rfl⟩
theorem vphaddd (d : Reg) (a : Reg) (b : RegMem) : Statement (.vphaddd d a b) :=
  ⟨rfl, rfl, rfl, nofun, fun _ => rfl⟩
theorem vphaddsw (d : Reg) (a : Reg) (b : RegMem) : Statement (.vphaddsw d a b) :=
  ⟨rfl, rfl, rfl, nofun, fun _ => rfl⟩
theorem vpmaddubsw (d : Reg) (a : Reg) (b : RegMem) : Statement (.vpmaddubsw d a b) :=
  ⟨rfl, rfl, rfl, nofun, fun _ => rfl⟩
theorem vphsubw (d : Reg) (a : Reg) (b : RegMem) : Statement (.vphsubw d a b) :=
  ⟨rfl, rfl, rfl, nofun, fun _ => rfl⟩
theorem vphsubd (d : Reg) (a : Reg) (b : RegMem) : Statement (.vphsubd d a b) :=
  ⟨rfl, rfl, rfl, nofun, fun _ => rfl⟩
theorem vphsubsw (d : Reg) (a : Reg) (b : RegMem) : Statement (.vphsubsw d a b) :=
  ⟨rfl, rfl, rfl, nofun, fun _ => rfl⟩
theorem vpsignb (d : Reg) (a : Reg) (b : RegMem) : Statement (.vpsignb d a b) :=
  ⟨rfl, rfl, rfl, nofun, fun _ => rfl⟩
theorem vpsignw (d : Reg) (a : Reg) (b : RegMem) : Statement (.vpsignw d a b) :=
  ⟨rfl, rfl, rfl, nofun, fun _ => rfl⟩
theorem vpsignd (d : Reg) (a : Reg) (b : RegMem) : Statement (.vpsignd d a b) :=
  ⟨rfl, rfl, rfl, nofun, fun _ => rfl⟩
theorem vpmulhrsw (d : Reg) (a : Reg) (b : RegMem) : Statement (.vpmulhrsw d a b) :=
  ⟨rfl, rfl, rfl, nofun, fun _ => rfl⟩
theorem vpermilpsX (d : Reg) (a : Reg) (b : RegMem) : Statement (.vpermilpsX d a b) :=
  ⟨rfl, rfl, rfl, nofun, fun _ => rfl⟩
theorem vpermilpsY (d : Reg) (a : Reg) (b : RegMem) : Statement (.vpermilpsY d a b) :=
  ⟨rfl, rfl, rfl, nofun, fun _ => rfl⟩
theorem vpermilpdX (d : Reg) (a : Reg) (b : RegMem) : Statement (.vpermilpdX d a b) :=
  ⟨rfl, rfl, rfl, nofun, fun _ => rfl⟩
theorem vpermilpdY (d : Reg) (a : Reg) (b : RegMem) : Statement (.vpermilpdY d a b) :=
  ⟨rfl, rfl, rfl, nofun, fun _ => rfl⟩
theorem vtestpsX (a : Reg) (b : RegMem) : Statement (.vtestpsX a b) :=
  ⟨rfl, rfl, rfl, fun _ => rfl, fun _ => rfl⟩
theorem vtestpsY (a : Reg) (b : RegMem) : Statement (.vtestpsY a b) :=
  ⟨rfl, rfl, rfl, fun _ => rfl, fun _ => rfl⟩
theorem vtestpdX (a : Reg) (b : RegMem) : Statement (.vtestpdX a b) :=
  ⟨rfl, rfl, rfl, fun _ => rfl, fun _ => rfl⟩
theorem vtestpdY (a : Reg) (b : RegMem) : Statement (.vtestpdY a b) :=
  ⟨rfl, rfl, rfl, fun _ => rfl, fun _ => rfl⟩
theorem vptestX (a : Reg) (b : RegMem) : Statement (.vptestX a b) :=
  ⟨rfl, rfl, rfl, fun _ => rfl, fun _ => rfl⟩
theorem vptestY (a : Reg) (b : RegMem) : Statement (.vptestY a b) :=
  ⟨rfl, rfl, rfl, fun _ => rfl, fun _ => rfl⟩
theorem vbroadcastssX (d : Reg) (b : MemOp) : Statement (.vbroadcastssX d b) :=
  ⟨rfl, rfl, rfl, fun _ => rfl, fun _ => rfl⟩
theorem vbroadcastssY (d : Reg) (b : MemOp) : Statement (.vbroadcastssY d b) :=
  ⟨rfl, rfl, rfl, fun _ => rfl, fun _ => rfl⟩
theorem vbroadcastsd (d : Reg) (b : MemOp) : Statement (.vbroadcastsd d b) :=
  ⟨rfl, rfl, rfl, fun _ => rfl, fun _ => rfl⟩
theorem vbroadcastf128 (d : Reg) (b : MemOp) : Statement (.vbroadcastf128 d b) :=
  ⟨rfl, rfl, rfl, fun _ => rfl, fun _ => rfl⟩
theorem vpmuldq (d : Reg) (a : Reg) (b : RegMem) : Statement (.vpmuldq d a b) :=
  ⟨rfl, rfl, rfl, nofun, fun _ => rfl⟩
theorem vpcmpeqq (d : Reg) (a : Reg) (b : RegMem) : Statement (.vpcmpeqq d a b) :=
  ⟨rfl, rfl, rfl, nofun, fun _ => rfl⟩
theorem vpackusdw (d : Reg) (a : Reg) (b : RegMem) : Statement (.vpackusdw d a b) :=
  ⟨rfl, rfl, rfl, nofun, fun _ => rfl⟩
theorem vmaskmovpsXLoad (d : Reg) (a : Reg) (b : MemOp) : Statement (.vmaskmovpsXLoad d a b) :=
  ⟨rfl, rfl, rfl, nofun, fun _ => rfl⟩
theorem vmaskmovpsYLoad (d : Reg) (a : Reg) (b : MemOp) : Statement (.vmaskmovpsYLoad d a b) :=
  ⟨rfl, rfl, rfl, nofun, fun _ => rfl⟩
theorem vmaskmovpdXLoad (d : Reg) (a : Reg) (b : MemOp) : Statement (.vmaskmovpdXLoad d a b) :=
  ⟨rfl, rfl, rfl, nofun, fun _ => rfl⟩
theorem vmaskmovpdYLoad (d : Reg) (a : Reg) (b : MemOp) : Statement (.vmaskmovpdYLoad d a b) :=
  ⟨rfl, rfl, rfl, nofun, fun _ => rfl⟩
theorem vmaskmovpsXStore (d : MemOp) (a : Reg) (b : Reg) : Statement (.vmaskmovpsXStore d a b) :=
  ⟨rfl, rfl, rfl, nofun, fun _ => rfl⟩
theorem vmaskmovpsYStore (d : MemOp) (a : Reg) (b : Reg) : Statement (.vmaskmovpsYStore d a b) :=
  ⟨rfl, rfl, rfl, nofun, fun _ => rfl⟩
theorem vmaskmovpdXStore (d : MemOp) (a : Reg) (b : Reg) : Statement (.vmaskmovpdXStore d a b) :=
  ⟨rfl, rfl, rfl, nofun, fun _ => rfl⟩
theorem vmaskmovpdYStore (d : MemOp) (a : Reg) (b : Reg) : Statement (.vmaskmovpdYStore d a b) :=
  ⟨rfl, rfl, rfl, nofun, fun _ => rfl⟩
theorem vpcmpgtq (d : Reg) (a : Reg) (b : RegMem) : Statement (.vpcmpgtq d a b) :=
  ⟨rfl, rfl, rfl, nofun, fun _ => rfl⟩
theorem vpminsb (d : Reg) (a : Reg) (b : RegMem) : Statement (.vpminsb d a b) :=
  ⟨rfl, rfl, rfl, nofun, fun _ => rfl⟩
theorem vpminsd (d : Reg) (a : Reg) (b : RegMem) : Statement (.vpminsd d a b) :=
  ⟨rfl, rfl, rfl, nofun, fun _ => rfl⟩
theorem vpminuw (d : Reg) (a : Reg) (b : RegMem) : Statement (.vpminuw d a b) :=
  ⟨rfl, rfl, rfl, nofun, fun _ => rfl⟩
theorem vpminud (d : Reg) (a : Reg) (b : RegMem) : Statement (.vpminud d a b) :=
  ⟨rfl, rfl, rfl, nofun, fun _ => rfl⟩
theorem vpmaxsb (d : Reg) (a : Reg) (b : RegMem) : Statement (.vpmaxsb d a b) :=
  ⟨rfl, rfl, rfl, nofun, fun _ => rfl⟩
theorem vpmaxsd (d : Reg) (a : Reg) (b : RegMem) : Statement (.vpmaxsd d a b) :=
  ⟨rfl, rfl, rfl, nofun, fun _ => rfl⟩
theorem vpmaxuw (d : Reg) (a : Reg) (b : RegMem) : Statement (.vpmaxuw d a b) :=
  ⟨rfl, rfl, rfl, nofun, fun _ => rfl⟩
theorem vpmaxud (d : Reg) (a : Reg) (b : RegMem) : Statement (.vpmaxud d a b) :=
  ⟨rfl, rfl, rfl, nofun, fun _ => rfl⟩
theorem vpmulld (d : Reg) (a : Reg) (b : RegMem) : Statement (.vpmulld d a b) :=
  ⟨rfl, rfl, rfl, nofun, fun _ => rfl⟩
theorem aesimc (d : Reg) (b : RegMem) : Statement (.aesimc d b) :=
  ⟨rfl, rfl, rfl, fun _ => rfl, fun _ => rfl⟩
theorem vaesimc (d : Reg) (b : RegMem) : Statement (.vaesimc d b) :=
  ⟨rfl, rfl, rfl, fun _ => rfl, fun _ => rfl⟩
theorem aesenc (d : Reg) (b : RegMem) : Statement (.aesenc d b) :=
  ⟨rfl, rfl, rfl, fun _ => rfl, fun _ => rfl⟩
theorem vaesenc (d : Reg) (a : Reg) (b : RegMem) : Statement (.vaesenc d a b) :=
  ⟨rfl, rfl, rfl, nofun, fun _ => rfl⟩
theorem aesenclast (d : Reg) (b : RegMem) : Statement (.aesenclast d b) :=
  ⟨rfl, rfl, rfl, fun _ => rfl, fun _ => rfl⟩
theorem vaesenclast (d : Reg) (a : Reg) (b : RegMem) : Statement (.vaesenclast d a b) :=
  ⟨rfl, rfl, rfl, nofun, fun _ => rfl⟩
theorem aesdec (d : Reg) (b : RegMem) : Statement (.aesdec d b) :=
  ⟨rfl, rfl, rfl, fun _ => rfl, fun _ => rfl⟩
theorem vaesdec (d : Reg) (a : Reg) (b : RegMem) : Statement (.vaesdec d a b) :=
  ⟨rfl, rfl, rfl, nofun, fun _ => rfl⟩
theorem aesdeclast (d : Reg) (b : RegMem) : Statement (.aesdeclast d b) :=
  ⟨rfl, rfl, rfl, fun _ => rfl, fun _ => rfl⟩
theorem vaesdeclast (d : Reg) (a : Reg) (b : RegMem) : Statement (.vaesdeclast d a b) :=
  ⟨rfl, rfl, rfl, nofun, fun _ => rfl⟩
theorem vpermilpsXImm (d : Reg) (b : RegMem) (imm : BitVec 8) : Statement (.vpermilpsXImm d b imm) :=
  ⟨rfl, rfl, rfl, fun _ => rfl, nofun⟩
theorem vpermilpsYImm (d : Reg) (b : RegMem) (imm : BitVec 8) : Statement (.vpermilpsYImm d b imm) :=
  ⟨rfl, rfl, rfl, fun _ => rfl, nofun⟩
theorem vpermilpdXImm (d : Reg) (b : RegMem) (imm : BitVec 8) : Statement (.vpermilpdXImm d b imm) :=
  ⟨rfl, rfl, rfl, fun _ => rfl, nofun⟩
theorem vpermilpdYImm (d : Reg) (b : RegMem) (imm : BitVec 8) : Statement (.vpermilpdYImm d b imm) :=
  ⟨rfl, rfl, rfl, fun _ => rfl, nofun⟩
theorem vperm2f128 (d : Reg) (a : Reg) (b : RegMem) (imm : BitVec 8) : Statement (.vperm2f128 d a b imm) :=
  ⟨rfl, rfl, rfl, nofun, nofun⟩
theorem vroundpsX (d : Reg) (b : RegMem) (imm : BitVec 8) : Statement (.vroundpsX d b imm) :=
  ⟨rfl, rfl, rfl, fun _ => rfl, nofun⟩
theorem vroundpsY (d : Reg) (b : RegMem) (imm : BitVec 8) : Statement (.vroundpsY d b imm) :=
  ⟨rfl, rfl, rfl, fun _ => rfl, nofun⟩
theorem vroundpdX (d : Reg) (b : RegMem) (imm : BitVec 8) : Statement (.vroundpdX d b imm) :=
  ⟨rfl, rfl, rfl, fun _ => rfl, nofun⟩
theorem vroundpdY (d : Reg) (b : RegMem) (imm : BitVec 8) : Statement (.vroundpdY d b imm) :=
  ⟨rfl, rfl, rfl, fun _ => rfl, nofun⟩
theorem vroundss (d : Reg) (a : Reg) (b : RegMem) (imm : BitVec 8) : Statement (.vroundss d a b imm) :=
  ⟨rfl, rfl, rfl, nofun, nofun⟩
theorem vroundsd (d : Reg) (a : Reg) (b : RegMem) (imm : BitVec 8) : Statement (.vroundsd d a b imm) :=
  ⟨rfl, rfl, rfl, nofun, nofun⟩
theorem vblendpsX (d : Reg) (a : Reg) (b : RegMem) (imm : BitVec 8) : Statement (.vblendpsX d a b imm) :=
  ⟨rfl, rfl, rfl, nofun, nofun⟩
theorem vblendpsY (d : Reg) (a : Reg) (b : RegMem) (imm : BitVec 8) : Statement (.vblendpsY d a b imm) :=
  ⟨rfl, rfl, rfl, nofun, nofun⟩
theorem vblendpdX (d : Reg) (a : Reg) (b : RegMem) (imm : BitVec 8) : Statement (.vblendpdX d a b imm) :=
  ⟨rfl, rfl, rfl, nofun, nofun⟩
theorem vblendpdY (d : Reg) (a : Reg) (b : RegMem) (imm : BitVec 8) : Statement (.vblendpdY d a b imm) :=
  ⟨rfl, rfl, rfl, nofun, nofun⟩
theorem vpblendw (d : Reg) (a : Reg) (b : RegMem) (imm : BitVec 8) : Statement (.vpblendw d a b imm) :=
  ⟨rfl, rfl, rfl, nofun, nofun⟩
theorem vpalignr (d : Reg) (a : Reg) (b : RegMem) (imm : BitVec 8) : Statement (.vpalignr d a b imm) :=
  ⟨rfl, rfl, rfl, nofun, nofun⟩
theorem vinsertf128 (d : Reg) (a : Reg) (b : RegMem) (imm : BitVec 8) : Statement (.vinsertf128 d a b imm) :=
  ⟨rfl, rfl, rfl, nofun, nofun⟩
theorem vextractf128 (d : RegMem) (a : Reg) (imm : BitVec 8) : Statement (.vextractf128 d a imm) :=
  ⟨rfl, rfl, rfl, fun _ => rfl, nofun⟩
theorem vpinsrb (d : Reg) (a : Reg) (b : RegMem) (imm : BitVec 8) : Statement (.vpinsrb d a b imm) :=
  ⟨rfl, rfl, rfl, nofun, nofun⟩
theorem vinsertps (d : Reg) (a : Reg) (b : RegMem) (imm : BitVec 8) : Statement (.vinsertps d a b imm) :=
  ⟨rfl, rfl, rfl, nofun, nofun⟩
theorem vpinsrd (d : Reg) (a : Reg) (b : RegMem) (imm : BitVec 8) : Statement (.vpinsrd d a b imm) :=
  ⟨rfl, rfl, rfl, nofun, nofun⟩
theorem vpinsrq (d : Reg) (a : Reg) (b : RegMem) (imm : BitVec 8) : Statement (.vpinsrq d a b imm) :=
  ⟨rfl, rfl, rfl, nofun, nofun⟩
theorem vdppsX (d : Reg) (a : Reg) (b : RegMem) (imm : BitVec 8) : Statement (.vdppsX d a b imm) :=
  ⟨rfl, rfl, rfl, nofun, nofun⟩
theorem vdppsY (d : Reg) (a : Reg) (b : RegMem) (imm : BitVec 8) : Statement (.vdppsY d a b imm) :=
  ⟨rfl, rfl, rfl, nofun, nofun⟩
theorem vdppd (d : Reg) (a : Reg) (b : RegMem) (imm : BitVec 8) : Statement (.vdppd d a b imm) :=
  ⟨rfl, rfl, rfl, nofun, nofun⟩
theorem vmpsadbw (d : Reg) (a : Reg) (b : RegMem) (imm : BitVec 8) : Statement (.vmpsadbw d a b imm) :=
  ⟨rfl, rfl, rfl, nofun, nofun⟩
theorem pclmulqdq (d : Reg) (b : RegMem) (imm : BitVec 8) : Statement (.pclmulqdq d b imm) :=
  ⟨rfl, rfl, rfl, fun _ => rfl, nofun⟩
theorem vpclmulqdq (d : Reg) (a : Reg) (b : RegMem) (imm : BitVec 8) : Statement (.vpclmulqdq d a b imm) :=
  ⟨rfl, rfl, rfl, nofun, nofun⟩
theorem vpermil2psX (d : Reg) (a : Reg) (b : RegMem) (c : Reg) (imm : BitVec 2) :
    Statement (.vpermil2psX d a b c imm) := by
  refine ⟨?_, rfl, rfl, nofun, nofun⟩
  show Instr.vpermil2psX d a b c ((imm.setWidth 8).setWidth 2) = _
  rw [imm2_roundtrip]
theorem vpermil2psXW1 (d : Reg) (a : Reg) (c : Reg) (b : RegMem) (imm : BitVec 2) :
    Statement (.vpermil2psXW1 d a c b imm) := by
  refine ⟨?_, rfl, rfl, nofun, nofun⟩
  show Instr.vpermil2psXW1 d a c b ((imm.setWidth 8).setWidth 2) = _
  rw [imm2_roundtrip]
theorem vpermil2psY (d : Reg) (a : Reg) (b : RegMem) (c : Reg) (imm : BitVec 2) :
    Statement (.vpermil2psY d a b c imm) := by
  refine ⟨?_, rfl, rfl, nofun, nofun⟩
  show Instr.vpermil2psY d a b c ((imm.setWidth 8).setWidth 2) = _
  rw [imm2_roundtrip]
theorem vpermil2psYW1 (d : Reg) (a : Reg) (c : Reg) (b : RegMem) (imm : BitVec 2) :
    Statement (.vpermil2psYW1 d a c b imm) := by
  refine ⟨?_, rfl, rfl, nofun, nofun⟩
  show Instr.vpermil2psYW1 d a c b ((imm.setWidth 8).setWidth 2) = _
  rw [imm2_roundtrip]
theorem vpermil2pdX (d : Reg) (a : Reg) (b : RegMem) (c : Reg) (imm : BitVec 2) :
    Statement (.vpermil2pdX d a b c imm) := by
  refine ⟨?_, rfl, rfl, nofun, nofun⟩
  show Instr.vpermil2pdX d a b c ((imm.setWidth 8).setWidth 2) = _
  rw [imm2_roundtrip]
theorem vpermil2pdXW1 (d : Reg) (a : Reg) (c : Reg) (b : RegMem) (imm : BitVec 2) :
    Statement (.vpermil2pdXW1 d a c b imm) := by
  refine ⟨?_, rfl, rfl, nofun, nofun⟩
  show Instr.vpermil2pdXW1 d a c b ((imm.setWidth 8).setWidth 2) = _
  rw [imm2_roundtrip]
theorem vpermil2pdY (d : Reg) (a : Reg) (b : RegMem) (c : Reg) (imm : BitVec 2) :
    Statement (.vpermil2pdY d a b c imm) := by
  refine ⟨?_, rfl, rfl, nofun, nofun⟩
  show Instr.vpermil2pdY d a b c ((imm.setWidth 8).setWidth 2) = _
  rw [imm2_roundtrip]
theorem vpermil2pdYW1 (d : Reg) (a : Reg) (c : Reg) (b : RegMem) (imm : BitVec 2) :
    Statement (.vpermil2pdYW1 d a c b imm) := by
  refine ⟨?_, rfl, rfl, nofun, nofun⟩
  show Instr.vpermil2pdYW1 d a c b ((imm.setWidth 8).setWidth 2) = _
  rw [imm2_roundtrip]
theorem vblendvpsX (d : Reg) (a : Reg) (b : RegMem) (c : Reg) : Statement (.vblendvpsX d a b c) :=
  ⟨rfl, rfl, rfl, nofun, nofun⟩
theorem vblendvpsY (d : Reg) (a : Reg) (b : RegMem) (c : Reg) : Statement (.vblendvpsY d a b c) :=
  ⟨rfl, rfl, rfl, nofun, nofun⟩
theorem vblendvpdX (d : Reg) (a : Reg) (b : RegMem) (c : Reg) : Statement (.vblendvpdX d a b c) :=
  ⟨rfl, rfl, rfl, nofun, nofun⟩
theorem vblendvpdY (d : Reg) (a : Reg) (b : RegMem) (c : Reg) : Statement (.vblendvpdY d a b c) :=
  ⟨rfl, rfl, rfl, nofun, nofun⟩
theorem vpblendvb (d : Reg) (a : Reg) (b : RegMem) (c : Reg) : Statement (.vpblendvb d a b c) :=
  ⟨rfl, rfl, rfl, nofun, nofun⟩
theorem vfmaddsubpsX (d : Reg) (a : Reg) (b : RegMem) (c : Reg) : Statement (.vfmaddsubpsX d a b c) :=
  ⟨rfl, rfl, rfl, nofun, nofun⟩
theorem vfmaddsubpsXW1 (d : Reg) (a : Reg) (c : Reg) (b : RegMem) : Statement (.vfmaddsubpsXW1 d a c b) :=
  ⟨rfl, rfl, rfl, nofun, nofun⟩
theorem vfmaddsubpsY (d : Reg) (a : Reg) (b : RegMem) (c : Reg) : Statement (.vfmaddsubpsY d a b c) :=
  ⟨rfl, rfl, rfl, nofun, nofun⟩
theorem vfmaddsubpsYW1 (d : Reg) (a : Reg) (c : Reg) (b : RegMem) : Statement (.vfmaddsubpsYW1 d a c b) :=
  ⟨rfl, rfl, rfl, nofun, nofun⟩
theorem vfmaddsubpdX (d : Reg) (a : Reg) (b : RegMem) (c : Reg) : Statement (.vfmaddsubpdX d a b c) :=
  ⟨rfl, rfl, rfl, nofun, nofun⟩
theorem vfmaddsubpdXW1 (d : Reg) (a : Reg) (c : Reg) (b : RegMem) : Statement (.vfmaddsubpdXW1 d a c b) :=
  ⟨rfl, rfl, rfl, nofun, nofun⟩
theorem vfmaddsubpdY (d : Reg) (a : Reg) (b : RegMem) (c : Reg) : Statement (.vfmaddsubpdY d a b c) :=
  ⟨rfl, rfl, rfl, nofun, nofun⟩
theorem vfmaddsubpdYW1 (d : Reg) (a : Reg) (c : Reg) (b : RegMem) : Statement (.vfmaddsubpdYW1 d a c b) :=
  ⟨rfl, rfl, rfl, nofun, nofun⟩
theorem vfmsubaddpsX (d : Reg) (a : Reg) (b : RegMem) (c : Reg) : Statement (.vfmsubaddpsX d a b c) :=
  ⟨rfl, rfl, rfl, nofun, nofun⟩
theorem vfmsubaddpsXW1 (d : Reg) (a : Reg) (c : Reg) (b : RegMem) : Statement (.vfmsubaddpsXW1 d a c b) :=
  ⟨rfl, rfl, rfl, nofun, nofun⟩
theorem vfmsubaddpsY (d : Reg) (a : Reg) (b : RegMem) (c : Reg) : Statement (.vfmsubaddpsY d a b c) :=
  ⟨rfl, rfl, rfl, nofun, nofun⟩
theorem vfmsubaddpsYW1 (d : Reg) (a : Reg) (c : Reg) (b : RegMem) : Statement (.vfmsubaddpsYW1 d a c b) :=
  ⟨rfl, rfl, rfl, nofun, nofun⟩
theorem vfmsubaddpdX (d : Reg) (a : Reg) (b : RegMem) (c : Reg) : Statement (.vfmsubaddpdX d a b c) :=
  ⟨rfl, rfl, rfl, nofun, nofun⟩
theorem vfmsubaddpdXW1 (d : Reg) (a : Reg) (c : Reg) (b : RegMem) : Statement (.vfmsubaddpdXW1 d a c b) :=
  ⟨rfl, rfl, rfl, nofun, nofun⟩
theorem vfmsubaddpdY (d : Reg) (a : Reg) (b : RegMem) (c : Reg) : Statement (.vfmsubaddpdY d a b c) :=
  ⟨rfl, rfl, rfl, nofun, nofun⟩
theorem vfmsubaddpdYW1 (d : Reg) (a : Reg) (c : Reg) (b : RegMem) : Statement (.vfmsubaddpdYW1 d a c b) :=
  ⟨rfl, rfl, rfl, nofun, nofun⟩
theorem vfmaddpsX (d : Reg) (a : Reg) (b : RegMem) (c : Reg) : Statement (.vfmaddpsX d a b c) :=
  ⟨rfl, rfl, rfl, nofun, nofun⟩
theorem vfmaddpsXW1 (d : Reg) (a : Reg) (c : Reg) (b : RegMem) : Statement (.vfmaddpsXW1 d a c b) :=
  ⟨rfl, rfl, rfl, nofun, nofun⟩
theorem vfmaddpsY (d : Reg) (a : Reg) (b : RegMem) (c : Reg) : Statement (.vfmaddpsY d a b c) :=
  ⟨rfl, rfl, rfl, nofun, nofun⟩
theorem vfmaddpsYW1 (d : Reg) (a : Reg) (c : Reg) (b : RegMem) : Statement (.vfmaddpsYW1 d a c b) :=
  ⟨rfl, rfl, rfl, nofun, nofun⟩
theorem vfmaddpdX (d : Reg) (a : Reg) (b : RegMem) (c : Reg) : Statement (.vfmaddpdX d a b c) :=
  ⟨rfl, rfl, rfl, nofun, nofun⟩
theorem vfmaddpdXW1 (d : Reg) (a : Reg) (c : Reg) (b : RegMem) : Statement (.vfmaddpdXW1 d a c b) :=
  ⟨rfl, rfl, rfl, nofun, nofun⟩
theorem vfmaddpdY (d : Reg) (a : Reg) (b : RegMem) (c : Reg) : Statement (.vfmaddpdY d a b c) :=
  ⟨rfl, rfl, rfl, nofun, nofun⟩
theorem vfmaddpdYW1 (d : Reg) (a : Reg) (c : Reg) (b : RegMem) : Statement (.vfmaddpdYW1 d a c b) :=
  ⟨rfl, rfl, rfl, nofun, nofun⟩
theorem vfmaddss (d : Reg) (a : Reg) (b : RegMem) (c : Reg) : Statement (.vfmaddss d a b c) :=
  ⟨rfl, rfl, rfl, nofun, nofun⟩
theorem vfmaddssW1 (d : Reg) (a : Reg) (c : Reg) (b : RegMem) : Statement (.vfmaddssW1 d a c b) :=
  ⟨rfl, rfl, rfl, nofun, nofun⟩
theorem vfmaddsd (d : Reg) (a : Reg) (b : RegMem) (c : Reg) : Statement (.vfmaddsd d a b c) :=
  ⟨rfl, rfl, rfl, nofun, nofun⟩
theorem vfmaddsdW1 (d : Reg) (a : Reg) (c : Reg) (b : RegMem) : Statement (.vfmaddsdW1 d a c b) :=
  ⟨rfl, rfl, rfl, nofun, nofun⟩
theorem vfmsubpsX (d : Reg) (a : Reg) (b : RegMem) (c : Reg) : Statement (.vfmsubpsX d a b c) :=
  ⟨rfl, rfl, rfl, nofun, nofun⟩
theorem vfmsubpsXW1 (d : Reg) (a : Reg) (c : Reg) (b : RegMem) : Statement (.vfmsubpsXW1 d a c b) :=
  ⟨rfl, rfl, rfl, nofun, nofun⟩
theorem vfmsubpsY (d : Reg) (a : Reg) (b : RegMem) (c : Reg) : Statement (.vfmsubpsY d a b c) :=
  ⟨rfl, rfl, rfl, nofun, nofun⟩
theorem vfmsubpsYW1 (d : Reg) (a : Reg) (c : Reg) (b : RegMem) : Statement (.vfmsubpsYW1 d a c b) :=
  ⟨rfl, rfl, rfl, nofun, nofun⟩
theorem vfmsubpdX (d : Reg) (a : Reg) (b : RegMem) (c : Reg) : Statement (.vfmsubpdX d a b c) :=
  ⟨rfl, rfl, rfl, nofun, nofun⟩
theorem vfmsubpdXW1 (d : Reg) (a : Reg) (c : Reg) (b : RegMem) : Statement (.vfmsubpdXW1 d a c b) :=
  ⟨rfl, rfl, rfl, nofun, nofun⟩
theorem vfmsubpdY (d : Reg) (a : Reg) (b : RegMem) (c : Reg) : Statement (.vfmsubpdY d a b c) :=
  ⟨rfl, rfl, rfl, nofun, nofun⟩
theorem vfmsubpdYW1 (d : Reg) (a : Reg) (c : Reg) (b : RegMem) : Statement (.vfmsubpdYW1 d a c b) :=
  ⟨rfl, rfl, rfl, nofun, nofun⟩
theorem vfmsubss (d : Reg) (a : Reg) (b : RegMem) (c : Reg) : Statement (.vfmsubss d a b c) :=
  ⟨rfl, rfl, rfl, nofun, nofun⟩
theorem vfmsubssW1 (d : Reg) (a : Reg) (c : Reg) (b : RegMem) : Statement (.vfmsubssW1 d a c b) :=
  ⟨rfl, rfl, rfl, nofun, nofun⟩
theorem vfmsubsd (d : Reg) (a : Reg) (b : RegMem) (c : Reg) : Statement (.vfmsubsd d a b c) :=
  ⟨rfl, rfl, rfl, nofun, nofun⟩
theorem vfmsubsdW1 (d : Reg) (a : Reg) (c : Reg) (b : RegMem) : Statement (.vfmsubsdW1 d a c b) :=
  ⟨rfl, rfl, rfl, nofun, nofun⟩
theorem vfnmaddpsX (d : Reg) (a : Reg) (b : RegMem) (c : Reg) : Statement (.vfnmaddpsX d a b c) :=
  ⟨rfl, rfl, rfl, nofun, nofun⟩
theorem vfnmaddpsXW1 (d : Reg) (a : Reg) (c : Reg) (b : RegMem) : Statement (.vfnmaddpsXW1 d a c b) :=
  ⟨rfl, rfl, rfl, nofun, nofun⟩
theorem vfnmaddpsY (d : Reg) (a : Reg) (b : RegMem) (c : Reg) : Statement (.vfnmaddpsY d a b c) :=
  ⟨rfl, rfl, rfl, nofun, nofun⟩
theorem vfnmaddpsYW1 (d : Reg) (a : Reg) (c : Reg) (b : RegMem) : Statement (.vfnmaddpsYW1 d a c b) :=
  ⟨rfl, rfl, rfl, nofun, nofun⟩
theorem vfnmaddpdX (d : Reg) (a : Reg) (b : RegMem) (c : Reg) : Statement (.vfnmaddpdX d a b c) :=
  ⟨rfl, rfl, rfl, nofun, nofun⟩
theorem vfnmaddpdXW1 (d : Reg) (a : Reg) (c : Reg) (b : RegMem) : Statement (.vfnmaddpdXW1 d a c b) :=
  ⟨rfl, rfl, rfl, nofun, nofun⟩
theorem vfnmaddpdY (d : Reg) (a : Reg) (b : RegMem) (c : Reg) : Statement (.vfnmaddpdY d a b c) :=
  ⟨rfl, rfl, rfl, nofun, nofun⟩
theorem vfnmaddpdYW1 (d : Reg) (a : Reg) (c : Reg) (b : RegMem) : Statement (.vfnmaddpdYW1 d a c b) :=
  ⟨rfl, rfl, rfl, nofun, nofun⟩
theorem vfnmaddss (d : Reg) (a : Reg) (b : RegMem) (c : Reg) : Statement (.vfnmaddss d a b c) :=
  ⟨rfl, rfl, rfl, nofun, nofun⟩
theorem vfnmaddssW1 (d : Reg) (a : Reg) (c : Reg) (b : RegMem) : Statement (.vfnmaddssW1 d a c b) :=
  ⟨rfl, rfl, rfl, nofun, nofun⟩
theorem vfnmaddsd (d : Reg) (a : Reg) (b : RegMem) (c : Reg) : Statement (.vfnmaddsd d a b c) :=
  ⟨rfl, rfl, rfl, nofun, nofun⟩
theorem vfnmaddsdW1 (d : Reg) (a : Reg) (c : Reg) (b : RegMem) : Statement (.vfnmaddsdW1 d a c b) :=
  ⟨rfl, rfl, rfl, nofun, nofun⟩
theorem vfnmsubpsX (d : Reg) (a : Reg) (b : RegMem) (c : Reg) : Statement (.vfnmsubpsX d a b c) :=
  ⟨rfl, rfl, rfl, nofun, nofun⟩
theorem vfnmsubpsXW1 (d : Reg) (a : Reg) (c : Reg) (b : RegMem) : Statement (.vfnmsubpsXW1 d a c b) :=
  ⟨rfl, rfl, rfl, nofun, nofun⟩
theorem vfnmsubpsY (d : Reg) (a : Reg) (b : RegMem) (c : Reg) : Statement (.vfnmsubpsY d a b c) :=
  ⟨rfl, rfl, rfl, nofun, nofun⟩
theorem vfnmsubpsYW1 (d : Reg) (a : Reg) (c : Reg) (b : RegMem) : Statement (.vfnmsubpsYW1 d a c b) :=
  ⟨rfl, rfl, rfl, nofun, nofun⟩
theorem vfnmsubpdX (d : Reg) (a : Reg) (b : RegMem) (c : Reg) : Statement (.vfnmsubpdX d a b c) :=
  ⟨rfl, rfl, rfl, nofun, nofun⟩
theorem vfnmsubpdXW1 (d : Reg) (a : Reg) (c : Reg) (b : RegMem) : Statement (.vfnmsubpdXW1 d a c b) :=
  ⟨rfl, rfl, rfl, nofun, nofun⟩
theorem vfnmsubpdY (d : Reg) (a : Reg) (b : RegMem) (c : Reg) : Statement (.vfnmsubpdY d a b c) :=
  ⟨rfl, rfl, rfl, nofun, nofun⟩
theorem vfnmsubpdYW1 (d : Reg) (a : Reg) (c : Reg) (b : RegMem) : Statement (.vfnmsubpdYW1 d a c b) :=
  ⟨rfl, rfl, rfl, nofun, nofun⟩
theorem vfnmsubss (d : Reg) (a : Reg) (b : RegMem) (c : Reg) : Statement (.vfnmsubss d a b c) :=
  ⟨rfl, rfl, rfl, nofun, nofun⟩
theorem vfnmsubssW1 (d : Reg) (a : Reg) (c : Reg) (b : RegMem) : Statement (.vfnmsubssW1 d a c b) :=
  ⟨rfl, rfl, rfl, nofun, nofun⟩
theorem vfnmsubsd (d : Reg) (a : Reg) (b : RegMem) (c : Reg) : Statement (.vfnmsubsd d a b c) :=
  ⟨rfl, rfl, rfl, nofun, nofun⟩
theorem vfnmsubsdW1 (d : Reg) (a : Reg) (c : Reg) (b : RegMem) : Statement (.vfnmsubsdW1 d a c b) :=
  ⟨rfl, rfl, rfl, nofun, nofun⟩
theorem aeskeygenassist (d : Reg) (b : RegMem) (imm : BitVec 8) : Statement (.aeskeygenassist d b imm) :=
  ⟨rfl, rfl, rfl, fun _ => rfl, nofun⟩
theorem vaeskeygenassist (d : Reg) (b : RegMem) (imm : BitVec 8) : Statement (.vaeskeygenassist d b imm) :=
  ⟨rfl, rfl, rfl, fun _ => rfl, nofun⟩

end Sys2Proof.Laws.TableRow
end

