-- ==== Sys2Proof/Tests/Slice0.lean ====
section
/-! SUPPORT. Tests: ill-formed terms are refused, words written out from the spec's encodings decode, worked examples of the
spec come out as it states them, and every obligation with hypotheses has a concrete state and operands that meet them. -/

-- Each kernel evaluation waits for the ones before it; one after the other they hold fewer threads.
set_option Elab.async false

open Sys2Proof Sys2Proof.Machine

namespace Sys2Proof.Tests

/-! ### States -/

/-- The reset state in Mode32. -/
def s32 : State := { State.reset with par := { Params.reset with mode := .mode32 } }

/-- The reset state with `Permil2Sem` off. -/
def noPermil2 : State := { State.reset with par := { Params.reset with permil2Sem := false } }

/-- The reset state with every floating-point exception unmasked. -/
def unmasked : State := { State.reset with mxcsr := 0 }

/-- The reset state with bytes placed as the program. -/
def program (bs : List Byte) : State := loadProgram State.reset bs

/-- The reset state with 16 readable bytes at 0 and nothing else mapped. -/
def readOnly : State := { State.reset with par := { Params.reset with memMap := [{ base := 0, size := 16, writable := false }] } }

/-- The reset state with registers 2 and 3 given. -/
def two (x y : BitVec 256) : State := setYmm (setYmm State.reset 2 x) 3 y

/-- `[rax]`, which is address 0 in the reset state. -/
def atRax : MemOp := .base 0 .none

/-- What register 1 holds after an instruction. -/
def xmm1 : Out → BitVec 256
  | .next t => readYmm t 1
  | .fault _ => 0
  | .refused _ => 0

/-- MXCSR after an instruction. -/
def mxcsrAfter : Out → BitVec 32
  | .next t => t.mxcsr
  | .fault _ => 0
  | .refused _ => 0

/-- Four 32-bit elements, element 0 first. -/
def ps (a b c d : BitVec 32) : BitVec 256 := (d ++ c ++ b ++ a).setWidth 256

/-- Two 64-bit elements, element 0 first. -/
def pd (a b : BitVec 64) : BitVec 256 := (b ++ a).setWidth 256

/-! ### Well-formedness -/

theorem test_wf_reg : (Instr.vaddpsX 8 1 (.reg 1)).wf .mode32 = false ∧ (Instr.vaddpsX 8 1 (.reg 1)).wf .mode64 = true := by decide
theorem test_wf_v : (Instr.vaddpsX 1 8 (.reg 1)).wf .mode32 = false ∧ (Instr.vaddpsX 1 15 (.reg 1)).wf .mode64 = true := by decide
theorem test_wf_rm : (Instr.vaddpsX 1 1 (.reg 8)).wf .mode32 = false ∧ (Instr.vaddpsX 1 1 (.reg 7)).wf .mode32 = true := by decide
theorem test_wf_is4 : (Instr.vblendvpsX 1 1 (.reg 1) 8).wf .mode32 = false ∧
    (Instr.vblendvpsX 1 1 (.reg 1) 8).wf .mode64 = true := by decide
theorem test_wf_wide : (Instr.vpinsrq 1 1 (.reg 1) 0).wf .mode32 = false ∧ (Instr.vpinsrq 1 1 (.reg 1) 0).wf .mode64 = true := by decide
theorem test_wf_rip : (Instr.vlddquX 1 (.rip 0)).wf .mode32 = false ∧ (Instr.vlddquX 1 (.rip 0)).wf .mode64 = true := by decide
theorem test_wf_direct : (Instr.vlddquX 1 (.direct 0)).wf .mode64 = false ∧ (Instr.vlddquX 1 (.direct 0)).wf .mode32 = false := by
  decide
theorem test_term_ok : (Instr.vlddquX 1 (.direct 0)).termOk = true ∧ (Instr.vlddquX 1 (.rip 0)).termOk = false := by decide
theorem test_direct_named : memOpNamed .mode32 (.direct 0x100000000) = false ∧ memOpNamed .mode32 (.direct 0xFFFFFFFF) = true ∧
    memOpNamed .mode64 (.direct 0x100000000) = true := by decide
/-- Register 4 is no index (20_memory.md R83); register 12 is one. -/
theorem test_index_named : memOpNamed .mode64 (.sib 1 0 (some 4) .none) = false ∧
    memOpNamed .mode32 (.sibNoBase 0 (some 4) 0) = false ∧ memOpNamed .mode64 (.sib 1 0 (some 12) .none) = true := by decide
theorem test_wf_abs : (Instr.vlddquX 1 (.abs 0)).wf .mode64 = false ∧ (Instr.vlddquX 1 (.abs 0)).wf .mode32 = true := by decide
theorem test_wf_base_needs_sib : (Instr.vlddquX 1 (.base 4 (.d8 0))).wf .mode64 = false ∧
    (Instr.vlddquX 1 (.base 12 (.d32 0))).wf .mode64 = false := by decide
theorem test_wf_base_needs_disp : (Instr.vlddquX 1 (.base 5 .none)).wf .mode64 = false ∧
    (Instr.vlddquX 1 (.base 13 .none)).wf .mode64 = false ∧ (Instr.vlddquX 1 (.base 13 (.d8 0))).wf .mode64 = true := by decide
theorem test_wf_base_mode : (Instr.vlddquX 1 (.base 8 .none)).wf .mode32 = false := by decide
theorem test_wf_index : (Instr.vlddquX 1 (.sib 1 0 (some 4) .none)).wf .mode64 = false ∧
    (Instr.vlddquX 1 (.sib 1 0 (some 12) .none)).wf .mode64 = true ∧
    (Instr.vlddquX 1 (.sib 1 0 (some 12) .none)).wf .mode32 = false := by decide
theorem test_wf_sib_base : (Instr.vlddquX 1 (.sib 5 0 none .none)).wf .mode64 = false ∧
    (Instr.vlddquX 1 (.sib 8 0 none .none)).wf .mode32 = false ∧
    (Instr.vlddquX 1 (.sib 4 0 none .none)).wf .mode32 = true := by decide
theorem test_wf_no_base : (Instr.vlddquX 1 (.sibNoBase 0 (some 4) 0)).wf .mode64 = false ∧
    (Instr.vlddquX 1 (.sibNoBase 3 none 0)).wf .mode32 = true := by decide

/-! ### Worked examples of the spec, one step each -/

/-- 43_sse_on_ymm.md R226. -/
theorem test_vcvttps2dq : xmm1 (exec (.vcvttps2dqX 1 (.reg 2)) (two (ps 0x40200000 0xC0200000 0x4F32D05E 0x7FC00000) 0)) =
    ps 2 0xFFFFFFFE 0x80000000 0x80000000 := by decide +kernel
/-- 43_sse_on_ymm.md R244: -0.4 rounds to -0, with PE. -/
theorem test_vroundpd : xmm1 (exec (.vroundpdX 1 (.reg 2) 0) (two (pd 0x4004000000000000 0xBFD999999999999A) 0)) =
    pd 0x4000000000000000 0x8000000000000000 ∧
    mxcsrAfter (exec (.vroundpdX 1 (.reg 2) 0) (two (pd 0x4004000000000000 0xBFD999999999999A) 0)) = 0x1FA0 := by decide +kernel
/-- 44_three_operand_xmm_ymm_a.md R268. -/
theorem test_vmulss : xmm1 (exec (.vmulss 1 2 (.reg 3))
    (two (ps 0x3FC00000 0xC0000000 0x40500000 0x3F000000) (ps 0x40000000 0x40800000 0xBF800000 0x3E800000))) =
    ps 0x40400000 0xC0000000 0x40500000 0x3F000000 := by decide +kernel
/-- 44_three_operand_xmm_ymm_b.md R294. -/
theorem test_vcmpss : xmm1 (exec (.vcmpss 1 2 (.reg 3) 2)
    (two (ps 0x3FC00000 0xC0000000 0x40500000 0x3F000000) (ps 0x40000000 0x40800000 0xBF800000 0x3E800000))) =
    ps 0xFFFFFFFF 0xC0000000 0x40500000 0x3F000000 := by decide +kernel
/-- 44_three_operand_xmm_ymm_b.md R303. -/
theorem test_vsqrtsd : xmm1 (exec (.vsqrtsd 1 2 (.reg 3))
    (two (pd 0x4022000000000000 0x4020000000000000) (pd 0x4002000000000000 0x3FF0000000000000))) =
    pd 0x3FF8000000000000 0x4020000000000000 := by decide +kernel
/-- 44_three_operand_xmm_ymm_a.md R286: the complement is of the first source. -/
theorem test_vandnps : xmm1 (exec (.vandnpsX 1 2 (.reg 3))
    (two 0xFFFF0000FFFF00000F0F0F0F12345678 0x00FFFF00F0F0F0F0FFFFFFFF0000FFFF)) = 0x0000FF000000F0F0F0F0F0F00000A987 := by
  decide +kernel
/-- 40_new_instructions.md R159. -/
theorem test_vpermilps : xmm1 (exec (.vpermilpsXImm 1 (.reg 2) 0x1B) (two (ps 0 0x3F800000 0x40000000 0x40400000) 0)) =
    ps 0x40400000 0x40000000 0x3F800000 0 := by decide +kernel
/-- 42_aes.md R214. -/
theorem test_vaesenclast : xmm1 (exec (.vaesenclast 1 2 (.reg 3))
    (two 0x0F0E0D0C0B0A09080706050403020100 0x1F1E1D1C1B1A19181716151413121110)) = 0x347161E2DE6DCE286CBD14E665757A73 := by
  decide +kernel
/-- 47_three_operand_xmm_int_c.md R434: only the low 64 bits of the second source count. -/
theorem test_vpsllq : xmm1 (exec (.vpsllq 1 2 (.reg 3)) (two (pd 0x8000000000000001 0x0123456789ABCDEF) (pd 4 0xDEAD))) =
    pd 0x10 0x123456789ABCDEF0 := by decide +kernel
/-- 47_three_operand_xmm_int_b.md R408. -/
theorem test_vpminsd : xmm1 (exec (.vpminsd 1 2 (.reg 3))
    (two (ps 1 0x7FFFFFFF 0x80000000 0xFFFFFFFF) (ps 1 1 0xFFFFFFFF 2))) = ps 1 1 0x80000000 0xFFFFFFFF := by decide +kernel
/-- 48_four_operand.md R464. -/
theorem test_vblendvps : xmm1 (exec (.vblendvpsX 1 2 (.reg 3) 4)
    (setYmm (two (ps 0xA0 0xA1 0xA2 0xA3) (ps 0xB0 0xB1 0xB2 0xB3)) 4 (ps 0x80000000 0x7FFFFFFF 0x7FFFFFFF 0x80000000))) =
    ps 0xB0 0xA1 0xA2 0xB3 := by decide +kernel
/-- 49_conversions.md R478: RBX = -2. -/
theorem test_vcvtsi2sd : xmm1 (exec (.vcvtsi2sdR64 1 2 (.reg 3))
    (setGpr (two (pd 0x4022000000000000 0x4020000000000000) 0) 3 0xFFFFFFFFFFFFFFFE)) =
    pd 0xC000000000000000 0x4020000000000000 := by decide +kernel
/-- 41_fma.md R187: 1.5 * 2 - 1 in element 0, zero above it. -/
theorem test_vfmsubsd : xmm1 (exec (.vfmsubsd 1 2 (.reg 3) 4)
    (setYmm (two (pd 0x3FF8000000000000 0xC000000000000000) (pd 0x4000000000000000 0x4010000000000000)) 4
      (pd 0x3FF0000000000000 0x3FF0000000000000))) = pd 0x4000000000000000 0 := by decide +kernel
/-- 40_new_instructions.md R168: bit 16 set. -/
theorem test_vldmxcsr_reserved :
    exec (.vldmxcsr atRax) { State.reset with mem := [(0, 0x80), (1, 0x1F), (2, 0x01)] } = .fault .gp0 := rfl
/-- 40_new_instructions.md R168: 00007F80. -/
theorem test_vldmxcsr :
    mxcsrAfter (exec (.vldmxcsr atRax) { State.reset with mem := [(0, 0x80), (1, 0x7F)] }) = 0x7F80 := by decide +kernel

/-! ### Decoding: a word for every row of the opcode table, its bits those of the encoding of 30_encoding.md R130 with registers
9, 10 and 3 (or `[rdx + 16]`), `is4` register 12 and immediate A5 -/

theorem test_decode_1 : [
    [0xC4, 0x61, 0x78, 0x10, 0xCB], [0xC4, 0x61, 0x7C, 0x10, 0xCB], [0xC4, 0x61, 0x79, 0x10, 0xCB],
    [0xC4, 0x61, 0x7D, 0x10, 0xCB], [0xC4, 0x61, 0x2A, 0x10, 0xCB], [0xC4, 0x61, 0x7A, 0x10, 0x4A, 0x10],
    [0xC4, 0x61, 0x2B, 0x10, 0xCB], [0xC4, 0x61, 0x7B, 0x10, 0x4A, 0x10], [0xC4, 0x61, 0x78, 0x11, 0xCB],
    [0xC4, 0x61, 0x7C, 0x11, 0xCB], [0xC4, 0x61, 0x79, 0x11, 0xCB], [0xC4, 0x61, 0x7D, 0x11, 0xCB],
    [0xC4, 0x61, 0x7A, 0x11, 0x4A, 0x10], [0xC4, 0x61, 0x2A, 0x11, 0xCB], [0xC4, 0x61, 0x7B, 0x11, 0x4A, 0x10],
    [0xC4, 0x61, 0x2B, 0x11, 0xCB], [0xC4, 0x61, 0x28, 0x12, 0xCB], [0xC4, 0x61, 0x28, 0x12, 0x4A, 0x10],
    [0xC4, 0x61, 0x29, 0x12, 0x4A, 0x10], [0xC4, 0x61, 0x7A, 0x12, 0xCB], [0xC4, 0x61, 0x7E, 0x12, 0xCB],
    [0xC4, 0x61, 0x7B, 0x12, 0xCB]].map (decode .mode64 true) = [
    .ok (.vmovupsX 9 (.reg 3)) 5, .ok (.vmovupsY 9 (.reg 3)) 5, .ok (.vmovupdX 9 (.reg 3)) 5, .ok (.vmovupdY 9 (.reg 3)) 5,
    .ok (.vmovssReg 9 10 3) 5, .ok (.vmovssLoad 9 (.base 2 (.d8 16))) 6, .ok (.vmovsdReg 9 10 3) 5,
    .ok (.vmovsdLoad 9 (.base 2 (.d8 16))) 6, .ok (.vmovupsXStore (.reg 3) 9) 5, .ok (.vmovupsYStore (.reg 3) 9) 5,
    .ok (.vmovupdXStore (.reg 3) 9) 5, .ok (.vmovupdYStore (.reg 3) 9) 5, .ok (.vmovssStore (.base 2 (.d8 16)) 9) 6,
    .ok (.vmovssReg2 3 10 9) 5, .ok (.vmovsdStore (.base 2 (.d8 16)) 9) 6, .ok (.vmovsdReg2 3 10 9) 5, .ok (.vmovhlps 9 10 3) 5,
    .ok (.vmovlpsLoad 9 10 (.base 2 (.d8 16))) 6, .ok (.vmovlpdLoad 9 10 (.base 2 (.d8 16))) 6, .ok (.vmovsldupX 9 (.reg 3)) 5,
    .ok (.vmovsldupY 9 (.reg 3)) 5, .ok (.vmovddupX 9 (.reg 3)) 5] := by
  decide +kernel

theorem test_decode_2 : [
    [0xC4, 0x61, 0x7F, 0x12, 0xCB], [0xC4, 0x61, 0x78, 0x13, 0x4A, 0x10], [0xC4, 0x61, 0x79, 0x13, 0x4A, 0x10],
    [0xC4, 0x61, 0x28, 0x14, 0xCB], [0xC4, 0x61, 0x2C, 0x14, 0xCB], [0xC4, 0x61, 0x29, 0x14, 0xCB],
    [0xC4, 0x61, 0x2D, 0x14, 0xCB], [0xC4, 0x61, 0x28, 0x15, 0xCB], [0xC4, 0x61, 0x2C, 0x15, 0xCB],
    [0xC4, 0x61, 0x29, 0x15, 0xCB], [0xC4, 0x61, 0x2D, 0x15, 0xCB], [0xC4, 0x61, 0x28, 0x16, 0xCB],
    [0xC4, 0x61, 0x28, 0x16, 0x4A, 0x10], [0xC4, 0x61, 0x29, 0x16, 0x4A, 0x10], [0xC4, 0x61, 0x7A, 0x16, 0xCB],
    [0xC4, 0x61, 0x7E, 0x16, 0xCB], [0xC4, 0x61, 0x78, 0x17, 0x4A, 0x10], [0xC4, 0x61, 0x79, 0x17, 0x4A, 0x10],
    [0xC4, 0x61, 0x78, 0x28, 0xCB], [0xC4, 0x61, 0x7C, 0x28, 0xCB], [0xC4, 0x61, 0x79, 0x28, 0xCB],
    [0xC4, 0x61, 0x7D, 0x28, 0xCB]].map (decode .mode64 true) = [
    .ok (.vmovddupY 9 (.reg 3)) 5, .ok (.vmovlpsStore (.base 2 (.d8 16)) 9) 6, .ok (.vmovlpdStore (.base 2 (.d8 16)) 9) 6,
    .ok (.vunpcklpsX 9 10 (.reg 3)) 5, .ok (.vunpcklpsY 9 10 (.reg 3)) 5, .ok (.vunpcklpdX 9 10 (.reg 3)) 5,
    .ok (.vunpcklpdY 9 10 (.reg 3)) 5, .ok (.vunpckhpsX 9 10 (.reg 3)) 5, .ok (.vunpckhpsY 9 10 (.reg 3)) 5,
    .ok (.vunpckhpdX 9 10 (.reg 3)) 5, .ok (.vunpckhpdY 9 10 (.reg 3)) 5, .ok (.vmovlhps 9 10 3) 5,
    .ok (.vmovhpsLoad 9 10 (.base 2 (.d8 16))) 6, .ok (.vmovhpdLoad 9 10 (.base 2 (.d8 16))) 6, .ok (.vmovshdupX 9 (.reg 3)) 5,
    .ok (.vmovshdupY 9 (.reg 3)) 5, .ok (.vmovhpsStore (.base 2 (.d8 16)) 9) 6, .ok (.vmovhpdStore (.base 2 (.d8 16)) 9) 6,
    .ok (.vmovapsX 9 (.reg 3)) 5, .ok (.vmovapsY 9 (.reg 3)) 5, .ok (.vmovapdX 9 (.reg 3)) 5, .ok (.vmovapdY 9 (.reg 3)) 5] := by
  decide +kernel

theorem test_decode_3 : [
    [0xC4, 0x61, 0x78, 0x29, 0xCB], [0xC4, 0x61, 0x7C, 0x29, 0xCB], [0xC4, 0x61, 0x79, 0x29, 0xCB],
    [0xC4, 0x61, 0x7D, 0x29, 0xCB], [0xC4, 0x61, 0x2A, 0x2A, 0xCB], [0xC4, 0x61, 0xAA, 0x2A, 0xCB],
    [0xC4, 0x61, 0x2B, 0x2A, 0xCB], [0xC4, 0x61, 0xAB, 0x2A, 0xCB], [0xC4, 0x61, 0x7A, 0x2C, 0xCB],
    [0xC4, 0x61, 0xFA, 0x2C, 0xCB], [0xC4, 0x61, 0x7B, 0x2C, 0xCB], [0xC4, 0x61, 0xFB, 0x2C, 0xCB],
    [0xC4, 0x61, 0x7A, 0x2D, 0xCB], [0xC4, 0x61, 0xFA, 0x2D, 0xCB], [0xC4, 0x61, 0x7B, 0x2D, 0xCB],
    [0xC4, 0x61, 0xFB, 0x2D, 0xCB], [0xC4, 0x61, 0x78, 0x50, 0xCB], [0xC4, 0x61, 0x7C, 0x50, 0xCB],
    [0xC4, 0x61, 0x79, 0x50, 0xCB], [0xC4, 0x61, 0x7D, 0x50, 0xCB], [0xC4, 0x61, 0x78, 0x51, 0xCB],
    [0xC4, 0x61, 0x7C, 0x51, 0xCB]].map (decode .mode64 true) = [
    .ok (.vmovapsXStore (.reg 3) 9) 5, .ok (.vmovapsYStore (.reg 3) 9) 5, .ok (.vmovapdXStore (.reg 3) 9) 5,
    .ok (.vmovapdYStore (.reg 3) 9) 5, .ok (.vcvtsi2ssR32 9 10 (.reg 3)) 5, .ok (.vcvtsi2ssR64 9 10 (.reg 3)) 5,
    .ok (.vcvtsi2sdR32 9 10 (.reg 3)) 5, .ok (.vcvtsi2sdR64 9 10 (.reg 3)) 5, .ok (.vcvttss2siR32 9 (.reg 3)) 5,
    .ok (.vcvttss2siR64 9 (.reg 3)) 5, .ok (.vcvttsd2siR32 9 (.reg 3)) 5, .ok (.vcvttsd2siR64 9 (.reg 3)) 5,
    .ok (.vcvtss2siR32 9 (.reg 3)) 5, .ok (.vcvtss2siR64 9 (.reg 3)) 5, .ok (.vcvtsd2siR32 9 (.reg 3)) 5,
    .ok (.vcvtsd2siR64 9 (.reg 3)) 5, .ok (.vmovmskpsX 9 3) 5, .ok (.vmovmskpsY 9 3) 5, .ok (.vmovmskpdX 9 3) 5,
    .ok (.vmovmskpdY 9 3) 5, .ok (.vsqrtpsX 9 (.reg 3)) 5, .ok (.vsqrtpsY 9 (.reg 3)) 5] := by
  decide +kernel

theorem test_decode_4 : [
    [0xC4, 0x61, 0x79, 0x51, 0xCB], [0xC4, 0x61, 0x7D, 0x51, 0xCB], [0xC4, 0x61, 0x2A, 0x51, 0xCB],
    [0xC4, 0x61, 0x2B, 0x51, 0xCB], [0xC4, 0x61, 0x78, 0x52, 0xCB], [0xC4, 0x61, 0x7C, 0x52, 0xCB],
    [0xC4, 0x61, 0x2A, 0x52, 0xCB], [0xC4, 0x61, 0x78, 0x53, 0xCB], [0xC4, 0x61, 0x7C, 0x53, 0xCB],
    [0xC4, 0x61, 0x2A, 0x53, 0xCB], [0xC4, 0x61, 0x28, 0x54, 0xCB], [0xC4, 0x61, 0x2C, 0x54, 0xCB],
    [0xC4, 0x61, 0x29, 0x54, 0xCB], [0xC4, 0x61, 0x2D, 0x54, 0xCB], [0xC4, 0x61, 0x28, 0x55, 0xCB],
    [0xC4, 0x61, 0x2C, 0x55, 0xCB], [0xC4, 0x61, 0x29, 0x55, 0xCB], [0xC4, 0x61, 0x2D, 0x55, 0xCB],
    [0xC4, 0x61, 0x28, 0x56, 0xCB], [0xC4, 0x61, 0x2C, 0x56, 0xCB], [0xC4, 0x61, 0x29, 0x56, 0xCB],
    [0xC4, 0x61, 0x2D, 0x56, 0xCB]].map (decode .mode64 true) = [
    .ok (.vsqrtpdX 9 (.reg 3)) 5, .ok (.vsqrtpdY 9 (.reg 3)) 5, .ok (.vsqrtss 9 10 (.reg 3)) 5, .ok (.vsqrtsd 9 10 (.reg 3)) 5,
    .ok (.vrsqrtpsX 9 (.reg 3)) 5, .ok (.vrsqrtpsY 9 (.reg 3)) 5, .ok (.vrsqrtss 9 10 (.reg 3)) 5, .ok (.vrcppsX 9 (.reg 3)) 5,
    .ok (.vrcppsY 9 (.reg 3)) 5, .ok (.vrcpss 9 10 (.reg 3)) 5, .ok (.vandpsX 9 10 (.reg 3)) 5, .ok (.vandpsY 9 10 (.reg 3)) 5,
    .ok (.vandpdX 9 10 (.reg 3)) 5, .ok (.vandpdY 9 10 (.reg 3)) 5, .ok (.vandnpsX 9 10 (.reg 3)) 5,
    .ok (.vandnpsY 9 10 (.reg 3)) 5, .ok (.vandnpdX 9 10 (.reg 3)) 5, .ok (.vandnpdY 9 10 (.reg 3)) 5,
    .ok (.vorpsX 9 10 (.reg 3)) 5, .ok (.vorpsY 9 10 (.reg 3)) 5, .ok (.vorpdX 9 10 (.reg 3)) 5, .ok (.vorpdY 9 10 (.reg 3)) 5] := by
  decide +kernel

theorem test_decode_5 : [
    [0xC4, 0x61, 0x28, 0x57, 0xCB], [0xC4, 0x61, 0x2C, 0x57, 0xCB], [0xC4, 0x61, 0x29, 0x57, 0xCB],
    [0xC4, 0x61, 0x2D, 0x57, 0xCB], [0xC4, 0x61, 0x28, 0x58, 0xCB], [0xC4, 0x61, 0x2C, 0x58, 0xCB],
    [0xC4, 0x61, 0x29, 0x58, 0xCB], [0xC4, 0x61, 0x2D, 0x58, 0xCB], [0xC4, 0x61, 0x2A, 0x58, 0xCB],
    [0xC4, 0x61, 0x2B, 0x58, 0xCB], [0xC4, 0x61, 0x28, 0x59, 0xCB], [0xC4, 0x61, 0x2C, 0x59, 0xCB],
    [0xC4, 0x61, 0x29, 0x59, 0xCB], [0xC4, 0x61, 0x2D, 0x59, 0xCB], [0xC4, 0x61, 0x2A, 0x59, 0xCB],
    [0xC4, 0x61, 0x2B, 0x59, 0xCB], [0xC4, 0x61, 0x78, 0x5A, 0xCB], [0xC4, 0x61, 0x7C, 0x5A, 0xCB],
    [0xC4, 0x61, 0x79, 0x5A, 0xCB], [0xC4, 0x61, 0x7D, 0x5A, 0xCB], [0xC4, 0x61, 0x2A, 0x5A, 0xCB],
    [0xC4, 0x61, 0x2B, 0x5A, 0xCB]].map (decode .mode64 true) = [
    .ok (.vxorpsX 9 10 (.reg 3)) 5, .ok (.vxorpsY 9 10 (.reg 3)) 5, .ok (.vxorpdX 9 10 (.reg 3)) 5,
    .ok (.vxorpdY 9 10 (.reg 3)) 5, .ok (.vaddpsX 9 10 (.reg 3)) 5, .ok (.vaddpsY 9 10 (.reg 3)) 5,
    .ok (.vaddpdX 9 10 (.reg 3)) 5, .ok (.vaddpdY 9 10 (.reg 3)) 5, .ok (.vaddss 9 10 (.reg 3)) 5,
    .ok (.vaddsd 9 10 (.reg 3)) 5, .ok (.vmulpsX 9 10 (.reg 3)) 5, .ok (.vmulpsY 9 10 (.reg 3)) 5,
    .ok (.vmulpdX 9 10 (.reg 3)) 5, .ok (.vmulpdY 9 10 (.reg 3)) 5, .ok (.vmulss 9 10 (.reg 3)) 5,
    .ok (.vmulsd 9 10 (.reg 3)) 5, .ok (.vcvtps2pdX 9 (.reg 3)) 5, .ok (.vcvtps2pdY 9 (.reg 3)) 5,
    .ok (.vcvtpd2psX 9 (.reg 3)) 5, .ok (.vcvtpd2psY 9 (.reg 3)) 5, .ok (.vcvtss2sd 9 10 (.reg 3)) 5,
    .ok (.vcvtsd2ss 9 10 (.reg 3)) 5] := by
  decide +kernel

theorem test_decode_6 : [
    [0xC4, 0x61, 0x78, 0x5B, 0xCB], [0xC4, 0x61, 0x7C, 0x5B, 0xCB], [0xC4, 0x61, 0x79, 0x5B, 0xCB],
    [0xC4, 0x61, 0x7D, 0x5B, 0xCB], [0xC4, 0x61, 0x7A, 0x5B, 0xCB], [0xC4, 0x61, 0x7E, 0x5B, 0xCB],
    [0xC4, 0x61, 0x28, 0x5C, 0xCB], [0xC4, 0x61, 0x2C, 0x5C, 0xCB], [0xC4, 0x61, 0x29, 0x5C, 0xCB],
    [0xC4, 0x61, 0x2D, 0x5C, 0xCB], [0xC4, 0x61, 0x2A, 0x5C, 0xCB], [0xC4, 0x61, 0x2B, 0x5C, 0xCB],
    [0xC4, 0x61, 0x28, 0x5D, 0xCB], [0xC4, 0x61, 0x2C, 0x5D, 0xCB], [0xC4, 0x61, 0x29, 0x5D, 0xCB],
    [0xC4, 0x61, 0x2D, 0x5D, 0xCB], [0xC4, 0x61, 0x2A, 0x5D, 0xCB], [0xC4, 0x61, 0x2B, 0x5D, 0xCB],
    [0xC4, 0x61, 0x28, 0x5E, 0xCB], [0xC4, 0x61, 0x2C, 0x5E, 0xCB], [0xC4, 0x61, 0x29, 0x5E, 0xCB],
    [0xC4, 0x61, 0x2D, 0x5E, 0xCB]].map (decode .mode64 true) = [
    .ok (.vcvtdq2psX 9 (.reg 3)) 5, .ok (.vcvtdq2psY 9 (.reg 3)) 5, .ok (.vcvtps2dqX 9 (.reg 3)) 5,
    .ok (.vcvtps2dqY 9 (.reg 3)) 5, .ok (.vcvttps2dqX 9 (.reg 3)) 5, .ok (.vcvttps2dqY 9 (.reg 3)) 5,
    .ok (.vsubpsX 9 10 (.reg 3)) 5, .ok (.vsubpsY 9 10 (.reg 3)) 5, .ok (.vsubpdX 9 10 (.reg 3)) 5,
    .ok (.vsubpdY 9 10 (.reg 3)) 5, .ok (.vsubss 9 10 (.reg 3)) 5, .ok (.vsubsd 9 10 (.reg 3)) 5,
    .ok (.vminpsX 9 10 (.reg 3)) 5, .ok (.vminpsY 9 10 (.reg 3)) 5, .ok (.vminpdX 9 10 (.reg 3)) 5,
    .ok (.vminpdY 9 10 (.reg 3)) 5, .ok (.vminss 9 10 (.reg 3)) 5, .ok (.vminsd 9 10 (.reg 3)) 5,
    .ok (.vdivpsX 9 10 (.reg 3)) 5, .ok (.vdivpsY 9 10 (.reg 3)) 5, .ok (.vdivpdX 9 10 (.reg 3)) 5,
    .ok (.vdivpdY 9 10 (.reg 3)) 5] := by
  decide +kernel

theorem test_decode_7 : [
    [0xC4, 0x61, 0x2A, 0x5E, 0xCB], [0xC4, 0x61, 0x2B, 0x5E, 0xCB], [0xC4, 0x61, 0x28, 0x5F, 0xCB],
    [0xC4, 0x61, 0x2C, 0x5F, 0xCB], [0xC4, 0x61, 0x29, 0x5F, 0xCB], [0xC4, 0x61, 0x2D, 0x5F, 0xCB],
    [0xC4, 0x61, 0x2A, 0x5F, 0xCB], [0xC4, 0x61, 0x2B, 0x5F, 0xCB], [0xC4, 0x61, 0x29, 0x60, 0xCB],
    [0xC4, 0x61, 0x29, 0x61, 0xCB], [0xC4, 0x61, 0x29, 0x62, 0xCB], [0xC4, 0x61, 0x29, 0x63, 0xCB],
    [0xC4, 0x61, 0x29, 0x64, 0xCB], [0xC4, 0x61, 0x29, 0x65, 0xCB], [0xC4, 0x61, 0x29, 0x66, 0xCB],
    [0xC4, 0x61, 0x29, 0x67, 0xCB], [0xC4, 0x61, 0x29, 0x68, 0xCB], [0xC4, 0x61, 0x29, 0x69, 0xCB],
    [0xC4, 0x61, 0x29, 0x6A, 0xCB], [0xC4, 0x61, 0x29, 0x6B, 0xCB], [0xC4, 0x61, 0x29, 0x6C, 0xCB],
    [0xC4, 0x61, 0x29, 0x6D, 0xCB]].map (decode .mode64 true) = [
    .ok (.vdivss 9 10 (.reg 3)) 5, .ok (.vdivsd 9 10 (.reg 3)) 5, .ok (.vmaxpsX 9 10 (.reg 3)) 5,
    .ok (.vmaxpsY 9 10 (.reg 3)) 5, .ok (.vmaxpdX 9 10 (.reg 3)) 5, .ok (.vmaxpdY 9 10 (.reg 3)) 5,
    .ok (.vmaxss 9 10 (.reg 3)) 5, .ok (.vmaxsd 9 10 (.reg 3)) 5, .ok (.vpunpcklbw 9 10 (.reg 3)) 5,
    .ok (.vpunpcklwd 9 10 (.reg 3)) 5, .ok (.vpunpckldq 9 10 (.reg 3)) 5, .ok (.vpacksswb 9 10 (.reg 3)) 5,
    .ok (.vpcmpgtb 9 10 (.reg 3)) 5, .ok (.vpcmpgtw 9 10 (.reg 3)) 5, .ok (.vpcmpgtd 9 10 (.reg 3)) 5,
    .ok (.vpackuswb 9 10 (.reg 3)) 5, .ok (.vpunpckhbw 9 10 (.reg 3)) 5, .ok (.vpunpckhwd 9 10 (.reg 3)) 5,
    .ok (.vpunpckhdq 9 10 (.reg 3)) 5, .ok (.vpackssdw 9 10 (.reg 3)) 5, .ok (.vpunpcklqdq 9 10 (.reg 3)) 5,
    .ok (.vpunpckhqdq 9 10 (.reg 3)) 5] := by
  decide +kernel

theorem test_decode_8 : [
    [0xC4, 0x61, 0x79, 0x6F, 0xCB], [0xC4, 0x61, 0x7D, 0x6F, 0xCB], [0xC4, 0x61, 0x7A, 0x6F, 0xCB],
    [0xC4, 0x61, 0x7E, 0x6F, 0xCB], [0xC4, 0x61, 0x79, 0x70, 0xCB, 0xA5], [0xC4, 0x61, 0x7A, 0x70, 0xCB, 0xA5],
    [0xC4, 0x61, 0x7B, 0x70, 0xCB, 0xA5], [0xC4, 0xE1, 0x29, 0x71, 0xD3, 0xA5], [0xC4, 0xE1, 0x29, 0x71, 0xE3, 0xA5],
    [0xC4, 0xE1, 0x29, 0x71, 0xF3, 0xA5], [0xC4, 0xE1, 0x29, 0x72, 0xD3, 0xA5], [0xC4, 0xE1, 0x29, 0x72, 0xE3, 0xA5],
    [0xC4, 0xE1, 0x29, 0x72, 0xF3, 0xA5], [0xC4, 0xE1, 0x29, 0x73, 0xD3, 0xA5], [0xC4, 0xE1, 0x29, 0x73, 0xDB, 0xA5],
    [0xC4, 0xE1, 0x29, 0x73, 0xF3, 0xA5], [0xC4, 0xE1, 0x29, 0x73, 0xFB, 0xA5], [0xC4, 0x61, 0x29, 0x74, 0xCB],
    [0xC4, 0x61, 0x29, 0x75, 0xCB], [0xC4, 0x61, 0x29, 0x76, 0xCB], [0xC4, 0xE1, 0x78, 0x77], [0xC4, 0xE1, 0x7C, 0x77]].map (decode .mode64 true) = [
    .ok (.vmovdqaX 9 (.reg 3)) 5, .ok (.vmovdqaY 9 (.reg 3)) 5, .ok (.vmovdquX 9 (.reg 3)) 5, .ok (.vmovdquY 9 (.reg 3)) 5,
    .ok (.vpshufd 9 (.reg 3) 165) 6, .ok (.vpshufhw 9 (.reg 3) 165) 6, .ok (.vpshuflw 9 (.reg 3) 165) 6,
    .ok (.vpsrlwImm 10 3 165) 6, .ok (.vpsrawImm 10 3 165) 6, .ok (.vpsllwImm 10 3 165) 6, .ok (.vpsrldImm 10 3 165) 6,
    .ok (.vpsradImm 10 3 165) 6, .ok (.vpslldImm 10 3 165) 6, .ok (.vpsrlqImm 10 3 165) 6, .ok (.vpsrldq 10 3 165) 6,
    .ok (.vpsllqImm 10 3 165) 6, .ok (.vpslldq 10 3 165) 6, .ok (.vpcmpeqb 9 10 (.reg 3)) 5, .ok (.vpcmpeqw 9 10 (.reg 3)) 5,
    .ok (.vpcmpeqd 9 10 (.reg 3)) 5, .ok (.vzeroupper) 4, .ok (.vzeroall) 4] := by
  decide +kernel

theorem test_decode_9 : [
    [0xC4, 0x61, 0x29, 0x7C, 0xCB], [0xC4, 0x61, 0x2D, 0x7C, 0xCB], [0xC4, 0x61, 0x2B, 0x7C, 0xCB],
    [0xC4, 0x61, 0x2F, 0x7C, 0xCB], [0xC4, 0x61, 0x29, 0x7D, 0xCB], [0xC4, 0x61, 0x2D, 0x7D, 0xCB],
    [0xC4, 0x61, 0x2B, 0x7D, 0xCB], [0xC4, 0x61, 0x2F, 0x7D, 0xCB], [0xC4, 0x61, 0x79, 0x7F, 0xCB],
    [0xC4, 0x61, 0x7D, 0x7F, 0xCB], [0xC4, 0x61, 0x7A, 0x7F, 0xCB], [0xC4, 0x61, 0x7E, 0x7F, 0xCB],
    [0xC4, 0xE1, 0x78, 0xAE, 0x52, 0x10], [0xC4, 0xE1, 0x78, 0xAE, 0x5A, 0x10], [0xC4, 0x61, 0x28, 0xC2, 0xCB, 0xA5],
    [0xC4, 0x61, 0x2C, 0xC2, 0xCB, 0xA5], [0xC4, 0x61, 0x29, 0xC2, 0xCB, 0xA5], [0xC4, 0x61, 0x2D, 0xC2, 0xCB, 0xA5],
    [0xC4, 0x61, 0x2A, 0xC2, 0xCB, 0xA5], [0xC4, 0x61, 0x2B, 0xC2, 0xCB, 0xA5], [0xC4, 0x61, 0x29, 0xC4, 0xCB, 0xA5],
    [0xC4, 0x61, 0x28, 0xC6, 0xCB, 0xA5]].map (decode .mode64 true) = [
    .ok (.vhaddpdX 9 10 (.reg 3)) 5, .ok (.vhaddpdY 9 10 (.reg 3)) 5, .ok (.vhaddpsX 9 10 (.reg 3)) 5,
    .ok (.vhaddpsY 9 10 (.reg 3)) 5, .ok (.vhsubpdX 9 10 (.reg 3)) 5, .ok (.vhsubpdY 9 10 (.reg 3)) 5,
    .ok (.vhsubpsX 9 10 (.reg 3)) 5, .ok (.vhsubpsY 9 10 (.reg 3)) 5, .ok (.vmovdqaXStore (.reg 3) 9) 5,
    .ok (.vmovdqaYStore (.reg 3) 9) 5, .ok (.vmovdquXStore (.reg 3) 9) 5, .ok (.vmovdquYStore (.reg 3) 9) 5,
    .ok (.vldmxcsr (.base 2 (.d8 16))) 6, .ok (.vstmxcsr (.base 2 (.d8 16))) 6, .ok (.vcmppsX 9 10 (.reg 3) 165) 6,
    .ok (.vcmppsY 9 10 (.reg 3) 165) 6, .ok (.vcmppdX 9 10 (.reg 3) 165) 6, .ok (.vcmppdY 9 10 (.reg 3) 165) 6,
    .ok (.vcmpss 9 10 (.reg 3) 165) 6, .ok (.vcmpsd 9 10 (.reg 3) 165) 6, .ok (.vpinsrw 9 10 (.reg 3) 165) 6,
    .ok (.vshufpsX 9 10 (.reg 3) 165) 6] := by
  decide +kernel

theorem test_decode_10 : [
    [0xC4, 0x61, 0x2C, 0xC6, 0xCB, 0xA5], [0xC4, 0x61, 0x29, 0xC6, 0xCB, 0xA5], [0xC4, 0x61, 0x2D, 0xC6, 0xCB, 0xA5],
    [0xC4, 0x61, 0x29, 0xD0, 0xCB], [0xC4, 0x61, 0x2D, 0xD0, 0xCB], [0xC4, 0x61, 0x2B, 0xD0, 0xCB],
    [0xC4, 0x61, 0x2F, 0xD0, 0xCB], [0xC4, 0x61, 0x29, 0xD1, 0xCB], [0xC4, 0x61, 0x29, 0xD2, 0xCB],
    [0xC4, 0x61, 0x29, 0xD3, 0xCB], [0xC4, 0x61, 0x29, 0xD4, 0xCB], [0xC4, 0x61, 0x29, 0xD5, 0xCB],
    [0xC4, 0x61, 0x29, 0xD8, 0xCB], [0xC4, 0x61, 0x29, 0xD9, 0xCB], [0xC4, 0x61, 0x29, 0xDA, 0xCB],
    [0xC4, 0x61, 0x29, 0xDB, 0xCB], [0xC4, 0x61, 0x29, 0xDC, 0xCB], [0xC4, 0x61, 0x29, 0xDD, 0xCB],
    [0xC4, 0x61, 0x29, 0xDE, 0xCB], [0xC4, 0x61, 0x29, 0xDF, 0xCB], [0xC4, 0x61, 0x29, 0xE0, 0xCB],
    [0xC4, 0x61, 0x29, 0xE1, 0xCB]].map (decode .mode64 true) = [
    .ok (.vshufpsY 9 10 (.reg 3) 165) 6, .ok (.vshufpdX 9 10 (.reg 3) 165) 6, .ok (.vshufpdY 9 10 (.reg 3) 165) 6,
    .ok (.vaddsubpdX 9 10 (.reg 3)) 5, .ok (.vaddsubpdY 9 10 (.reg 3)) 5, .ok (.vaddsubpsX 9 10 (.reg 3)) 5,
    .ok (.vaddsubpsY 9 10 (.reg 3)) 5, .ok (.vpsrlw 9 10 (.reg 3)) 5, .ok (.vpsrld 9 10 (.reg 3)) 5,
    .ok (.vpsrlq 9 10 (.reg 3)) 5, .ok (.vpaddq 9 10 (.reg 3)) 5, .ok (.vpmullw 9 10 (.reg 3)) 5,
    .ok (.vpsubusb 9 10 (.reg 3)) 5, .ok (.vpsubusw 9 10 (.reg 3)) 5, .ok (.vpminub 9 10 (.reg 3)) 5,
    .ok (.vpand 9 10 (.reg 3)) 5, .ok (.vpaddusb 9 10 (.reg 3)) 5, .ok (.vpaddusw 9 10 (.reg 3)) 5,
    .ok (.vpmaxub 9 10 (.reg 3)) 5, .ok (.vpandn 9 10 (.reg 3)) 5, .ok (.vpavgb 9 10 (.reg 3)) 5, .ok (.vpsraw 9 10 (.reg 3)) 5] := by
  decide +kernel

theorem test_decode_11 : [
    [0xC4, 0x61, 0x29, 0xE2, 0xCB], [0xC4, 0x61, 0x29, 0xE3, 0xCB], [0xC4, 0x61, 0x29, 0xE4, 0xCB],
    [0xC4, 0x61, 0x29, 0xE5, 0xCB], [0xC4, 0x61, 0x79, 0xE6, 0xCB], [0xC4, 0x61, 0x7D, 0xE6, 0xCB],
    [0xC4, 0x61, 0x7A, 0xE6, 0xCB], [0xC4, 0x61, 0x7E, 0xE6, 0xCB], [0xC4, 0x61, 0x7B, 0xE6, 0xCB],
    [0xC4, 0x61, 0x7F, 0xE6, 0xCB], [0xC4, 0x61, 0x29, 0xE8, 0xCB], [0xC4, 0x61, 0x29, 0xE9, 0xCB],
    [0xC4, 0x61, 0x29, 0xEA, 0xCB], [0xC4, 0x61, 0x29, 0xEB, 0xCB], [0xC4, 0x61, 0x29, 0xEC, 0xCB],
    [0xC4, 0x61, 0x29, 0xED, 0xCB], [0xC4, 0x61, 0x29, 0xEE, 0xCB], [0xC4, 0x61, 0x29, 0xEF, 0xCB],
    [0xC4, 0x61, 0x7B, 0xF0, 0x4A, 0x10], [0xC4, 0x61, 0x7F, 0xF0, 0x4A, 0x10], [0xC4, 0x61, 0x29, 0xF1, 0xCB],
    [0xC4, 0x61, 0x29, 0xF2, 0xCB]].map (decode .mode64 true) = [
    .ok (.vpsrad 9 10 (.reg 3)) 5, .ok (.vpavgw 9 10 (.reg 3)) 5, .ok (.vpmulhuw 9 10 (.reg 3)) 5,
    .ok (.vpmulhw 9 10 (.reg 3)) 5, .ok (.vcvttpd2dqX 9 (.reg 3)) 5, .ok (.vcvttpd2dqY 9 (.reg 3)) 5,
    .ok (.vcvtdq2pdX 9 (.reg 3)) 5, .ok (.vcvtdq2pdY 9 (.reg 3)) 5, .ok (.vcvtpd2dqX 9 (.reg 3)) 5,
    .ok (.vcvtpd2dqY 9 (.reg 3)) 5, .ok (.vpsubsb 9 10 (.reg 3)) 5, .ok (.vpsubsw 9 10 (.reg 3)) 5,
    .ok (.vpminsw 9 10 (.reg 3)) 5, .ok (.vpor 9 10 (.reg 3)) 5, .ok (.vpaddsb 9 10 (.reg 3)) 5, .ok (.vpaddsw 9 10 (.reg 3)) 5,
    .ok (.vpmaxsw 9 10 (.reg 3)) 5, .ok (.vpxor 9 10 (.reg 3)) 5, .ok (.vlddquX 9 (.base 2 (.d8 16))) 6,
    .ok (.vlddquY 9 (.base 2 (.d8 16))) 6, .ok (.vpsllw 9 10 (.reg 3)) 5, .ok (.vpslld 9 10 (.reg 3)) 5] := by
  decide +kernel

theorem test_decode_12 : [
    [0xC4, 0x61, 0x29, 0xF3, 0xCB], [0xC4, 0x61, 0x29, 0xF4, 0xCB], [0xC4, 0x61, 0x29, 0xF5, 0xCB],
    [0xC4, 0x61, 0x29, 0xF6, 0xCB], [0xC4, 0x61, 0x29, 0xF8, 0xCB], [0xC4, 0x61, 0x29, 0xF9, 0xCB],
    [0xC4, 0x61, 0x29, 0xFA, 0xCB], [0xC4, 0x61, 0x29, 0xFB, 0xCB], [0xC4, 0x61, 0x29, 0xFC, 0xCB],
    [0xC4, 0x61, 0x29, 0xFD, 0xCB], [0xC4, 0x61, 0x29, 0xFE, 0xCB], [0xC4, 0x62, 0x29, 0x00, 0xCB],
    [0xC4, 0x62, 0x29, 0x01, 0xCB], [0xC4, 0x62, 0x29, 0x02, 0xCB], [0xC4, 0x62, 0x29, 0x03, 0xCB],
    [0xC4, 0x62, 0x29, 0x04, 0xCB], [0xC4, 0x62, 0x29, 0x05, 0xCB], [0xC4, 0x62, 0x29, 0x06, 0xCB],
    [0xC4, 0x62, 0x29, 0x07, 0xCB], [0xC4, 0x62, 0x29, 0x08, 0xCB], [0xC4, 0x62, 0x29, 0x09, 0xCB],
    [0xC4, 0x62, 0x29, 0x0A, 0xCB]].map (decode .mode64 true) = [
    .ok (.vpsllq 9 10 (.reg 3)) 5, .ok (.vpmuludq 9 10 (.reg 3)) 5, .ok (.vpmaddwd 9 10 (.reg 3)) 5,
    .ok (.vpsadbw 9 10 (.reg 3)) 5, .ok (.vpsubb 9 10 (.reg 3)) 5, .ok (.vpsubw 9 10 (.reg 3)) 5, .ok (.vpsubd 9 10 (.reg 3)) 5,
    .ok (.vpsubq 9 10 (.reg 3)) 5, .ok (.vpaddb 9 10 (.reg 3)) 5, .ok (.vpaddw 9 10 (.reg 3)) 5, .ok (.vpaddd 9 10 (.reg 3)) 5,
    .ok (.vpshufb 9 10 (.reg 3)) 5, .ok (.vphaddw 9 10 (.reg 3)) 5, .ok (.vphaddd 9 10 (.reg 3)) 5,
    .ok (.vphaddsw 9 10 (.reg 3)) 5, .ok (.vpmaddubsw 9 10 (.reg 3)) 5, .ok (.vphsubw 9 10 (.reg 3)) 5,
    .ok (.vphsubd 9 10 (.reg 3)) 5, .ok (.vphsubsw 9 10 (.reg 3)) 5, .ok (.vpsignb 9 10 (.reg 3)) 5,
    .ok (.vpsignw 9 10 (.reg 3)) 5, .ok (.vpsignd 9 10 (.reg 3)) 5] := by
  decide +kernel

theorem test_decode_13 : [
    [0xC4, 0x62, 0x29, 0x0B, 0xCB], [0xC4, 0x62, 0x29, 0x0C, 0xCB], [0xC4, 0x62, 0x2D, 0x0C, 0xCB],
    [0xC4, 0x62, 0x29, 0x0D, 0xCB], [0xC4, 0x62, 0x2D, 0x0D, 0xCB], [0xC4, 0x62, 0x79, 0x0E, 0xCB],
    [0xC4, 0x62, 0x7D, 0x0E, 0xCB], [0xC4, 0x62, 0x79, 0x0F, 0xCB], [0xC4, 0x62, 0x7D, 0x0F, 0xCB],
    [0xC4, 0x62, 0x79, 0x17, 0xCB], [0xC4, 0x62, 0x7D, 0x17, 0xCB], [0xC4, 0x62, 0x79, 0x18, 0x4A, 0x10],
    [0xC4, 0x62, 0x7D, 0x18, 0x4A, 0x10], [0xC4, 0x62, 0x7D, 0x19, 0x4A, 0x10], [0xC4, 0x62, 0x7D, 0x1A, 0x4A, 0x10],
    [0xC4, 0x62, 0x29, 0x28, 0xCB], [0xC4, 0x62, 0x29, 0x29, 0xCB], [0xC4, 0x62, 0x29, 0x2B, 0xCB],
    [0xC4, 0x62, 0x29, 0x2C, 0x4A, 0x10], [0xC4, 0x62, 0x2D, 0x2C, 0x4A, 0x10], [0xC4, 0x62, 0x29, 0x2D, 0x4A, 0x10],
    [0xC4, 0x62, 0x2D, 0x2D, 0x4A, 0x10]].map (decode .mode64 true) = [
    .ok (.vpmulhrsw 9 10 (.reg 3)) 5, .ok (.vpermilpsX 9 10 (.reg 3)) 5, .ok (.vpermilpsY 9 10 (.reg 3)) 5,
    .ok (.vpermilpdX 9 10 (.reg 3)) 5, .ok (.vpermilpdY 9 10 (.reg 3)) 5, .ok (.vtestpsX 9 (.reg 3)) 5,
    .ok (.vtestpsY 9 (.reg 3)) 5, .ok (.vtestpdX 9 (.reg 3)) 5, .ok (.vtestpdY 9 (.reg 3)) 5, .ok (.vptestX 9 (.reg 3)) 5,
    .ok (.vptestY 9 (.reg 3)) 5, .ok (.vbroadcastssX 9 (.base 2 (.d8 16))) 6, .ok (.vbroadcastssY 9 (.base 2 (.d8 16))) 6,
    .ok (.vbroadcastsd 9 (.base 2 (.d8 16))) 6, .ok (.vbroadcastf128 9 (.base 2 (.d8 16))) 6, .ok (.vpmuldq 9 10 (.reg 3)) 5,
    .ok (.vpcmpeqq 9 10 (.reg 3)) 5, .ok (.vpackusdw 9 10 (.reg 3)) 5, .ok (.vmaskmovpsXLoad 9 10 (.base 2 (.d8 16))) 6,
    .ok (.vmaskmovpsYLoad 9 10 (.base 2 (.d8 16))) 6, .ok (.vmaskmovpdXLoad 9 10 (.base 2 (.d8 16))) 6,
    .ok (.vmaskmovpdYLoad 9 10 (.base 2 (.d8 16))) 6] := by
  decide +kernel

theorem test_decode_14 : [
    [0xC4, 0x62, 0x29, 0x2E, 0x4A, 0x10], [0xC4, 0x62, 0x2D, 0x2E, 0x4A, 0x10], [0xC4, 0x62, 0x29, 0x2F, 0x4A, 0x10],
    [0xC4, 0x62, 0x2D, 0x2F, 0x4A, 0x10], [0xC4, 0x62, 0x29, 0x37, 0xCB], [0xC4, 0x62, 0x29, 0x38, 0xCB],
    [0xC4, 0x62, 0x29, 0x39, 0xCB], [0xC4, 0x62, 0x29, 0x3A, 0xCB], [0xC4, 0x62, 0x29, 0x3B, 0xCB],
    [0xC4, 0x62, 0x29, 0x3C, 0xCB], [0xC4, 0x62, 0x29, 0x3D, 0xCB], [0xC4, 0x62, 0x29, 0x3E, 0xCB],
    [0xC4, 0x62, 0x29, 0x3F, 0xCB], [0xC4, 0x62, 0x29, 0x40, 0xCB], [0x66, 0x0F, 0x38, 0xDB, 0xCB],
    [0xC4, 0x62, 0x79, 0xDB, 0xCB], [0x66, 0x0F, 0x38, 0xDC, 0xCB], [0xC4, 0x62, 0x29, 0xDC, 0xCB],
    [0x66, 0x0F, 0x38, 0xDD, 0xCB], [0xC4, 0x62, 0x29, 0xDD, 0xCB], [0x66, 0x0F, 0x38, 0xDE, 0xCB],
    [0xC4, 0x62, 0x29, 0xDE, 0xCB]].map (decode .mode64 true) = [
    .ok (.vmaskmovpsXStore (.base 2 (.d8 16)) 10 9) 6, .ok (.vmaskmovpsYStore (.base 2 (.d8 16)) 10 9) 6,
    .ok (.vmaskmovpdXStore (.base 2 (.d8 16)) 10 9) 6, .ok (.vmaskmovpdYStore (.base 2 (.d8 16)) 10 9) 6,
    .ok (.vpcmpgtq 9 10 (.reg 3)) 5, .ok (.vpminsb 9 10 (.reg 3)) 5, .ok (.vpminsd 9 10 (.reg 3)) 5,
    .ok (.vpminuw 9 10 (.reg 3)) 5, .ok (.vpminud 9 10 (.reg 3)) 5, .ok (.vpmaxsb 9 10 (.reg 3)) 5,
    .ok (.vpmaxsd 9 10 (.reg 3)) 5, .ok (.vpmaxuw 9 10 (.reg 3)) 5, .ok (.vpmaxud 9 10 (.reg 3)) 5,
    .ok (.vpmulld 9 10 (.reg 3)) 5, .ok (.aesimc 1 (.reg 3)) 5, .ok (.vaesimc 9 (.reg 3)) 5, .ok (.aesenc 1 (.reg 3)) 5,
    .ok (.vaesenc 9 10 (.reg 3)) 5, .ok (.aesenclast 1 (.reg 3)) 5, .ok (.vaesenclast 9 10 (.reg 3)) 5,
    .ok (.aesdec 1 (.reg 3)) 5, .ok (.vaesdec 9 10 (.reg 3)) 5] := by
  decide +kernel

theorem test_decode_15 : [
    [0x66, 0x0F, 0x38, 0xDF, 0xCB], [0xC4, 0x62, 0x29, 0xDF, 0xCB], [0xC4, 0x63, 0x79, 0x04, 0xCB, 0xA5],
    [0xC4, 0x63, 0x7D, 0x04, 0xCB, 0xA5], [0xC4, 0x63, 0x79, 0x05, 0xCB, 0xA5], [0xC4, 0x63, 0x7D, 0x05, 0xCB, 0xA5],
    [0xC4, 0x63, 0x2D, 0x06, 0xCB, 0xA5], [0xC4, 0x63, 0x79, 0x08, 0xCB, 0xA5], [0xC4, 0x63, 0x7D, 0x08, 0xCB, 0xA5],
    [0xC4, 0x63, 0x79, 0x09, 0xCB, 0xA5], [0xC4, 0x63, 0x7D, 0x09, 0xCB, 0xA5], [0xC4, 0x63, 0x29, 0x0A, 0xCB, 0xA5],
    [0xC4, 0x63, 0x29, 0x0B, 0xCB, 0xA5], [0xC4, 0x63, 0x29, 0x0C, 0xCB, 0xA5], [0xC4, 0x63, 0x2D, 0x0C, 0xCB, 0xA5],
    [0xC4, 0x63, 0x29, 0x0D, 0xCB, 0xA5], [0xC4, 0x63, 0x2D, 0x0D, 0xCB, 0xA5], [0xC4, 0x63, 0x29, 0x0E, 0xCB, 0xA5],
    [0xC4, 0x63, 0x29, 0x0F, 0xCB, 0xA5], [0xC4, 0x63, 0x2D, 0x18, 0xCB, 0xA5], [0xC4, 0x63, 0x7D, 0x19, 0xCB, 0xA5],
    [0xC4, 0x63, 0x29, 0x20, 0xCB, 0xA5]].map (decode .mode64 true) = [
    .ok (.aesdeclast 1 (.reg 3)) 5, .ok (.vaesdeclast 9 10 (.reg 3)) 5, .ok (.vpermilpsXImm 9 (.reg 3) 165) 6,
    .ok (.vpermilpsYImm 9 (.reg 3) 165) 6, .ok (.vpermilpdXImm 9 (.reg 3) 165) 6, .ok (.vpermilpdYImm 9 (.reg 3) 165) 6,
    .ok (.vperm2f128 9 10 (.reg 3) 165) 6, .ok (.vroundpsX 9 (.reg 3) 165) 6, .ok (.vroundpsY 9 (.reg 3) 165) 6,
    .ok (.vroundpdX 9 (.reg 3) 165) 6, .ok (.vroundpdY 9 (.reg 3) 165) 6, .ok (.vroundss 9 10 (.reg 3) 165) 6,
    .ok (.vroundsd 9 10 (.reg 3) 165) 6, .ok (.vblendpsX 9 10 (.reg 3) 165) 6, .ok (.vblendpsY 9 10 (.reg 3) 165) 6,
    .ok (.vblendpdX 9 10 (.reg 3) 165) 6, .ok (.vblendpdY 9 10 (.reg 3) 165) 6, .ok (.vpblendw 9 10 (.reg 3) 165) 6,
    .ok (.vpalignr 9 10 (.reg 3) 165) 6, .ok (.vinsertf128 9 10 (.reg 3) 165) 6, .ok (.vextractf128 (.reg 3) 9 165) 6,
    .ok (.vpinsrb 9 10 (.reg 3) 165) 6] := by
  decide +kernel

theorem test_decode_16 : [
    [0xC4, 0x63, 0x29, 0x21, 0xCB, 0xA5], [0xC4, 0x63, 0x29, 0x22, 0xCB, 0xA5], [0xC4, 0x63, 0xA9, 0x22, 0xCB, 0xA5],
    [0xC4, 0x63, 0x29, 0x40, 0xCB, 0xA5], [0xC4, 0x63, 0x2D, 0x40, 0xCB, 0xA5], [0xC4, 0x63, 0x29, 0x41, 0xCB, 0xA5],
    [0xC4, 0x63, 0x29, 0x42, 0xCB, 0xA5], [0x66, 0x0F, 0x3A, 0x44, 0xCB, 0xA5], [0xC4, 0x63, 0x29, 0x44, 0xCB, 0xA5],
    [0xC4, 0x63, 0x29, 0x48, 0xCB, 0xC2], [0xC4, 0x63, 0xA9, 0x48, 0xCB, 0xC2], [0xC4, 0x63, 0x2D, 0x48, 0xCB, 0xC2],
    [0xC4, 0x63, 0xAD, 0x48, 0xCB, 0xC2], [0xC4, 0x63, 0x29, 0x49, 0xCB, 0xC2], [0xC4, 0x63, 0xA9, 0x49, 0xCB, 0xC2],
    [0xC4, 0x63, 0x2D, 0x49, 0xCB, 0xC2], [0xC4, 0x63, 0xAD, 0x49, 0xCB, 0xC2], [0xC4, 0x63, 0x29, 0x4A, 0xCB, 0xC0],
    [0xC4, 0x63, 0x2D, 0x4A, 0xCB, 0xC0], [0xC4, 0x63, 0x29, 0x4B, 0xCB, 0xC0], [0xC4, 0x63, 0x2D, 0x4B, 0xCB, 0xC0],
    [0xC4, 0x63, 0x29, 0x4C, 0xCB, 0xC0]].map (decode .mode64 true) = [
    .ok (.vinsertps 9 10 (.reg 3) 165) 6, .ok (.vpinsrd 9 10 (.reg 3) 165) 6, .ok (.vpinsrq 9 10 (.reg 3) 165) 6,
    .ok (.vdppsX 9 10 (.reg 3) 165) 6, .ok (.vdppsY 9 10 (.reg 3) 165) 6, .ok (.vdppd 9 10 (.reg 3) 165) 6,
    .ok (.vmpsadbw 9 10 (.reg 3) 165) 6, .ok (.pclmulqdq 1 (.reg 3) 165) 6, .ok (.vpclmulqdq 9 10 (.reg 3) 165) 6,
    .ok (.vpermil2psX 9 10 (.reg 3) 12 2) 6, .ok (.vpermil2psXW1 9 10 12 (.reg 3) 2) 6, .ok (.vpermil2psY 9 10 (.reg 3) 12 2) 6,
    .ok (.vpermil2psYW1 9 10 12 (.reg 3) 2) 6, .ok (.vpermil2pdX 9 10 (.reg 3) 12 2) 6,
    .ok (.vpermil2pdXW1 9 10 12 (.reg 3) 2) 6, .ok (.vpermil2pdY 9 10 (.reg 3) 12 2) 6,
    .ok (.vpermil2pdYW1 9 10 12 (.reg 3) 2) 6, .ok (.vblendvpsX 9 10 (.reg 3) 12) 6, .ok (.vblendvpsY 9 10 (.reg 3) 12) 6,
    .ok (.vblendvpdX 9 10 (.reg 3) 12) 6, .ok (.vblendvpdY 9 10 (.reg 3) 12) 6, .ok (.vpblendvb 9 10 (.reg 3) 12) 6] := by
  decide +kernel

theorem test_decode_17 : [
    [0xC4, 0x63, 0x29, 0x5C, 0xCB, 0xC0], [0xC4, 0x63, 0xA9, 0x5C, 0xCB, 0xC0], [0xC4, 0x63, 0x2D, 0x5C, 0xCB, 0xC0],
    [0xC4, 0x63, 0xAD, 0x5C, 0xCB, 0xC0], [0xC4, 0x63, 0x29, 0x5D, 0xCB, 0xC0], [0xC4, 0x63, 0xA9, 0x5D, 0xCB, 0xC0],
    [0xC4, 0x63, 0x2D, 0x5D, 0xCB, 0xC0], [0xC4, 0x63, 0xAD, 0x5D, 0xCB, 0xC0], [0xC4, 0x63, 0x29, 0x5E, 0xCB, 0xC0],
    [0xC4, 0x63, 0xA9, 0x5E, 0xCB, 0xC0], [0xC4, 0x63, 0x2D, 0x5E, 0xCB, 0xC0], [0xC4, 0x63, 0xAD, 0x5E, 0xCB, 0xC0],
    [0xC4, 0x63, 0x29, 0x5F, 0xCB, 0xC0], [0xC4, 0x63, 0xA9, 0x5F, 0xCB, 0xC0], [0xC4, 0x63, 0x2D, 0x5F, 0xCB, 0xC0],
    [0xC4, 0x63, 0xAD, 0x5F, 0xCB, 0xC0], [0xC4, 0x63, 0x29, 0x68, 0xCB, 0xC0], [0xC4, 0x63, 0xA9, 0x68, 0xCB, 0xC0],
    [0xC4, 0x63, 0x2D, 0x68, 0xCB, 0xC0], [0xC4, 0x63, 0xAD, 0x68, 0xCB, 0xC0], [0xC4, 0x63, 0x29, 0x69, 0xCB, 0xC0],
    [0xC4, 0x63, 0xA9, 0x69, 0xCB, 0xC0]].map (decode .mode64 true) = [
    .ok (.vfmaddsubpsX 9 10 (.reg 3) 12) 6, .ok (.vfmaddsubpsXW1 9 10 12 (.reg 3)) 6, .ok (.vfmaddsubpsY 9 10 (.reg 3) 12) 6,
    .ok (.vfmaddsubpsYW1 9 10 12 (.reg 3)) 6, .ok (.vfmaddsubpdX 9 10 (.reg 3) 12) 6, .ok (.vfmaddsubpdXW1 9 10 12 (.reg 3)) 6,
    .ok (.vfmaddsubpdY 9 10 (.reg 3) 12) 6, .ok (.vfmaddsubpdYW1 9 10 12 (.reg 3)) 6, .ok (.vfmsubaddpsX 9 10 (.reg 3) 12) 6,
    .ok (.vfmsubaddpsXW1 9 10 12 (.reg 3)) 6, .ok (.vfmsubaddpsY 9 10 (.reg 3) 12) 6, .ok (.vfmsubaddpsYW1 9 10 12 (.reg 3)) 6,
    .ok (.vfmsubaddpdX 9 10 (.reg 3) 12) 6, .ok (.vfmsubaddpdXW1 9 10 12 (.reg 3)) 6, .ok (.vfmsubaddpdY 9 10 (.reg 3) 12) 6,
    .ok (.vfmsubaddpdYW1 9 10 12 (.reg 3)) 6, .ok (.vfmaddpsX 9 10 (.reg 3) 12) 6, .ok (.vfmaddpsXW1 9 10 12 (.reg 3)) 6,
    .ok (.vfmaddpsY 9 10 (.reg 3) 12) 6, .ok (.vfmaddpsYW1 9 10 12 (.reg 3)) 6, .ok (.vfmaddpdX 9 10 (.reg 3) 12) 6,
    .ok (.vfmaddpdXW1 9 10 12 (.reg 3)) 6] := by
  decide +kernel

theorem test_decode_18 : [
    [0xC4, 0x63, 0x2D, 0x69, 0xCB, 0xC0], [0xC4, 0x63, 0xAD, 0x69, 0xCB, 0xC0], [0xC4, 0x63, 0x29, 0x6A, 0xCB, 0xC0],
    [0xC4, 0x63, 0xA9, 0x6A, 0xCB, 0xC0], [0xC4, 0x63, 0x29, 0x6B, 0xCB, 0xC0], [0xC4, 0x63, 0xA9, 0x6B, 0xCB, 0xC0],
    [0xC4, 0x63, 0x29, 0x6C, 0xCB, 0xC0], [0xC4, 0x63, 0xA9, 0x6C, 0xCB, 0xC0], [0xC4, 0x63, 0x2D, 0x6C, 0xCB, 0xC0],
    [0xC4, 0x63, 0xAD, 0x6C, 0xCB, 0xC0], [0xC4, 0x63, 0x29, 0x6D, 0xCB, 0xC0], [0xC4, 0x63, 0xA9, 0x6D, 0xCB, 0xC0],
    [0xC4, 0x63, 0x2D, 0x6D, 0xCB, 0xC0], [0xC4, 0x63, 0xAD, 0x6D, 0xCB, 0xC0], [0xC4, 0x63, 0x29, 0x6E, 0xCB, 0xC0],
    [0xC4, 0x63, 0xA9, 0x6E, 0xCB, 0xC0], [0xC4, 0x63, 0x29, 0x6F, 0xCB, 0xC0], [0xC4, 0x63, 0xA9, 0x6F, 0xCB, 0xC0],
    [0xC4, 0x63, 0x29, 0x78, 0xCB, 0xC0], [0xC4, 0x63, 0xA9, 0x78, 0xCB, 0xC0], [0xC4, 0x63, 0x2D, 0x78, 0xCB, 0xC0],
    [0xC4, 0x63, 0xAD, 0x78, 0xCB, 0xC0]].map (decode .mode64 true) = [
    .ok (.vfmaddpdY 9 10 (.reg 3) 12) 6, .ok (.vfmaddpdYW1 9 10 12 (.reg 3)) 6, .ok (.vfmaddss 9 10 (.reg 3) 12) 6,
    .ok (.vfmaddssW1 9 10 12 (.reg 3)) 6, .ok (.vfmaddsd 9 10 (.reg 3) 12) 6, .ok (.vfmaddsdW1 9 10 12 (.reg 3)) 6,
    .ok (.vfmsubpsX 9 10 (.reg 3) 12) 6, .ok (.vfmsubpsXW1 9 10 12 (.reg 3)) 6, .ok (.vfmsubpsY 9 10 (.reg 3) 12) 6,
    .ok (.vfmsubpsYW1 9 10 12 (.reg 3)) 6, .ok (.vfmsubpdX 9 10 (.reg 3) 12) 6, .ok (.vfmsubpdXW1 9 10 12 (.reg 3)) 6,
    .ok (.vfmsubpdY 9 10 (.reg 3) 12) 6, .ok (.vfmsubpdYW1 9 10 12 (.reg 3)) 6, .ok (.vfmsubss 9 10 (.reg 3) 12) 6,
    .ok (.vfmsubssW1 9 10 12 (.reg 3)) 6, .ok (.vfmsubsd 9 10 (.reg 3) 12) 6, .ok (.vfmsubsdW1 9 10 12 (.reg 3)) 6,
    .ok (.vfnmaddpsX 9 10 (.reg 3) 12) 6, .ok (.vfnmaddpsXW1 9 10 12 (.reg 3)) 6, .ok (.vfnmaddpsY 9 10 (.reg 3) 12) 6,
    .ok (.vfnmaddpsYW1 9 10 12 (.reg 3)) 6] := by
  decide +kernel

theorem test_decode_19 : [
    [0xC4, 0x63, 0x29, 0x79, 0xCB, 0xC0], [0xC4, 0x63, 0xA9, 0x79, 0xCB, 0xC0], [0xC4, 0x63, 0x2D, 0x79, 0xCB, 0xC0],
    [0xC4, 0x63, 0xAD, 0x79, 0xCB, 0xC0], [0xC4, 0x63, 0x29, 0x7A, 0xCB, 0xC0], [0xC4, 0x63, 0xA9, 0x7A, 0xCB, 0xC0],
    [0xC4, 0x63, 0x29, 0x7B, 0xCB, 0xC0], [0xC4, 0x63, 0xA9, 0x7B, 0xCB, 0xC0], [0xC4, 0x63, 0x29, 0x7C, 0xCB, 0xC0],
    [0xC4, 0x63, 0xA9, 0x7C, 0xCB, 0xC0], [0xC4, 0x63, 0x2D, 0x7C, 0xCB, 0xC0], [0xC4, 0x63, 0xAD, 0x7C, 0xCB, 0xC0],
    [0xC4, 0x63, 0x29, 0x7D, 0xCB, 0xC0], [0xC4, 0x63, 0xA9, 0x7D, 0xCB, 0xC0], [0xC4, 0x63, 0x2D, 0x7D, 0xCB, 0xC0],
    [0xC4, 0x63, 0xAD, 0x7D, 0xCB, 0xC0], [0xC4, 0x63, 0x29, 0x7E, 0xCB, 0xC0], [0xC4, 0x63, 0xA9, 0x7E, 0xCB, 0xC0],
    [0xC4, 0x63, 0x29, 0x7F, 0xCB, 0xC0], [0xC4, 0x63, 0xA9, 0x7F, 0xCB, 0xC0], [0x66, 0x0F, 0x3A, 0xDF, 0xCB, 0xA5],
    [0xC4, 0x63, 0x79, 0xDF, 0xCB, 0xA5]].map (decode .mode64 true) = [
    .ok (.vfnmaddpdX 9 10 (.reg 3) 12) 6, .ok (.vfnmaddpdXW1 9 10 12 (.reg 3)) 6, .ok (.vfnmaddpdY 9 10 (.reg 3) 12) 6,
    .ok (.vfnmaddpdYW1 9 10 12 (.reg 3)) 6, .ok (.vfnmaddss 9 10 (.reg 3) 12) 6, .ok (.vfnmaddssW1 9 10 12 (.reg 3)) 6,
    .ok (.vfnmaddsd 9 10 (.reg 3) 12) 6, .ok (.vfnmaddsdW1 9 10 12 (.reg 3)) 6, .ok (.vfnmsubpsX 9 10 (.reg 3) 12) 6,
    .ok (.vfnmsubpsXW1 9 10 12 (.reg 3)) 6, .ok (.vfnmsubpsY 9 10 (.reg 3) 12) 6, .ok (.vfnmsubpsYW1 9 10 12 (.reg 3)) 6,
    .ok (.vfnmsubpdX 9 10 (.reg 3) 12) 6, .ok (.vfnmsubpdXW1 9 10 12 (.reg 3)) 6, .ok (.vfnmsubpdY 9 10 (.reg 3) 12) 6,
    .ok (.vfnmsubpdYW1 9 10 12 (.reg 3)) 6, .ok (.vfnmsubss 9 10 (.reg 3) 12) 6, .ok (.vfnmsubssW1 9 10 12 (.reg 3)) 6,
    .ok (.vfnmsubsd 9 10 (.reg 3) 12) 6, .ok (.vfnmsubsdW1 9 10 12 (.reg 3)) 6, .ok (.aeskeygenassist 1 (.reg 3) 165) 6,
    .ok (.vaeskeygenassist 9 (.reg 3) 165) 6] := by
  decide +kernel

/-! ### Witnesses: decoding and the step -/

/-- VZEROALL as the program. -/
def clearing : State := program [0xC5, 0xFC, 0x77]

/-- VSTMXCSR [rax] as the program. -/
def storing : State := program [0xC5, 0xF8, 0xAE, 0x18]

/-- A program of terms, EncGK off, the next of them the one with this index. -/
def terms (is : List Instr) (k : Addr) : State :=
  { State.reset with par := { Params.reset with encGk := false, terms := is }, pc := k }

/-- VZEROALL; VSTMXCSR at address 16; VLDDQU with an RIP-relative operand, which no term has. -/
def threeTerms (k : Addr) : State := terms [.vzeroall, .vstmxcsr (.direct 16), .vlddquX 1 (.rip 0)] k

theorem witness_StepRunsDecodedInstruction : (clearing.par.encGk = true ∧ runOver clearing = false ∧
    decode clearing.par.mode clearing.par.encFma4 (fetchWindow clearing).1 = .ok .vzeroall 3) ∧
    (threeTerms 1).par.encGk = false ∧ (threeTerms 1).par.terms[(threeTerms 1).pc.toNat]? = some (.vstmxcsr (.direct 16)) ∧
    (Instr.vstmxcsr (.direct 16)).termOk = true := by decide +kernel

/-- At mnemonic level pc counts instructions, a store needs no bytes of the program to stay away from, an RIP-relative term is
refused, and the run ends past the last index (10_state.md R51, 30_encoding.md R111, 60_exceptions.md R518). -/
theorem test_terms : (∃ t, step (threeTerms 0) = .next t ∧ t.pc = 1) ∧
    (∃ t, step (threeTerms 1) = .next t ∧ t.pc = 2 ∧ readByte t 16 = 0x80) ∧
    step (threeTerms 2) = .refused .termForm ∧ step (threeTerms 3) = .refused .runEnded :=
  ⟨⟨_, rfl, rfl⟩, ⟨_, rfl, rfl, rfl⟩, rfl, rfl⟩

/-- Words of the opcode table as R132 numbers them, the first byte uppermost: VZEROALL, VMOVUPS xmm8, [r8], AESENC
xmm0, [rax], VFMADDPD with the `is4` byte above the table's bits 0. -/
theorem test_table_words : decodeTableWord 32 0xC4017C77 = some .vzeroall ∧
    decodeTableWord 40 0xC401781000 = some (.vmovupsX 8 (.mem (.base 8 .none))) ∧
    decodeTableWord 40 0x660F38DC00 = some (.aesenc 0 (.mem (.base 0 .none))) ∧
    decodeTableWord 40 0xC4E36969CB = some (.vfmaddpdX 1 2 (.reg 3) 0) := ⟨rfl, rfl, rfl, rfl⟩

/-- Such a word runs as the first instruction after reset. -/
theorem test_first_instruction : (∃ t, step (State.reset.withFetchWord 32 0xC4017C77) = .next t ∧ t.pc = 0x400004) ∧
    ∃ t, step (State.reset.withFetchWord 40 0x660F38DC00) = .next t ∧ t.pc = 0x400005 := ⟨⟨_, rfl, rfl⟩, _, rfl, rfl⟩

theorem witness_StepRunsEncodedInstruction :
    let s := program (encode .vzeroall)
    s.par.encGk = true ∧ runOver s = false ∧ Instr.vzeroall.wf s.par.mode = true ∧ (Instr.vzeroall.form.row.gated = true → s.par.encFma4 = true) ∧
      ∀ k, ∀ h : k < (encode .vzeroall).length, fetchInside s k = true ∧ mapped s.par (fetchAddr s k) = true ∧
        readByte s (fetchAddr s k) = (encode .vzeroall)[k] := by decide +kernel

theorem witness_DecodeOfEncode :
    (Instr.vaddpsX 15 15 (.reg 15)).wf .mode64 = true ∧ (Instr.vaddpsX 7 7 (.mem (.sib 4 3 (some 7) (.d32 1)))).wf .mode32 = true ∧
    ((Instr.vaddpsX 15 15 (.reg 15)).form.row.gated = true → false = true) ∧
    (Instr.vfmaddpdX 1 2 (.reg 3) 15).wf .mode64 = true ∧ (Instr.vfmaddpdX 1 2 (.reg 3) 15).form.row.gated = true := by decide

theorem witness_ShortAndLongPrefixAgree :
    decode .mode64 false [0xC5, 0xE8, 0x58, 0xCB] = .ok (.vaddpsX 1 2 (.reg 3)) 4 ∧
    decode .mode64 false [0xC4, 0xE1, 0x68, 0x58, 0xCB] = .ok (.vaddpsX 1 2 (.reg 3)) 5 := by decide +kernel

/-- The row of VPERMILPS with a control vector is marked W0 and has no W1 row beside it. -/
theorem witness_IllegalEncodingsAreUd_w : (Instr.vpermilpsX 1 2 (.reg 3)).form.row.w = .w0 ∧
    ∀ f : Form, f.row.map = .m0F38 → f.row.op = 0x0C → f.row.pp = .p66 → f.row.w ≠ .w1 :=
  ⟨rfl, fun f => by cases f <;> decide⟩

theorem witness_IllegalEncodingsAreUd :
    startsVex .mode64 [0xC4] = some true ∧ startsVex .mode32 [0xC5, 0xC0] = some true ∧ ((0x40 : Byte).extractLsb' 4 4 = 4) ∧
    ((0x4F : Byte).extractLsb' 4 4 = 4) ∧
    (Instr.vmovupsX 1 (.reg 2)).wf .mode32 = true ∧ (Instr.vmovupsX 1 (.reg 2)).form.row.enc.usesV = false ∧
    (Instr.vmovupsX 1 (.reg 2)).form.row.len ≠ .leg ∧ Mode.mode32.names 7 = true ∧ Mode.mode64.names 15 = true ∧
    Mode.mode32.names 8 = false ∧ atRax.wf .mode32 = true ∧ (Instr.vldmxcsr atRax).form = .vldmxcsr ∧
    (Instr.vldmxcsr atRax).wf .mode32 = true ∧ (Instr.vperm2f128 1 2 (.reg 3) 0).wf .mode64 = true ∧
    (Instr.vperm2f128 1 2 (.reg 3) 0).form = .vperm2f128 ∧
    ((0xE0 : Byte).extractLsb' 0 5 = 0) ∧ ((0xE4 : Byte).extractLsb' 0 5 = 4) ∧ ((0xFF : Byte).extractLsb' 0 5 = 31) := by
  decide

/-- The opcode of VPADDB is listed with L = 128 only. -/
theorem witness_ReservedEncodingsAreRefused : (Instr.vpaddb 1 2 (.reg 3)).wf .mode32 = true ∧
    (Instr.vpaddb 1 2 (.reg 3)).form.row.len = .l128 ∧ (Instr.vpaddb 1 2 (.reg 3)).form.row.gated = false ∧
    (∀ f : Form, f.row.map = .m0F → f.row.op = 0xFC → f.row.pp = .p66 → f.row.len = .l128 ∨ f.row.len = .leg) ∧
    (Instr.vfmaddss 1 2 (.reg 3) 4).wf .mode64 = true ∧ (Instr.vfmaddss 1 2 (.reg 3) 4).form.row.gated = true :=
  ⟨rfl, rfl, rfl, fun f => by cases f <;> decide, rfl, rfl⟩

/-- The shortest length and the longest. -/
theorem witness_DecodedInstructionsAreWellFormed : decode .mode32 false [0xC5, 0xFC, 0x77] = .ok .vzeroall 3 ∧
    decode .mode64 false [0x66, 0x4F, 0x0F, 0x3A, 0xDF, 0x8C, 0x88, 1, 0, 0, 0, 7] =
      .ok (.aeskeygenassist 9 (.mem (.sib 8 2 (some 9) (.d32 1))) 7) 12 := by decide +kernel

theorem step_clearing : ∃ t, step clearing = .next t := ⟨_, rfl⟩

theorem witness_StepKeepsInvariant : Inv clearing ∧ ∃ t, step clearing = .next t :=
  ⟨⟨by decide +kernel, by decide +kernel, by decide +kernel⟩, step_clearing⟩

/-- UD, GP(0), PF and XM each from one step, and all six flags masked. -/
theorem witness_StepRaisesOnlyListedFaults :
    step (program [0xF0, 0xC5, 0xFC, 0x77]) = .fault .ud ∧ step (program [0xC5, 0xF8, 0x28, 0x48, 0x08]) = .fault .gp0 ∧
    step (loadProgram { State.reset with par := { Params.reset with memMap := [] } } [0xC5, 0xFB, 0xF0, 0x08]) =
      .fault (.pf 0) ∧
    step { setYmm (program [0xC5, 0xF8, 0x51, 0xCA]) 2 0xBF800000 with mxcsr := 0 } = .fault (.xm flIE) ∧
    fpMasks State.reset = 0x3F := ⟨rfl, rfl, rfl, rfl, by decide⟩

theorem witness_OnlyNamedInstructionsWriteEachState :
    (∃ t, exec (.vaddpsX 1 2 (.reg 3)) State.reset = .next t) ∧ (∃ t, exec (.vptestX 1 (.reg 2)) State.reset = .next t) ∧
    (∃ t, exec (.vldmxcsr atRax) State.reset = .next t) ∧ (∃ t, exec (.vmovmskpsX 1 2) s32 = .next t) ∧
    (∃ t, exec (.vstmxcsr atRax) State.reset = .next t) ∧ (∃ t, exec .vzeroall s32 = .next t) :=
  ⟨⟨_, rfl⟩, ⟨_, rfl⟩, ⟨_, rfl⟩, ⟨_, rfl⟩, ⟨_, rfl⟩, ⟨_, rfl⟩⟩

/-- In Mode32 an instruction across the top of the address space. -/
theorem witness_StepAdvancesByTheEncodedLength : (∃ t, step clearing = .next t) ∧
    (∃ t, step (loadProgram { s32 with pc := 0xFFFFFFFE } [0xC5, 0xFC, 0x77]) = .next t ∧ t.pc = 1) ∧
    ∃ t, step (threeTerms 0) = .next t :=
  ⟨step_clearing, ⟨_, rfl, rfl⟩, _, rfl⟩

/-- Log 33: an instruction that ends at the last address of Mode64. -/
theorem test_pc_wraps : ∃ t, step (loadProgram { State.reset with pc := 0xFFFFFFFFFFFFFFFD } [0xC5, 0xFC, 0x77]) = .next t ∧ t.pc = 0 :=
  ⟨_, rfl, rfl⟩

theorem witness_StepWritesOnlyWritableBytes : readByte storing 0 = 0 ∧ ∃ t, step storing = .next t ∧ readByte t 0 = 0x80 :=
  ⟨rfl, _, rfl, rfl⟩

/-! ### Witnesses: memory -/

/-- Bit 47 alone is not canonical, the highest address of the low half is; one byte past the mapped ones fails. -/
theorem witness_AccessChecksInOrder :
    (∃ j, 47 ≤ j ∧ j < 64 ∧ (0x0000800000000000 : Addr).getLsbD j ≠ (0x0000800000000000 : Addr).getLsbD 63) ∧
    (¬ ∃ j, 47 ≤ j ∧ j < 64 ∧ (0x00007FFFFFFFFFFF : Addr).getLsbD j ≠ (0x00007FFFFFFFFFFF : Addr).getLsbD 63) ∧
    (8 : Addr).toNat % 16 ≠ 0 ∧ (8 : Addr).toNat % 8 = 0 ∧
    (∃ x ∈ spanOf .mode64 8 16, mapped readOnly.par x = false) ∧ (spanOf .mode64 0 16).all (mapped readOnly.par) = true := by
  refine ⟨⟨47, by decide, by decide, by decide⟩, ?_, by decide, by decide, ⟨16, by decide, by decide⟩, by rfl⟩
  rintro ⟨j, h1, h2, h3⟩
  interval_cases j <;> exact absurd h3 (by decide)

theorem witness_LoadsAndStoresAreLittleEndian : load State.reset 0 128 16 = .ok 0 ∧
    load s32 0xFFFFFFF8 128 1 = .ok 0 ∧ State.reset.mem.wf = true ∧
    (∃ t, store s32 0xFFFFFFFE 1 (0x11223344 : BitVec 32) = .ok t) ∧ 128 % 8 = 0 :=
  ⟨rfl, rfl, by decide, ⟨_, rfl⟩, by decide⟩

theorem witness_MisalignedOperandsFault : State.reset.par.mode.names 15 = true ∧
    memOpNamed .mode64 (.base 0 (.d8 8)) = true ∧ addressOk .mode64 (effAddr State.reset (.base 0 (.d8 8))) = true ∧
    (effAddr State.reset (.base 0 (.d8 8))).toNat % 16 ≠ 0 ∧ (effAddr State.reset (.base 0 (.d8 16))).toNat % 16 = 0 ∧
    (effAddr State.reset (.base 0 (.d8 16))).toNat % 32 ≠ 0 := by decide

/-! ### Witnesses: numbers -/

/-- Round to nearest, nothing flushed. -/
def near : Ctl := { rc := 0, fz := false, daz := false }

theorem value_zero : value (F := .f32) 0#32 = 0 := by simp [value, signOf, expOf, fracOf]

theorem value_one : value (F := .f32) 0x3F800000#32 = 1 := by
  have h1 : signOf (F := .f32) 0x3F800000#32 = false := by decide
  have h2 : expOf (F := .f32) 0x3F800000#32 = 127 := by decide
  have h3 : fracOf (F := .f32) 0x3F800000#32 = 0 := by decide
  simp [value, h1, h2, h3, Fmt.bias]

theorem value_minus_one : value (F := .f32) 0xBF800000#32 = -1 := by
  have h1 : signOf (F := .f32) 0xBF800000#32 = true := by decide
  have h2 : expOf (F := .f32) 0xBF800000#32 = 127 := by decide
  have h3 : fracOf (F := .f32) 0xBF800000#32 = 0 := by decide
  simp [value, h1, h2, h3, Fmt.bias]

theorem value_quarter : value (F := .f32) 0x3E800000#32 = 1 / 4 := by
  have h1 : signOf (F := .f32) 0x3E800000#32 = false := by decide
  have h2 : expOf (F := .f32) 0x3E800000#32 = 125 := by decide
  have h3 : fracOf (F := .f32) 0x3E800000#32 = 0 := by decide
  simp only [value, h1, h2, h3, Fmt.bias]
  norm_num

/-- -2^31. -/
theorem value_lowest : value (F := .f32) 0xCF000000#32 = -2147483648 := by
  have h1 : signOf (F := .f32) 0xCF000000#32 = true := by decide
  have h2 : expOf (F := .f32) 0xCF000000#32 = 158 := by decide
  have h3 : fracOf (F := .f32) 0xCF000000#32 = 0 := by decide
  simp only [value, h1, h2, h3, Fmt.bias]
  norm_num

/-- 2^31. -/
theorem value_above : value (F := .f32) 0x4F000000#32 = 2147483648 := by
  have h1 : signOf (F := .f32) 0x4F000000#32 = false := by decide
  have h2 : expOf (F := .f32) 0x4F000000#32 = 158 := by decide
  have h3 : fracOf (F := .f32) 0x4F000000#32 = 0 := by decide
  simp only [value, h1, h2, h3, Fmt.bias]
  norm_num

theorem exactRint_nat (n : Nat) (s : Bool) (rc : BitVec 2) : exactRint (n : ℝ) s rc = ((n : Int), false) := by
  simp [exactRint]

theorem exactRint_quarter : exactRint (1 / 4) false 0 = (0, true) := by
  have h : ⌊(1 / 4 : ℝ)⌋ = 0 := by rw [Int.floor_eq_iff]; norm_num
  unfold exactRint
  simp only [h]
  norm_num

/-- 3/2 is inexact, 4/2 is exact. -/
theorem witness_RoundingToAnInteger : 0 < 2 ∧ ((3 : ℕ) : ℝ) / (2 : ℕ) - ⌊((3 : ℕ) : ℝ) / (2 : ℕ)⌋ ≠ 0 ∧
    ((4 : ℕ) : ℝ) / (2 : ℕ) - ⌊((4 : ℕ) : ℝ) / (2 : ℕ)⌋ = 0 := by
  have h : ⌊((3 : ℕ) : ℝ) / (2 : ℕ)⌋ = 1 := by rw [Int.floor_eq_iff]; norm_num
  have h' : ⌊((4 : ℕ) : ℝ) / (2 : ℕ)⌋ = 2 := by rw [Int.floor_eq_iff]; norm_num
  rw [h, h']
  norm_num

theorem witness_RoundingAndPacking : 0 < (⟨3, 2, -200⟩ : Mag).num ∧ 0 < (⟨3, 2, -200⟩ : Mag).den ∧ (0 : ℝ) < 3 / 4 := by
  norm_num

/-- The least NaN pattern is signalling; the pattern below it is infinity. -/
theorem witness_NaNOperandsOfArithmetic : isNaN (F := .f32) 0x7F800001#32 = true ∧ isSNaN (F := .f32) 0x7F800001#32 = true ∧
    isNaN (F := .f32) 0x7F800000#32 = false ∧ isNaN (F := .f64) 0xFFF8000000000000#64 = true ∧
    isSNaN (F := .f64) 0xFFF8000000000000#64 = false := by decide

/-- Each case of the sum: NaN, infinities of both kinds, the sum 1 + -1, the sum 1 + 1. -/
theorem witness_AdditionAndSubtraction : daz (F := .f32) near 0x3F800000#32 = 0x3F800000#32 ∧
    isNaN (F := .f32) 0x7FC00000#32 = true ∧ isInf (F := .f32) 0x7F800000#32 = true ∧ isInf (F := .f32) 0xFF800000#32 = true ∧
    signOf (F := .f32) 0x7F800000#32 ≠ signOf (F := .f32) 0xFF800000#32 ∧ isInf (F := .f32) 0x3F800000#32 = false ∧
    isNaN (F := .f32) 0x3F800000#32 = false ∧
    value (F := .f32) 0x3F800000#32 + value (F := .f32) 0xBF800000#32 = 0 ∧
    value (F := .f32) 0x3F800000#32 - value (F := .f32) 0xBF800000#32 ≠ 0 := by
  refine ⟨by decide, by decide, by decide, by decide, by decide, by decide, by decide, ?_, ?_⟩ <;>
    rw [value_one, value_minus_one] <;> norm_num

/-- Operands of every kind: NaN, infinity, zero, the least denormal with and without DAZ, one. -/
theorem witness_MultiplicationAndDivision : isNaN (F := .f64) 0x7FF0000000000001#64 = true ∧
    isInf (F := .f64) 0x7FF0000000000000#64 = true ∧ isZero (F := .f64) 0x8000000000000000#64 = true ∧
    isDenormal (F := .f64) 1#64 = true ∧ isZero (F := .f64) 1#64 = false ∧
    isZero (daz (F := .f64) { near with daz := true } 1#64) = true ∧ isInf (F := .f64) 0x3FF0000000000000#64 = false ∧
    isZero (F := .f64) 0x3FF0000000000000#64 = false ∧ isNaN (F := .f64) 0x3FF0000000000000#64 = false := by decide

theorem witness_SquareRoot : isNaN (F := .f32) 0x7FC00000#32 = true ∧ isZero (F := .f32) 0x80000000#32 = true ∧
    (isNaN (F := .f32) 0xBF800000#32 = false ∧ isZero (F := .f32) 0xBF800000#32 = false ∧ signOf (F := .f32) 0xBF800000#32 = true) ∧
    (isInf (F := .f32) 0x7F800000#32 = true ∧ signOf (F := .f32) 0x7F800000#32 = false) ∧
    isNaN (F := .f32) 1#32 = false ∧ isZero (F := .f32) 1#32 = false ∧ isInf (F := .f32) 1#32 = false ∧
    signOf (F := .f32) 1#32 = false := by decide

theorem extValue_zero : extValue (F := .f32) 0#32 = 0 := by
  have h : isInf (F := .f32) 0#32 = false := by decide
  simp [extValue, h, value_zero]

theorem extValue_one : extValue (F := .f32) 0x3F800000#32 = 1 := by
  have h : isInf (F := .f32) 0x3F800000#32 = false := by decide
  simp [extValue, h, value_one]

/-- 0 is less than 1, 1 than infinity, and 1 equals 1; two zeros; a NaN. -/
theorem witness_MaximumAndMinimum : extValue (F := .f32) 0#32 < extValue (F := .f32) 0x3F800000#32 ∧
    extValue (F := .f32) 0x3F800000#32 < extValue (F := .f32) 0x7F800000#32 ∧
    isZero (F := .f32) 0#32 = true ∧ isZero (F := .f32) 0x80000000#32 = true ∧ isNaN (F := .f32) 0x3F800000#32 = false ∧
    isNaN (F := .f32) 0x7F800000#32 = false ∧ isNaN (F := .f32) 0xFFC00000#32 = true := by
  have h : isInf (F := .f32) 0x7F800000#32 = true := by decide
  have h' : signOf (F := .f32) 0x7F800000#32 = false := by decide
  refine ⟨?_, ?_, by decide, by decide, by decide, by decide, by decide⟩
  · rw [extValue_zero, extValue_one]; norm_num
  · rw [extValue_one]; simp [extValue, h, h']; exact EReal.coe_lt_top 1

/-- Each relation: UN, LT, EQ and GT. -/
theorem witness_ComparisonPredicates : isNaN (F := .f32) 0x7FC00000#32 = true ∧ isNaN (F := .f32) 0#32 = false ∧
    isNaN (F := .f32) 0x3F800000#32 = false ∧ extValue (F := .f32) 0#32 < extValue (F := .f32) 0x3F800000#32 ∧
    extValue (F := .f32) 0x3F800000#32 = extValue (F := .f32) 0x3F800000#32 := by
  refine ⟨by decide, by decide, by decide, ?_, rfl⟩
  rw [extValue_zero, extValue_one]; norm_num

theorem witness_ConversionsToAFormat : Fmt.f32 ≠ .f64 ∧ isNaN (F := .f64) 0xFFF0000000000001#64 = true ∧
    isInf (F := .f64) 0xFFF0000000000000#64 = true ∧ isZero (F := .f32) 0x80000000#32 = true ∧
    (isNaN (F := .f32) 1#32 = false ∧ isInf (F := .f32) 1#32 = false ∧ isZero (F := .f32) 1#32 = false) ∧
    (0 : BitVec 64).toInt = 0 ∧ (0x80000000 : BitVec 32).toInt ≠ 0 := by decide

/-- NaN, infinity, zero; -2^31 fits 32 bits and 2^31 does not. -/
theorem witness_ConversionToAnInteger : isNaN (F := .f32) 0x7FC00000#32 = true ∧ isInf (F := .f32) 0xFF800000#32 = true ∧
    isZero (F := .f32) 0x80000000#32 = true ∧
    (isNaN (F := .f32) 0xCF000000#32 = false ∧ isInf (F := .f32) 0xCF000000#32 = false ∧
      isZero (F := .f32) 0xCF000000#32 = false ∧
      -2 ^ (32 - 1) ≤ -(exactRint |value (F := .f32) 0xCF000000#32| (signOf (F := .f32) 0xCF000000#32) 0).1) ∧
    isNaN (F := .f32) 0x4F000000#32 = false ∧ isInf (F := .f32) 0x4F000000#32 = false ∧
    isZero (F := .f32) 0x4F000000#32 = false ∧
    2 ^ (32 - 1) - 1 < (exactRint |value (F := .f32) 0x4F000000#32| (signOf (F := .f32) 0x4F000000#32) 0).1 := by
  have e : ∀ s, exactRint (2147483648 : ℝ) s 0 = (2147483648, false) := fun s => by
    simpa using exactRint_nat 2147483648 s 0
  refine ⟨by decide, by decide, by decide, ⟨by decide, by decide, by decide, ?_⟩, by decide, by decide, by decide, ?_⟩
  · rw [value_lowest, abs_neg, abs_of_pos (by norm_num), e]; norm_num
  · rw [value_above, abs_of_pos (by norm_num), e]; norm_num

/-- 1/4 rounds to 0, 1 to itself. -/
theorem witness_RoundingToAnIntegralValue : isNaN (F := .f32) 0x7F800001#32 = true ∧ isInf (F := .f32) 0x7F800000#32 = true ∧
    (isNaN (F := .f32) 0x3E800000#32 = false ∧ isInf (F := .f32) 0x3E800000#32 = false ∧
      isZero (F := .f32) 0x3E800000#32 = false ∧
      (exactRint |value (F := .f32) 0x3E800000#32| (signOf (F := .f32) 0x3E800000#32) 0).1 = 0) ∧
    isNaN (F := .f32) 0x3F800000#32 = false ∧ isInf (F := .f32) 0x3F800000#32 = false ∧
    isZero (F := .f32) 0x3F800000#32 = false ∧
    (exactRint |value (F := .f32) 0x3F800000#32| (signOf (F := .f32) 0x3F800000#32) 0).1 ≠ 0 := by
  have h : signOf (F := .f32) 0x3E800000#32 = false := by decide
  have e : ∀ s, exactRint (1 : ℝ) s 0 = (1, false) := fun s => by simpa using exactRint_nat 1 s 0
  refine ⟨by decide, by decide, ⟨by decide, by decide, by decide, ?_⟩, by decide, by decide, by decide, ?_⟩
  · rw [value_quarter, abs_of_pos (by norm_num), h, exactRint_quarter]
  · rw [value_one, abs_one, e]; norm_num

/-- NaN; infinity times zero; an infinite factor; an infinite addend; 1 * 1 + -1; 1 * 1 - -1. -/
theorem witness_FusedMultiplyAdd : isNaN (F := .f32) 0x7F800001#32 = true ∧
    ((isInf (F := .f32) 0x7F800000#32 && isZero (F := .f32) 0#32) = true) ∧ isNaN (F := .f32) 0x3F800000#32 = false ∧
    isNaN (F := .f32) 0xBF800000#32 = false ∧ isInf (F := .f32) 0x3F800000#32 = false ∧ isInf (F := .f32) 0xFF800000#32 = true ∧
    isInf (F := .f32) 0xBF800000#32 = false ∧
    value (F := .f32) 0x3F800000#32 * value (F := .f32) 0x3F800000#32 + value (F := .f32) 0xBF800000#32 = 0 ∧
    value (F := .f32) 0x3F800000#32 * value (F := .f32) 0x3F800000#32 + -value (F := .f32) 0xBF800000#32 ≠ 0 := by
  refine ⟨by decide, by decide, by decide, by decide, by decide, by decide, by decide, ?_, ?_⟩ <;>
    rw [value_one, value_minus_one] <;> norm_num

/-- NaN, zero, the greatest denormal, infinities, the least normal number, a negative one. -/
theorem witness_ReciprocalApproximations : isNaN (F := .f32) 0x7FC00000#32 = true ∧ isZero (F := .f32) 0x80000000#32 = true ∧
    isDenormal (F := .f32) 0x007FFFFF#32 = true ∧ isInf (F := .f32) 0x7F800000#32 = true ∧
    signOf (F := .f32) 0x7F800000#32 = false ∧ isNormal (F := .f32) 0x00800000#32 = true ∧
    signOf (F := .f32) 0x00800000#32 = false ∧ isNormal (F := .f32) 0xBF800000#32 = true ∧
    signOf (F := .f32) 0xBF800000#32 = true ∧ isInf (F := .f32) 0xFF800000#32 = true := by decide

/-! ### Witnesses: the families -/

/-- `[rax + 8]`. -/
def atRax8 : MemOp := .base 0 (.d8 8)

theorem witness_VectorCopiesAndLoads : Reads 128 1 State.reset [15] (.reg 15) 0 ∧ Reads 128 1 s32 [7] (.mem atRax8) 0 ∧
    Reads 256 1 State.reset [15] (.mem atRax8) 0 ∧ Reads 128 16 State.reset [15] (.mem atRax) 0 ∧
    Reads 256 32 s32 [7] (.mem atRax) 0 ∧ Reads 256 32 s32 [7] (.reg 7) 0 ∧ Reads 32 1 State.reset [15] (.mem atRax8) 0 ∧
    Reads 64 1 State.reset [15] (.mem (.rip 0)) 0 := by
  refine ⟨⟨?_, ?_, rfl⟩, ⟨?_, ?_, rfl⟩, ⟨?_, ?_, rfl⟩, ⟨?_, ?_, rfl⟩, ⟨?_, ?_, rfl⟩, ⟨?_, ?_, rfl⟩, ⟨?_, ?_, rfl⟩, ⟨?_, ?_, rfl⟩⟩ <;>
    decide

theorem witness_VectorStores : Stores 16 1 State.reset [15] atRax8 ∧ Stores 32 1 s32 [7] atRax8 ∧
    Stores 16 16 State.reset [15] atRax ∧ Stores 32 32 State.reset [15] atRax ∧ Stores 4 1 State.reset [15] atRax8 ∧
    Stores 8 1 s32 [7] atRax8 ∧ Stores 4 1 State.reset [] atRax8 ∧ [15, 15].all State.reset.par.mode.names = true := by
  refine ⟨⟨?_, ?_, rfl, rfl, ?_⟩, ⟨?_, ?_, rfl, rfl, ?_⟩, ⟨?_, ?_, rfl, rfl, ?_⟩, ⟨?_, ?_, rfl, rfl, ?_⟩, ⟨?_, ?_, rfl, rfl, ?_⟩,
    ⟨?_, ?_, rfl, rfl, ?_⟩, ⟨?_, ?_, rfl, rfl, ?_⟩, ?_⟩ <;> decide

theorem witness_ScalarAndHalfMoves : [15, 0, 15].all State.reset.par.mode.names = true ∧
    [7, 0, 7].all s32.par.mode.names = true ∧ Reads 64 1 State.reset [15, 15] (.mem atRax8) 0 := by
  refine ⟨?_, ?_, ⟨?_, ?_, rfl⟩⟩ <;> decide

theorem witness_DuplicationsAndPermutations : Reads 64 1 State.reset [15] (.reg 15) 0 ∧
    Reads 64 1 State.reset [15] (.mem atRax8) 0 ∧ Reads 128 1 s32 [7] (.mem atRax8) 0 ∧
    Reads 256 1 State.reset [15] (.mem atRax8) 0 ∧ Reads 128 1 State.reset [15, 15] (.reg 15) 0 ∧
    Reads 256 1 s32 [7, 7] (.mem atRax8) 0 := by
  refine ⟨⟨?_, ?_, rfl⟩, ⟨?_, ?_, rfl⟩, ⟨?_, ?_, rfl⟩, ⟨?_, ?_, rfl⟩, ⟨?_, ?_, rfl⟩, ⟨?_, ?_, rfl⟩⟩ <;> decide

theorem witness_TwoSourcePermutations : State.reset.par.permil2Sem = true ∧ noPermil2.par.permil2Sem = false ∧
    Reads 128 1 State.reset [15, 15, 15] (.reg 15) 0 ∧ Reads 256 1 State.reset [15, 15, 15] (.mem atRax8) 0 := by
  refine ⟨?_, ?_, ⟨?_, ?_, rfl⟩, ⟨?_, ?_, rfl⟩⟩ <;> decide

theorem witness_ShufflesAndUnpacks : Reads 128 1 State.reset [15, 15] (.mem atRax8) 0 ∧ Reads 256 1 s32 [7, 7] (.reg 7) 0 := by
  refine ⟨⟨?_, ?_, rfl⟩, ⟨?_, ?_, rfl⟩⟩ <;> decide

theorem witness_IntegerShuffles : Reads 128 1 State.reset [15] (.mem atRax8) 0 ∧ Reads 128 1 s32 [7, 7] (.reg 7) 0 := by
  refine ⟨⟨?_, ?_, rfl⟩, ⟨?_, ?_, rfl⟩⟩ <;> decide

theorem witness_BlendsAndInsertPs : Reads 128 1 State.reset [15, 15] (.reg 15) 0 ∧ Reads 256 1 s32 [7, 7] (.mem atRax8) 0 ∧
    Reads 128 1 State.reset [15, 15, 15] (.mem atRax8) 0 ∧ Reads 256 1 State.reset [15, 15, 15] (.reg 15) 0 ∧
    Reads 32 1 State.reset [15, 15] (.mem atRax8) 0 := by
  refine ⟨⟨?_, ?_, rfl⟩, ⟨?_, ?_, rfl⟩, ⟨?_, ?_, rfl⟩, ⟨?_, ?_, rfl⟩, ⟨?_, ?_, rfl⟩⟩ <;> decide

theorem witness_BitwiseLogic : Reads 128 1 State.reset [15, 15] (.reg 15) 0 ∧ Reads 256 1 s32 [7, 7] (.mem atRax8) 0 := by
  refine ⟨⟨?_, ?_, rfl⟩, ⟨?_, ?_, rfl⟩⟩ <;> decide

theorem witness_IntegerSumsAndDifferences : Reads 128 1 State.reset [15, 15] (.reg 15) 0 ∧
    Reads 128 1 s32 [7, 7] (.mem atRax8) 0 := by
  refine ⟨⟨?_, ?_, rfl⟩, ⟨?_, ?_, rfl⟩⟩ <;> decide

theorem witness_IntegerComparisons : Reads 128 1 State.reset [0, 15] (.reg 0) 0 ∧ Reads 128 1 s32 [0, 7] (.mem (.abs 0)) 0 := by
  refine ⟨⟨?_, ?_, rfl⟩, ⟨?_, ?_, rfl⟩⟩ <;> decide

theorem witness_IntegerProducts : Reads 128 1 (two 7 9) [1, 2] (.reg 3) 9 ∧ Reads 128 1 s32 [7, 7] (.mem atRax8) 0 := by
  refine ⟨⟨?_, ?_, rfl⟩, ⟨?_, ?_, rfl⟩⟩ <;> decide

theorem witness_PacksAndInsertions : Reads 128 1 State.reset [15, 15] (.reg 15) 0 ∧ ReadsGpr 8 s32 [7, 7] (.reg 7) 0 ∧
    ReadsGpr 16 State.reset [15, 15] (.mem atRax8) 0 ∧ ReadsGpr 32 State.reset [15, 15] (.reg 15) 0 ∧
    State.reset.par.mode = .mode64 ∧ ReadsGpr 64 State.reset [15, 15] (.mem atRax8) 0 ∧ s32.par.mode = .mode32 := by
  refine ⟨⟨?_, ?_, rfl⟩, ⟨?_, ?_, rfl⟩, ⟨?_, ?_, rfl⟩, ⟨?_, ?_, rfl⟩, ?_, ⟨?_, ?_, rfl⟩, ?_⟩ <;> decide

theorem witness_Shifts : [15, 15].all State.reset.par.mode.names = true ∧ Reads 128 1 (two 1 64) [1, 2] (.reg 3) 64 ∧
    Reads 128 1 s32 [7, 7] (.mem atRax8) 0 := by
  refine ⟨?_, ⟨?_, ?_, rfl⟩, ⟨?_, ?_, rfl⟩⟩ <;> decide

/-- The flags of 1 / 0 are masked in the reset state and unmasked where MXCSR is 0. -/
theorem flags_masked_and_unmasked :
    unmaskedFlags State.reset (fdiv .f32 (ctl State.reset) 0x3F800000#32 0#32).2 = 0 ∧
    unmaskedFlags unmasked (fdiv .f32 (ctl unmasked) 0x3F800000#32 0#32).2 = flZE := by decide +kernel

theorem witness_PackedArithmetic : Reads 128 1 State.reset [15, 15] (.reg 15) 0 ∧ Reads 256 1 unmasked [15, 15] (.mem atRax8) 0 ∧
    Reads 256 1 s32 [7, 7] (.reg 7) 0 := by
  refine ⟨⟨?_, ?_, rfl⟩, ⟨?_, ?_, rfl⟩, ⟨?_, ?_, rfl⟩⟩ <;> decide

theorem witness_PackedRootsRoundingsAndCompares : Reads 128 1 State.reset [15] (.reg 15) 0 ∧
    Reads 256 1 unmasked [15] (.mem atRax8) 0 ∧ Reads 128 1 s32 [7, 7] (.mem atRax8) 0 ∧ Reads 256 1 unmasked [15, 0] (.reg 15) 0 := by
  refine ⟨⟨?_, ?_, rfl⟩, ⟨?_, ?_, rfl⟩, ⟨?_, ?_, rfl⟩, ⟨?_, ?_, rfl⟩⟩ <;> decide

theorem witness_ScalarArithmetic : Reads 32 1 State.reset [15, 15] (.reg 15) 0 ∧ Reads 64 1 unmasked [15, 15] (.mem atRax8) 0 ∧
    ReadsGpr 32 s32 [7, 7] (.reg 7) 0 ∧ State.reset.par.mode = .mode64 ∧ ReadsGpr 64 State.reset [15, 15] (.reg 15) 0 ∧
    s32.par.mode = .mode32 := by
  refine ⟨⟨?_, ?_, rfl⟩, ⟨?_, ?_, rfl⟩, ⟨?_, ?_, rfl⟩, ?_, ⟨?_, ?_, rfl⟩, ?_⟩ <;> decide

theorem witness_HorizontalAndAlternatingArithmetic : Reads 128 1 State.reset [15, 15] (.reg 15) 0 ∧
    Reads 256 1 unmasked [15, 15] (.mem atRax8) 0 := by
  refine ⟨⟨?_, ?_, rfl⟩, ⟨?_, ?_, rfl⟩⟩ <;> decide

theorem witness_DotProducts : Reads 128 1 State.reset [15, 15] (.reg 15) 0 ∧ Reads 256 1 unmasked [15, 15] (.mem atRax8) 0 := by
  refine ⟨⟨?_, ?_, rfl⟩, ⟨?_, ?_, rfl⟩⟩ <;> decide

theorem witness_ApproximationInstructions : Reads 128 1 State.reset [15] (.reg 15) 0 ∧ Reads 256 1 s32 [7] (.mem atRax8) 0 ∧
    Reads 32 1 unmasked [15, 15] (.mem atRax8) 0 := by
  refine ⟨⟨?_, ?_, rfl⟩, ⟨?_, ?_, rfl⟩, ⟨?_, ?_, rfl⟩⟩ <;> decide

theorem witness_PackedMultiplyAdd : Reads 128 1 State.reset [15, 15, 15] (.reg 15) 0 ∧
    Reads 256 1 unmasked [15, 0, 15] (.mem atRax8) 0 ∧ Reads 256 1 s32 [7, 7, 7] (.reg 7) 0 := by
  refine ⟨⟨?_, ?_, rfl⟩, ⟨?_, ?_, rfl⟩, ⟨?_, ?_, rfl⟩⟩ <;> decide

theorem witness_ScalarMultiplyAdd : Reads 32 1 State.reset [15, 15, 15] (.reg 15) 0 ∧
    Reads 64 1 unmasked [15, 0, 15] (.mem atRax8) 0 := by
  refine ⟨⟨?_, ?_, rfl⟩, ⟨?_, ?_, rfl⟩⟩ <;> decide

theorem witness_PackedConversions : Reads 64 1 State.reset [15] (.mem atRax8) 0 ∧ Reads 128 1 unmasked [15] (.reg 15) 0 ∧
    Reads 256 1 s32 [7] (.reg 7) 0 := by
  refine ⟨⟨?_, ?_, rfl⟩, ⟨?_, ?_, rfl⟩, ⟨?_, ?_, rfl⟩⟩ <;> decide

theorem witness_ResultsInGeneralRegisters : Reads 32 1 State.reset [15] (.reg 15) 0 ∧ Reads 64 1 unmasked [15] (.mem atRax8) 0 ∧
    State.reset.par.mode = .mode64 ∧ s32.par.mode = .mode32 ∧ Reads 32 1 s32 [7] (.mem atRax8) 0 ∧
    [7, 7].all s32.par.mode.names = true ∧ [15, 15].all State.reset.par.mode.names = true := by
  refine ⟨⟨?_, ?_, rfl⟩, ⟨?_, ?_, rfl⟩, ?_, ?_, ⟨?_, ?_, rfl⟩, ?_, ?_⟩ <;> decide

theorem witness_AesAndCarrylessMultiplication : Reads 128 1 State.reset [15, 15] (.mem atRax8) 0 ∧
    Reads 128 1 s32 [7] (.reg 7) 0 ∧ Reads 128 16 State.reset [15] (.mem atRax) 0 ∧ Reads 128 16 s32 [7] (.reg 7) 0 := by
  refine ⟨⟨?_, ?_, rfl⟩, ⟨?_, ?_, rfl⟩, ⟨?_, ?_, rfl⟩, ⟨?_, ?_, rfl⟩⟩ <;> decide

/-- A mask that selects element 0 alone, one that selects none, a base that is not canonical, a map and a program that stop
element 0. -/
theorem witness_MaskedMoves : [15, 2].all State.reset.par.mode.names = true ∧ memOpNamed State.reset.par.mode atRax = true ∧
    (∀ j < 4, (readYmm (two 0x80000000 0) 2).getLsbD (32 * j + 31) = true → j = 0) ∧
    (∀ j < 8, (readYmm (two 0 0) 2).getLsbD (32 * j + 31) = false) ∧
    (∀ q < 4, addressOk .mode64 (wrap .mode64 (effAddr (two 0x80000000 0) atRax + BitVec.ofNat 64 q)) = true ∧
      writable (two 0x80000000 0).par (BitVec.ofNat 64 q) = true ∧ inProgram (two 0x80000000 0).par (BitVec.ofNat 64 q) = false) ∧
    (two 0x80000000 0).mem.wf = true ∧ mapped { Params.reset with memMap := [] } 0 = false ∧
    inProgram { Params.reset with program := some { base := 0, size := 1 } } 0 = true ∧
    addressOk .mode64 (effAddr (setGpr (two 0x80000000 0) 0 0x0000800000000000) atRax) = false := by decide +kernel

theorem witness_RegisterStateInstructions : Reads 32 1 State.reset [] (.mem atRax) 0 ∧ (0xFFFF : BitVec 32).toNat < 2 ^ 16 ∧
    Reads 32 1 { State.reset with mem := [(2, 1)] } [] (.mem atRax) 0x10000 ∧ 2 ^ 16 ≤ (0x10000 : BitVec 32).toNat := by
  refine ⟨⟨?_, ?_, rfl⟩, ?_, ⟨?_, ?_, rfl⟩, ?_⟩ <;> decide

theorem witness_TestInstructions : Reads 128 1 State.reset [15] (.reg 15) 0 ∧ Reads 256 1 s32 [7] (.mem atRax8) 0 := by
  refine ⟨⟨?_, ?_, rfl⟩, ⟨?_, ?_, rfl⟩⟩ <;> decide

end Sys2Proof.Tests
end

/-! SUPPORT. Bit patterns of the two formats: how a pattern and its three fields determine each other, and what the kinds of
operand exclude (05_numerics.md R562, R564). -/

namespace Sys2Proof.Machine

/-! ### Fields -/

section
variable {F : Fmt}

theorem toNat_eq_fields (x : BitVec F.width) :
    x.toNat = (signOf x).toNat * 2 ^ (F.width - 1) + expOf x * 2 ^ F.frac + fracOf x := by
  have sign : signOf x = decide (2 ^ (F.width - 1) ≤ x.toNat) := by
    rw [signOf, ← BitVec.msb_eq_getLsbD_last, BitVec.msb_eq_decide]
  have bound := x.isLt
  rw [sign, expOf, fracOf]
  by_cases high : 2 ^ (F.width - 1) ≤ x.toNat <;> simp only [high, decide_true, decide_false, Bool.toNat] <;>
    cases F <;> simp only [Fmt.width, Fmt.frac, Fmt.expBits, cond_true, cond_false] at * <;> omega

theorem expOf_lt (x : BitVec F.width) : expOf x < 2 ^ F.expBits := Nat.mod_lt _ (by positivity)

theorem fracOf_lt (x : BitVec F.width) : fracOf x < 2 ^ F.frac := Nat.mod_lt _ (by positivity)

theorem toNat_pack (s : Bool) {e f : Nat} (he : e < 2 ^ F.expBits) (hf : f < 2 ^ F.frac) :
    (pack F s e f).toNat = s.toNat * 2 ^ (F.width - 1) + e * 2 ^ F.frac + f := by
  rw [pack, BitVec.toNat_ofNat, Nat.mod_eq_of_lt]
  cases F <;> cases s <;> simp_all [Fmt.width, Fmt.frac, Fmt.expBits] <;> omega

/-- A pattern is its three fields. -/
theorem pack_fields (x : BitVec F.width) : pack F (signOf x) (expOf x) (fracOf x) = x :=
  BitVec.eq_of_toNat_eq <| by rw [toNat_pack _ (expOf_lt x) (fracOf_lt x), ← toNat_eq_fields]

theorem fields_pack (s : Bool) {e f : Nat} (he : e < 2 ^ F.expBits) (hf : f < 2 ^ F.frac) :
    signOf (pack F s e f) = s ∧ expOf (pack F s e f) = e ∧ fracOf (pack F s e f) = f := by
  have packed := toNat_pack s he hf
  rw [toNat_eq_fields] at packed
  have he' := expOf_lt (pack F s e f)
  have hf' := fracOf_lt (pack F s e f)
  generalize expOf (pack F s e f) = e' at *
  generalize fracOf (pack F s e f) = f' at *
  generalize signOf (pack F s e f) = s' at *
  cases F <;> cases s <;> cases s' <;> simp_all [Fmt.frac, Fmt.expBits] <;> omega

theorem signOf_pack (s : Bool) {e f : Nat} (he : e < 2 ^ F.expBits) (hf : f < 2 ^ F.frac) : signOf (pack F s e f) = s :=
  (fields_pack s he hf).1

theorem expOf_pack (s : Bool) {e f : Nat} (he : e < 2 ^ F.expBits) (hf : f < 2 ^ F.frac) : expOf (pack F s e f) = e :=
  (fields_pack s he hf).2.1

theorem fracOf_pack (s : Bool) {e f : Nat} (he : e < 2 ^ F.expBits) (hf : f < 2 ^ F.frac) : fracOf (pack F s e f) = f :=
  (fields_pack s he hf).2.2

theorem expMax_lt : F.expMax < 2 ^ F.expBits := by cases F <;> decide

@[simp] theorem expMax_ne_zero : F.expMax ≠ 0 := by cases F <;> decide

@[simp] theorem signOf_zeroOf (s : Bool) : signOf (zeroOf F s) = s := signOf_pack s (by positivity) (by positivity)

@[simp] theorem expOf_zeroOf (s : Bool) : expOf (zeroOf F s) = 0 := expOf_pack s (by positivity) (by positivity)

@[simp] theorem fracOf_zeroOf (s : Bool) : fracOf (zeroOf F s) = 0 := fracOf_pack s (by positivity) (by positivity)

/-- Setting the top fraction bit of a pattern leaves sign and exponent. -/
theorem fields_quiet (x : BitVec F.width) :
    signOf (quiet x) = signOf x ∧ expOf (quiet x) = expOf x ∧ fracOf (quiet x) = fracOf x ||| 2 ^ (F.frac - 1) := by
  have top : 2 ^ (F.frac - 1) < 2 ^ F.frac := by cases F <;> decide
  have fits : 2 ^ F.frac < 2 ^ F.width := by cases F <;> decide
  have toNat : (quiet x).toNat = x.toNat ||| 2 ^ (F.frac - 1) := by
    rw [quiet, BitVec.toNat_or, BitVec.toNat_ofNat, Nat.mod_eq_of_lt (top.trans fits)]
  refine ⟨?_, ?_, ?_⟩
  · rw [signOf, quiet, BitVec.getLsbD_or, BitVec.getLsbD_ofNat, Nat.testBit_two_pow_of_ne (by cases F <;> decide),
      Bool.and_false, Bool.or_false, signOf]
  · rw [expOf, toNat, ← Nat.shiftRight_eq_div_pow, Nat.shiftRight_or_distrib, Nat.shiftRight_eq_div_pow _ F.frac,
      Nat.shiftRight_eq_div_pow _ F.frac, Nat.div_eq_of_lt top, Nat.or_zero, expOf]
  · rw [fracOf, toNat, Nat.or_mod_two_pow, Nat.mod_eq_of_lt top, fracOf]

/-! ### Kinds of operand -/

/-- A pattern that is neither a NaN nor an infinity. -/
theorem expOf_ne_expMax_iff {x : BitVec F.width} : expOf x ≠ F.expMax ↔ isNaN x = false ∧ isInf x = false := by
  by_cases h : fracOf x = 0 <;> simp [isNaN, isInf, h]

theorem isNormal_of_pack (s : Bool) {e f : Nat} (h0 : e ≠ 0) (he : e < F.expMax) (hf : f < 2 ^ F.frac) :
    isNormal (pack F s e f) = true := by
  simp [isNormal, expOf_pack s (he.trans expMax_lt) hf, h0, he.ne]

/-- An infinity is the infinity of its sign. -/
theorem infOf_signOf {x : BitVec F.width} (h : isInf x = true) : infOf F (signOf x) = x := by
  obtain ⟨he, hf⟩ : expOf x = F.expMax ∧ fracOf x = 0 := by simpa [isInf] using h
  rw [infOf, ← he, ← hf, pack_fields]

theorem isNaN_of_isInf {x : BitVec F.width} (h : isInf x = true) : isNaN x = false := by simp_all [isInf, isNaN]

theorem isZero_of_isInf {x : BitVec F.width} (h : isInf x = true) : isZero x = false := by simp_all [isInf, isZero]

theorem isInf_of_isZero {x : BitVec F.width} (h : isZero x = true) : isInf x = false := by
  simp_all [isInf, isZero, expMax_ne_zero.symm]

theorem isNaN_of_isZero {x : BitVec F.width} (h : isZero x = true) : isNaN x = false := by
  simp_all [isNaN, isZero]

theorem isNaN_of_isDenormal {x : BitVec F.width} (h : isDenormal x = true) : isNaN x = false := by
  simp_all [isDenormal, isNaN, expMax_ne_zero.symm]

theorem isDenormal_of_isInf {x : BitVec F.width} (h : isInf x = true) : isDenormal x = false := by
  simp_all [isDenormal, isInf]

/-- What a normal number is not. -/
theorem of_isNormal {x : BitVec F.width} (h : isNormal x = true) :
    isNaN x = false ∧ isInf x = false ∧ isZero x = false ∧ isDenormal x = false := by
  simp_all [isNormal, isNaN, isInf, isZero, isDenormal]

/-! ### DAZ (R564) -/

/-- DAZ changes a denormal only. -/
theorem daz_eq_self (c : Ctl) {x : BitVec F.width} (h : isDenormal x = false) : daz c x = x := by simp [daz, h]

@[simp] theorem isNaN_daz (c : Ctl) (x : BitVec F.width) : isNaN (daz c x) = isNaN x := by
  by_cases h : isDenormal x = true
  · have nan := isNaN_of_isDenormal h
    have zero : isNaN (zeroOf F (signOf x)) = false := isNaN_of_isZero (by simp [isZero])
    rw [daz]
    split
    · rw [zero, nan]
    · rfl
  · rw [daz_eq_self c (by simpa using h)]

/-- DAZ leaves a NaN as it is. -/
theorem daz_of_isNaN (c : Ctl) {x : BitVec F.width} (h : isNaN x = true) : daz c x = x :=
  daz_eq_self c (by simp_all [isNaN, isDenormal])

@[simp] theorem isSNaN_daz (c : Ctl) (x : BitVec F.width) : isSNaN (daz c x) = isSNaN x := by
  cases h : isNaN x
  · rw [isSNaN, isNaN_daz, h, isSNaN, h, Bool.false_and, Bool.false_and]
  · rw [daz_of_isNaN c h]

end

end Sys2Proof.Machine

/-! SUPPORT. The integer computations of the model on exact magnitudes are those of the rules on real numbers: `rint`, the
leading exponent, `round_pack` (05_numerics.md R565, R566), and the values of patterns (R562). -/

namespace Sys2Proof.Machine

/-! ### Signs -/

/-- The factor of a sign bit. -/
def signFactor (s : Bool) : ℝ := if s then -1 else 1

@[simp] theorem signFactor_false : signFactor false = 1 := rfl

@[simp] theorem signFactor_true : signFactor true = -1 := rfl

@[simp] theorem abs_signFactor (s : Bool) : |signFactor s| = 1 := by cases s <;> simp

theorem signFactor_mul (s t : Bool) : signFactor s * signFactor t = signFactor (s != t) := by cases s <;> cases t <;> simp

@[simp] theorem signFactor_mul_self (s : Bool) : signFactor s * signFactor s = 1 := by cases s <;> simp

theorem cast_signedInt (s : Bool) (n : Nat) : (signedInt s n : ℝ) = signFactor s * n := by
  cases s <;> simp [signedInt]

/-! ### Exact magnitudes -/

/-- The real number a magnitude stands for. -/
noncomputable def Mag.val (m : Mag) : ℝ := (m.num : ℝ) / m.den * 2 ^ m.exp

theorem Mag.val_pos {m : Mag} (hn : 0 < m.num) (hd : 0 < m.den) : 0 < m.val := by unfold Mag.val; positivity

/-- The fraction that `scaled` answers. -/
theorem Mag.scaled_den_pos {m : Mag} (hd : 0 < m.den) (k : Int) : 0 < (m.scaled k).2 := by
  unfold Mag.scaled; split
  · exact hd
  · positivity

theorem Mag.scaled_val {m : Mag} (k : Int) : ((m.scaled k).1 : ℝ) / (m.scaled k).2 = m.val / 2 ^ k := by
  have two : (2 : ℝ) ≠ 0 := two_ne_zero
  unfold Mag.scaled Mag.val
  split
  next le =>
    have shift : (2 : ℝ) ^ (m.exp - k).toNat = 2 ^ m.exp / 2 ^ k := by
      rw [← zpow_natCast, Int.toNat_of_nonneg (by omega), zpow_sub₀ two]
    push_cast
    rw [shift]
    ring
  next gt =>
    have shift : (2 : ℝ) ^ (k - m.exp).toNat = 2 ^ k / 2 ^ m.exp := by
      rw [← zpow_natCast, Int.toNat_of_nonneg (by omega), zpow_sub₀ two]
    push_cast
    rw [shift]
    field_simp

/-- A quotient of naturals lies within a factor of two of the quotient of the powers of two below them. -/
theorem log2_quotient_bounds {n d : Nat} (hn : 0 < n) (hd : 0 < d) :
    (2 : ℝ) ^ ((Nat.log2 n : Int) - Nat.log2 d - 1) < (n : ℝ) / d ∧ (n : ℝ) / d < 2 ^ ((Nat.log2 n : Int) - Nat.log2 d + 1) := by
  have two : (2 : ℝ) ≠ 0 := two_ne_zero
  have lo : ∀ {k : Nat}, 0 < k → (2 : ℝ) ^ Nat.log2 k ≤ k := fun hk => by exact_mod_cast Nat.log2_self_le hk.ne'
  have hi : ∀ k : Nat, (k : ℝ) < 2 ^ (Nat.log2 k + 1) := fun k => by exact_mod_cast Nat.lt_log2_self
  have hn' : (0 : ℝ) < n := by exact_mod_cast hn
  have hd' : (0 : ℝ) < d := by exact_mod_cast hd
  constructor
  · calc (2 : ℝ) ^ ((Nat.log2 n : Int) - Nat.log2 d - 1) = 2 ^ Nat.log2 n / 2 ^ (Nat.log2 d + 1) := by
          rw [sub_sub, zpow_sub₀ two]; norm_cast
      _ < n / d := div_lt_div₀' (lo hn) (hi d) hn' hd'
  · calc (n : ℝ) / d < 2 ^ (Nat.log2 n + 1) / 2 ^ Nat.log2 d := div_lt_div₀ (hi n) (lo hd) (by positivity) (by positivity)
      _ = 2 ^ ((Nat.log2 n : Int) - Nat.log2 d + 1) := by
          rw [sub_add_eq_add_sub, zpow_sub₀ two]; norm_cast

/-- The comparison that `log2` makes in integers. -/
theorem div_lt_two_zpow_iff (n : Nat) {d : Nat} (hd : 0 < d) (l : Int) :
    (n : ℝ) / d < 2 ^ l ↔ if 0 ≤ l then n < d * 2 ^ l.toNat else n * 2 ^ (-l).toNat < d := by
  have hd' : (0 : ℝ) < d := by exact_mod_cast hd
  rw [div_lt_iff₀ hd']
  split
  next h =>
    obtain ⟨k, rfl⟩ := Int.eq_ofNat_of_zero_le h
    rw [zpow_natCast, Int.toNat_natCast, mul_comm]
    exact_mod_cast Iff.rfl
  next h =>
    obtain ⟨k, rfl⟩ : ∃ k : Nat, l = -k := ⟨(-l).toNat, by omega⟩
    rw [zpow_neg, zpow_natCast, neg_neg, Int.toNat_natCast, inv_mul_eq_div, lt_div_iff₀ (by positivity)]
    exact_mod_cast Iff.rfl

/-- `log2` is the exponent of the leading bit. -/
theorem Mag.log2_eq {m : Mag} (hn : 0 < m.num) (hd : 0 < m.den) : m.log2 = Int.log 2 m.val := by
  have two : (2 : ℝ) ≠ 0 := two_ne_zero
  obtain ⟨lo, hi⟩ := log2_quotient_bounds hn hd
  set l : Int := (Nat.log2 m.num : Int) - Nat.log2 m.den with hl
  have unfolded : m.log2 = m.exp + if (m.num : ℝ) / m.den < 2 ^ l then l - 1 else l := by
    simp only [div_lt_two_zpow_iff _ hd, Mag.log2, ← hl]
    split <;> simp only [decide_eq_true_eq]
  have bounds : (2 : ℝ) ^ (m.log2 - m.exp) ≤ (m.num : ℝ) / m.den ∧ (m.num : ℝ) / m.den < 2 ^ (m.log2 - m.exp + 1) := by
    rw [unfolded, add_sub_cancel_left]
    split
    next lt => exact ⟨lo.le, by rwa [sub_add_cancel]⟩
    next ge => exact ⟨not_lt.mp ge, hi⟩
  have pos : (0 : ℝ) < 2 ^ m.exp := by positivity
  have scale : ∀ k : Int, (2 : ℝ) ^ k = 2 ^ (k - m.exp) * 2 ^ m.exp := fun k => by rw [← zpow_add₀ two, sub_add_cancel]
  apply le_antisymm
  · rw [← Int.zpow_le_iff_le_log (by norm_num) (Mag.val_pos hn hd)]
    push_cast
    rw [scale]
    exact mul_le_mul_of_nonneg_right bounds.1 pos.le
  · rw [← Int.lt_add_one_iff, ← Int.lt_zpow_iff_log_lt (by norm_num) (Mag.val_pos hn hd)]
    push_cast
    rw [scale, add_sub_right_comm]
    exact mul_lt_mul_of_pos_right bounds.2 pos

/-! ### Rounding to an integer -/

/-- The model's integer rounding is the rule's rounding of the quotient. -/
theorem rint_eq_exactRint (num : Nat) {den : Nat} (hd : 0 < den) (s : Bool) (rc : BitVec 2) :
    exactRint ((num : ℝ) / den) s rc = (((rint num den s rc).1 : Int), (rint num den s rc).2) := by
  have hd' : (0 : ℝ) < den := by exact_mod_cast hd
  have floor : ⌊(num : ℝ) / den⌋ = ((num / den : Nat) : Int) := by
    rw [Int.floor_div_natCast, Int.floor_natCast, Int.natCast_div]
  have rest : (num : ℝ) / den - ((num / den : Nat) : Int) = ((num % den : Nat) : ℝ) / den := by
    rw [sub_eq_iff_eq_add, Int.cast_natCast, div_add' _ _ _ hd'.ne']
    congr 1
    exact_mod_cast (Nat.mod_add_div' num den).symm
  have zero : ((num % den : Nat) : ℝ) / den = 0 ↔ num % den = 0 := by
    rw [div_eq_zero_iff, or_iff_left hd'.ne', Nat.cast_eq_zero]
  have above : 1 / 2 < ((num % den : Nat) : ℝ) / den ↔ den < 2 * (num % den) := by
    rw [div_lt_div_iff₀ two_pos hd', one_mul, mul_comm]
    exact_mod_cast Iff.rfl
  have tie : ((num % den : Nat) : ℝ) / den = 1 / 2 ↔ den = 2 * (num % den) := by
    rw [div_eq_div_iff hd'.ne' two_ne_zero, one_mul, mul_comm, eq_comm]
    exact_mod_cast Iff.rfl
  have odd : ((num / den : Nat) : Int) % 2 = 1 ↔ num / den % 2 = 1 := by omega
  simp only [exactRint, floor, rest, zero, above, tie, odd, rint]
  split_ifs <;> rfl

/-- The rounding of an integer is that integer. -/
theorem exactRint_intCast (z : Int) (s : Bool) (rc : BitVec 2) : exactRint (z : ℝ) s rc = (z, false) := by simp [exactRint]

/-- The result is the floor or, for a number that is no integer, the integer above it. -/
theorem exactRint_cases (q : ℝ) (s : Bool) (rc : BitVec 2) :
    exactRint q s rc = (⌊q⌋, false) ∧ q = ⌊q⌋ ∨
    (exactRint q s rc = (⌊q⌋, true) ∨ exactRint q s rc = (⌊q⌋ + 1, true)) ∧ ⌊q⌋ < q := by
  rcases eq_or_lt_of_le (Int.floor_le q) with eq | lt
  · exact .inl ⟨by simp [exactRint, sub_eq_zero.mpr eq.symm], eq.symm⟩
  · refine .inr ⟨?_, lt⟩
    simp only [exactRint, (sub_pos.mpr lt).ne', if_false]
    split_ifs <;> simp

theorem floor_le_exactRint (q : ℝ) (s : Bool) (rc : BitVec 2) : ⌊q⌋ ≤ (exactRint q s rc).1 := by
  rcases exactRint_cases q s rc with ⟨h, -⟩ | ⟨h | h, -⟩ <;> simp [h]

/-- Rounding does not pass an integer bound. -/
theorem exactRint_le {q : ℝ} {z : Int} (h : q ≤ z) (s : Bool) (rc : BitVec 2) : (exactRint q s rc).1 ≤ z := by
  rcases exactRint_cases q s rc with ⟨e, -⟩ | ⟨e | e, lt⟩ <;> rw [e]
  · exact_mod_cast (Int.floor_le q).trans h
  · exact_mod_cast (Int.floor_le q).trans h
  · exact Int.add_one_le_iff.mpr (by exact_mod_cast lt.trans_le h)

theorem le_exactRint {q : ℝ} {z : Int} (h : (z : ℝ) ≤ q) (s : Bool) (rc : BitVec 2) : z ≤ (exactRint q s rc).1 :=
  (Int.le_floor.mpr h).trans (floor_le_exactRint q s rc)

/-- To nearest, the result is at most a half away. -/
theorem abs_exactRint_nearest_sub_le (q : ℝ) (s : Bool) : |((exactRint q s 0).1 : ℝ) - q| ≤ 1 / 2 := by
  have lo := Int.floor_le q
  have hi := Int.lt_floor_add_one q
  simp only [exactRint]
  split_ifs with whole up
  · rw [sub_eq_zero] at whole
    simp [← whole]
  · have up' : 1 / 2 ≤ q - ⌊q⌋ := up.elim le_of_lt fun h => h.1.ge
    push_cast
    rw [abs_of_pos (by linarith)]
    linarith
  · have down : q - ⌊q⌋ ≤ 1 / 2 := not_lt.mp fun h => up (.inl h)
    rw [abs_sub_comm, abs_of_nonneg (by linarith)]
    exact down

/-- Two numbers between the same two neighbouring halves of integers round alike. -/
theorem exactRint_congr {p q : ℝ} {j : Int} (hp : j < 2 * p ∧ 2 * p < j + 1) (hq : j < 2 * q ∧ 2 * q < j + 1) (s : Bool)
    (rc : BitVec 2) : exactRint p s rc = exactRint q s rc := by
  have floor : ∀ {x : ℝ}, j < 2 * x ∧ 2 * x < j + 1 → ⌊x⌋ = j / 2 := fun {x} ⟨lo, hi⟩ => by
    have even : ((2 * (j / 2) : Int) : ℝ) ≤ j := by exact_mod_cast (by omega : 2 * (j / 2) ≤ j)
    have odd : (j : ℝ) + 1 ≤ ((2 * (j / 2) + 2 : Int) : ℝ) := by exact_mod_cast (by omega : j + 1 ≤ 2 * (j / 2) + 2)
    push_cast at even odd
    rw [Int.floor_eq_iff]
    constructor <;> linarith
  have rest : ∀ {x : ℝ}, j < 2 * x ∧ 2 * x < j + 1 → x - (j / 2 : Int) ≠ 0 ∧ x - (j / 2 : Int) ≠ 1 / 2 ∧
      (1 / 2 < x - (j / 2 : Int) ↔ j % 2 = 1) := fun {x} ⟨lo, hi⟩ => by
    rcases Int.emod_two_eq_zero_or_one j with h | h
    · have half : (j : ℝ) = 2 * (j / 2 : Int) := by exact_mod_cast (by omega : j = 2 * (j / 2))
      exact ⟨by intro; linarith, by intro; linarith, by simp only [h, zero_ne_one, iff_false]; linarith⟩
    · have half : (j : ℝ) = 2 * (j / 2 : Int) + 1 := by exact_mod_cast (by omega : j = 2 * (j / 2) + 1)
      exact ⟨by intro; linarith, by intro; linarith, by simp only [h, iff_true]; linarith⟩
  simp only [exactRint, floor hp, floor hq, rest hp, rest hq]

end Sys2Proof.Machine

/-! SUPPORT. Values of patterns as exact magnitudes, and what the rounding of an exact number answers: that the model's
`round_pack` computes it, when two numbers round alike, and what a normal result is worth (05_numerics.md R562, R566). -/

namespace Sys2Proof.Machine

/-! ### Values -/

section
variable {F : Fmt}

theorem value_eq (x : BitVec F.width) : value x = signFactor (signOf x) * (mant x * 2 ^ expo x) := by
  rw [value, signFactor, mant, expo]
  congr 1
  split
  · rfl
  · rw [zpow_sub₀ two_ne_zero (_ - _), zpow_natCast]
    push_cast
    field_simp

theorem magOf_val (x : BitVec F.width) : (magOf x).val = mant x * 2 ^ expo x := by simp [magOf, Mag.val]

theorem abs_value (x : BitVec F.width) : |value x| = (magOf x).val := by
  rw [value_eq, abs_mul, abs_signFactor, one_mul, magOf_val, abs_of_nonneg (by positivity)]

theorem mant_pos_iff {x : BitVec F.width} : 0 < mant x ↔ isZero x = false := by
  rw [Nat.pos_iff_ne_zero, mant, isZero]
  split <;> simp_all

theorem value_eq_zero_iff {x : BitVec F.width} : value x = 0 ↔ isZero x = true := by
  have zero : mant x = 0 ↔ isZero x = true := by simpa using (not_congr (mant_pos_iff (x := x)))
  have factor : signFactor (signOf x) ≠ 0 := fun h => by simpa [h] using abs_signFactor (signOf x)
  rw [value_eq, mul_eq_zero, or_iff_right factor, mul_eq_zero, or_iff_left (by positivity), Nat.cast_eq_zero, zero]

theorem mant_lt (x : BitVec F.width) : mant x < 2 ^ (F.frac + 1) := by
  have := fracOf_lt x
  rw [mant, Nat.pow_succ]
  split <;> omega

/-- The significand of a normal number has its leading bit. -/
theorem mant_ge_of_isNormal {x : BitVec F.width} (h : isNormal x = true) : 2 ^ F.frac ≤ mant x := by
  obtain ⟨h0, -⟩ : expOf x ≠ 0 ∧ expOf x ≠ F.expMax := by simpa [isNormal] using h
  rw [mant, if_neg h0]
  exact Nat.le_add_right _ _

theorem expo_bounds {x : BitVec F.width} (hn : isNaN x = false) (hi : isInf x = false) :
    F.emin - F.frac ≤ expo x ∧ expo x ≤ F.bias - F.frac := by
  have ne := expOf_ne_expMax_iff.mpr ⟨hn, hi⟩
  have lt := expOf_lt x
  rw [expo]
  split <;> cases F <;> simp only [Fmt.expMax, Fmt.expBits, Fmt.emin, Fmt.bias] at * <;> omega

/-- The value of a normal pattern from its fields. -/
theorem value_pack (s : Bool) {e f : Nat} (h0 : e ≠ 0) (he : e < 2 ^ F.expBits) (hf : f < 2 ^ F.frac) :
    value (pack F s e f) = signFactor s * ((2 ^ F.frac + f : Nat) * 2 ^ ((e : Int) - F.bias - F.frac)) := by
  rw [value_eq, mant, expo, signOf_pack s he hf, expOf_pack s he hf, fracOf_pack s he hf, if_neg h0, if_neg h0]

/-! ### The rounding of an exact number -/

/-- The significand that an exact number rounds to at the precision of a format, and whether it is inexact. -/
noncomputable def roundedSig (F : Fmt) (c : Ctl) (s : Bool) (m : ℝ) : Int × Bool :=
  exactRint (m / 2 ^ (Int.log 2 m - F.frac)) s c.rc

/-- The exponent after the carry. -/
noncomputable def roundedExp (F : Fmt) (c : Ctl) (s : Bool) (m : ℝ) : Int :=
  if (roundedSig F c s m).1 = 2 ^ (F.frac + 1) then Int.log 2 m + 1 else Int.log 2 m

/-- `exactRound` in these terms. -/
theorem exactRound_eq (F : Fmt) (c : Ctl) (s : Bool) (m : ℝ) : exactRound F c s m =
    if (F.bias : Int) < roundedExp F c s m then overflowResult F c s
    else if roundedExp F c s m < F.emin then
      if c.fz then (zeroOf F s, flUE ||| flPE)
      else
        let tiny := exactRint (m / 2 ^ (F.emin - F.frac)) s c.rc
        (pack F s 0 tiny.1.toNat, if tiny.2 then flUE ||| flPE else 0)
    else
      let n := if (roundedSig F c s m).1 = 2 ^ (F.frac + 1) then 2 ^ F.frac else (roundedSig F c s m).1
      (pack F s (roundedExp F c s m + F.bias).toNat (n - 2 ^ F.frac).toNat, flagIf (roundedSig F c s m).2 flPE) := rfl

/-- The model's `round_pack` is the rounding of the exact number. -/
theorem roundPack_eq_exactRound (F : Fmt) (c : Ctl) (s : Bool) {g : Mag} (hn : 0 < g.num) (hd : 0 < g.den) :
    roundPack F c s g = exactRound F c s g.val := by
  have rounds : ∀ k : Int, exactRint (g.val / 2 ^ k) s c.rc =
      (((rint (g.scaled k).1 (g.scaled k).2 s c.rc).1 : Int), (rint (g.scaled k).1 (g.scaled k).2 s c.rc).2) := fun k => by
    rw [← Mag.scaled_val, rint_eq_exactRint _ (Mag.scaled_den_pos hd k)]
  have carry : ∀ n : Nat, (n : Int) = 2 ^ (F.frac + 1) ↔ n = 2 ^ (F.frac + 1) := fun n => by norm_cast
  have field : ∀ n : Nat, ((n : Int) - 2 ^ F.frac).toNat = n - 2 ^ F.frac := fun n => by
    rw [show (2 : Int) ^ F.frac = ((2 ^ F.frac : Nat) : Int) by norm_cast, Int.toNat_sub]
  simp only [roundPack, tinyResult, overflowResult, Mag.log2_eq hn hd, exactRound, rounds, carry, beq_iff_eq,
    Int.toNat_natCast]
  split_ifs <;> simp [field]

/-- The scaled number whose rounding is the significand lies between two powers of two. -/
theorem significand_bounds (F : Fmt) {m : ℝ} (hm : 0 < m) :
    (2 : ℝ) ^ F.frac ≤ m / 2 ^ (Int.log 2 m - F.frac) ∧ m / 2 ^ (Int.log 2 m - F.frac) < 2 ^ (F.frac + 1) := by
  have lo := Int.zpow_log_le_self (b := 2) (by norm_num) hm
  have hi := Int.lt_zpow_succ_log_self (b := 2) (by norm_num) m
  push_cast at lo hi
  rw [le_div_iff₀ (by positivity), div_lt_iff₀ (by positivity), ← zpow_natCast, ← zpow_natCast, ← zpow_add₀ two_ne_zero,
    ← zpow_add₀ two_ne_zero]
  exact ⟨by convert lo using 2; ring, by convert hi using 2; push_cast; ring⟩

theorem roundedSig_bounds (F : Fmt) (c : Ctl) (s : Bool) {m : ℝ} (hm : 0 < m) :
    2 ^ F.frac ≤ (roundedSig F c s m).1 ∧ (roundedSig F c s m).1 ≤ 2 ^ (F.frac + 1) := by
  obtain ⟨lo, hi⟩ := significand_bounds F hm
  exact ⟨le_exactRint (by exact_mod_cast lo) s c.rc, exactRint_le (by exact_mod_cast hi.le) s c.rc⟩

/-- A result that neither overflows nor is tiny: a normal number, the significand times its power of two. -/
theorem exactRound_normal (F : Fmt) (c : Ctl) (s : Bool) {m : ℝ} (hm : 0 < m) (hlo : F.emin ≤ roundedExp F c s m)
    (hhi : roundedExp F c s m ≤ F.bias) :
    isNormal (exactRound F c s m).1 = true ∧ signOf (exactRound F c s m).1 = s ∧
    value (exactRound F c s m).1 = signFactor s * ((roundedSig F c s m).1 * 2 ^ (Int.log 2 m - F.frac)) ∧
    (exactRound F c s m).2 = flagIf (roundedSig F c s m).2 flPE := by
  obtain ⟨sigLo, sigHi⟩ := roundedSig_bounds F c s hm
  set sig := (roundedSig F c s m).1 with hsig
  set n : Int := if sig = 2 ^ (F.frac + 1) then 2 ^ F.frac else sig with hn
  have double : (2 : Int) ^ (F.frac + 1) = 2 * 2 ^ F.frac := pow_succ' 2 F.frac
  have nBounds : 2 ^ F.frac ≤ n ∧ n < 2 * 2 ^ F.frac := by
    have : (0 : Int) < 2 ^ F.frac := by positivity
    rw [hn]
    split <;> omega
  have carry : (n : ℝ) * 2 ^ (roundedExp F c s m - F.frac) = sig * 2 ^ (Int.log 2 m - F.frac) := by
    rw [hn, roundedExp, ← hsig]
    split
    next h =>
      rw [h, add_sub_right_comm, zpow_add_one₀ two_ne_zero, double]
      push_cast
      ring
    next => rfl
  obtain ⟨f, hf⟩ : ∃ f : Nat, n = 2 ^ F.frac + f := ⟨(n - 2 ^ F.frac).toNat, by omega⟩
  obtain ⟨e, he⟩ : ∃ e : Nat, roundedExp F c s m + F.bias = e := ⟨(roundedExp F c s m + F.bias).toNat, by
    rw [Fmt.emin] at hlo; omega⟩
  have fLt : f < 2 ^ F.frac := by zify; omega
  have e0 : e ≠ 0 := by rw [Fmt.emin] at hlo; omega
  have eMax : e < F.expMax := by
    have : e ≤ 2 * F.bias := by omega
    cases F <;> simp only [Fmt.expMax, Fmt.expBits, Fmt.bias] at * <;> omega
  have result : exactRound F c s m = (pack F s e f, flagIf (roundedSig F c s m).2 flPE) := by
    rw [exactRound_eq, if_neg hhi.not_gt, if_neg hlo.not_gt]
    simp only [← hsig, ← hn, hf, he, Int.toNat_natCast, add_sub_cancel_left]
  rw [result]
  refine ⟨isNormal_of_pack s e0 eMax fLt, signOf_pack s (eMax.trans expMax_lt) fLt, ?_, rfl⟩
  rw [value_pack s e0 (eMax.trans expMax_lt) fLt, ← carry, ← he, hf, add_sub_cancel_right]
  push_cast
  rfl

/-- A number that the precision of the format holds, within its exponents, is delivered as it is. -/
theorem exactRound_exact (F : Fmt) (c : Ctl) (s : Bool) {n : Nat} {k : Int} (h0 : 0 < n) (hn : n < 2 ^ (F.frac + 1))
    (hlo : (2 : ℝ) ^ F.emin ≤ n * 2 ^ k) (hhi : (n : ℝ) * 2 ^ k < 2 ^ ((F.bias : Int) + 1)) :
    isNormal (exactRound F c s (n * 2 ^ k)).1 = true ∧ signOf (exactRound F c s (n * 2 ^ k)).1 = s ∧
    value (exactRound F c s (n * 2 ^ k)).1 = signFactor s * (n * 2 ^ k) ∧ (exactRound F c s (n * 2 ^ k)).2 = 0 := by
  set m : ℝ := n * 2 ^ k with hm
  have pos : 0 < m := by positivity
  have logLo : F.emin ≤ Int.log 2 m := (Int.zpow_le_iff_le_log (by norm_num) pos).mp (by exact_mod_cast hlo)
  have logHi : Int.log 2 m < F.bias + 1 := (Int.lt_zpow_iff_log_lt (by norm_num) pos).mp (by exact_mod_cast hhi)
  have logLe : Int.log 2 m - F.frac ≤ k := by
    have : m < 2 ^ ((F.frac + 1 : Nat) + k : Int) := by
      rw [zpow_add₀ two_ne_zero, zpow_natCast, hm]
      gcongr
      exact_mod_cast hn
    have := (Int.lt_zpow_iff_log_lt (b := 2) (by norm_num) pos).mp (by exact_mod_cast this)
    push_cast at this
    omega
  obtain ⟨j, hj⟩ : ∃ j : Nat, k - (Int.log 2 m - F.frac) = j := ⟨_, (Int.toNat_of_nonneg (by omega)).symm⟩
  have scaled : m / 2 ^ (Int.log 2 m - F.frac) = ((n * 2 ^ j : Nat) : Int) := by
    rw [hm, mul_div_assoc, ← zpow_sub₀ two_ne_zero, hj, zpow_natCast]
    push_cast
    rfl
  have sig : roundedSig F c s m = (((n * 2 ^ j : Nat) : Int), false) := by rw [roundedSig, scaled, exactRint_intCast]
  have noCarry : ((n * 2 ^ j : Nat) : Int) ≠ 2 ^ (F.frac + 1) := fun h => by
    have lt := (significand_bounds F pos).2
    rw [scaled, h] at lt
    simp at lt
  have exp : roundedExp F c s m = Int.log 2 m := by rw [roundedExp, sig, if_neg noCarry]
  obtain ⟨normal, sign, val, flags⟩ := exactRound_normal F c s pos (by rwa [exp]) (by omega)
  refine ⟨normal, sign, ?_, by rw [flags, sig]; rfl⟩
  rw [val, sig, ← scaled, div_mul_cancel₀ _ (by positivity)]

/-! ### Numbers that round alike -/

/-- Two numbers between the same two multiples of `2 ^ k` round alike at any coarser place. -/
theorem exactRint_scaled_congr {m m' : ℝ} {j : Nat} {k k' : Int} (hk : k + 1 ≤ k') (hm : j * 2 ^ k < m ∧ m < (j + 1) * 2 ^ k)
    (hm' : j * 2 ^ k < m' ∧ m' < (j + 1) * 2 ^ k) (s : Bool) (rc : BitVec 2) :
    exactRint (m / 2 ^ k') s rc = exactRint (m' / 2 ^ k') s rc := by
  obtain ⟨i, hi⟩ : ∃ i : Nat, k' = k + 1 + i := ⟨_, (by omega : k' = k + 1 + (k' - k - 1).toNat)⟩
  have between : ∀ {x : ℝ}, j * 2 ^ k < x ∧ x < (j + 1) * 2 ^ k →
      ((j / 2 ^ i : Nat) : Int) < 2 * (x / 2 ^ k') ∧ 2 * (x / 2 ^ k') < ((j / 2 ^ i : Nat) : Int) + 1 := fun {x} ⟨lo, hi'⟩ => by
    have place : (2 : ℝ) ^ k' = 2 * (2 ^ i * 2 ^ k) := by
      rw [hi, zpow_add₀ two_ne_zero, zpow_add_one₀ two_ne_zero, zpow_natCast]; ring
    have below : ((j / 2 ^ i : Nat) : ℝ) * 2 ^ i ≤ j := by exact_mod_cast Nat.div_mul_le_self j (2 ^ i)
    have above : (j : ℝ) + 1 ≤ (((j / 2 ^ i : Nat) : ℝ) + 1) * 2 ^ i := by
      exact_mod_cast (Nat.div_lt_iff_lt_mul (by positivity)).mp (Nat.lt_succ_self (j / 2 ^ i))
    have unit : (0 : ℝ) < 2 ^ k := by positivity
    rw [place, ← mul_div_assoc, mul_div_mul_left _ _ two_ne_zero, lt_div_iff₀ (by positivity), div_lt_iff₀ (by positivity),
      Int.cast_natCast, ← mul_assoc, ← mul_assoc]
    exact ⟨(mul_le_mul_of_nonneg_right below unit.le).trans_lt lo, hi'.trans_le (mul_le_mul_of_nonneg_right above unit.le)⟩
  exact exactRint_congr (between hm) (between hm') s rc

theorem log_of_between {x : ℝ} {j : Nat} {k : Int} (hj : 0 < j) (hx : j * 2 ^ k < x ∧ x < (j + 1) * 2 ^ k) :
    Int.log 2 x = Nat.log 2 j + k := by
  obtain ⟨lo, hi⟩ := hx
  have pos : 0 < x := lt_of_le_of_lt (by positivity) lo
  have jLo : (2 : ℝ) ^ Nat.log 2 j ≤ j := by exact_mod_cast Nat.pow_log_le_self 2 hj.ne'
  have jHi : (j : ℝ) + 1 ≤ 2 ^ (Nat.log 2 j + 1) := by exact_mod_cast Nat.lt_pow_succ_log_self one_lt_two j
  apply le_antisymm
  · rw [← Int.lt_add_one_iff, ← Int.lt_zpow_iff_log_lt (by norm_num) pos]
    calc x < (j + 1) * 2 ^ k := hi
      _ ≤ 2 ^ (Nat.log 2 j + 1) * 2 ^ k := by gcongr
      _ = ((2 : Nat) : ℝ) ^ ((Nat.log 2 j : Int) + k + 1) := by
        rw [← zpow_natCast, ← zpow_add₀ two_ne_zero]; push_cast; congr 1; ring
  · rw [← Int.zpow_le_iff_le_log (by norm_num) pos]
    calc ((2 : Nat) : ℝ) ^ ((Nat.log 2 j : Int) + k) = 2 ^ Nat.log 2 j * 2 ^ k := by
          push_cast; rw [zpow_add₀ two_ne_zero, zpow_natCast]
      _ ≤ j * 2 ^ k := by gcongr
      _ ≤ x := lo.le

/-- Two numbers whose bits agree one place beyond the precision, neither ending there, round alike. -/
theorem exactRound_congr (F : Fmt) (c : Ctl) (s : Bool) {m m' : ℝ} {j : Nat} {k : Int} (hj : 2 ^ (F.frac + 1) ≤ j)
    (hm : j * 2 ^ k < m ∧ m < (j + 1) * 2 ^ k) (hm' : j * 2 ^ k < m' ∧ m' < (j + 1) * 2 ^ k) :
    exactRound F c s m = exactRound F c s m' := by
  have j0 : 0 < j := lt_of_lt_of_le (by positivity) hj
  have log := log_of_between j0 hm
  have log' : Int.log 2 m' = Int.log 2 m := by rw [log, log_of_between j0 hm']
  have place : k + 1 ≤ Int.log 2 m - F.frac := by
    have := Nat.le_log_of_pow_le one_lt_two hj
    omega
  have sig : roundedSig F c s m = roundedSig F c s m' := by
    rw [roundedSig, roundedSig, log', exactRint_scaled_congr place hm hm']
  have exp : roundedExp F c s m = roundedExp F c s m' := by rw [roundedExp, roundedExp, sig, log']
  have tiny : roundedExp F c s m < F.emin →
      exactRint (m / 2 ^ (F.emin - F.frac)) s c.rc = exactRint (m' / 2 ^ (F.emin - F.frac)) s c.rc := fun lt => by
    have : Int.log 2 m ≤ roundedExp F c s m := by rw [roundedExp]; split <;> omega
    exact exactRint_scaled_congr (by omega) hm hm' s c.rc
  rw [exactRound_eq, exactRound_eq, ← sig, ← exp]
  split
  next => rfl
  next =>
    split
    next lt => rw [tiny lt]
    next => rfl

end

end Sys2Proof.Machine

/-! The rounding of integers and results, and the arithmetic of two operands (05_numerics.md R565 to R570). -/

namespace Sys2Proof.Machine

/-! ### Rounding (R565, R566) -/

/-- Settles O19: the model's integer rounding is the rule's rounding of the exact quotient, taken apart by direction. -/
theorem roundingToAnInteger : Obligations.RoundingToAnInteger := by
  intro num den s rc hd q t r n
  have model := rint_eq_exactRint num hd s rc
  have hn : n = (exactRint q s rc).1 := by rw [model]
  have hx : (rint num den s rc).2 = (exactRint q s rc).2 := by rw [model]
  rw [hx, hn]
  by_cases whole : r = 0
  · have result : exactRint q s rc = (t, false) := if_pos whole
    simp [result, whole]
  · have result : exactRint q s rc = if rc = 0 then (if 1 / 2 < r ∨ (r = 1 / 2 ∧ t % 2 = 1) then t + 1 else t, true)
        else if rc = 1 then (if s then t + 1 else t, true) else if rc = 2 then (if s then t else t + 1, true)
        else (t, true) := if_neg whole
    rw [result]
    refine ⟨?_, fun h => absurd h whole, fun _ => ⟨?_, ?_, ?_, ?_⟩⟩
    · split_ifs <;> simp [whole]
    · rintro rfl; rfl
    · rintro rfl; rfl
    · rintro rfl; rfl
    · rintro rfl; rfl

/-- Settles O20: the model's computation on an exact magnitude is the rule's on the number it stands for. -/
theorem roundingAndPacking : Obligations.RoundingAndPacking :=
  ⟨fun F c s _ hn hd => roundPack_eq_exactRound F c s hn hd, fun m hm =>
    ⟨by exact_mod_cast Int.zpow_log_le_self (b := 2) (by norm_num) hm,
      by exact_mod_cast Int.lt_zpow_succ_log_self (b := 2) (by norm_num) m⟩⟩

/-! ### NaN operands (R567) -/

section
variable {F : Fmt}

/-- With a NaN among the operands, each of the four operations answers `nan2` of the operands after DAZ. -/
theorem arithmetic_of_isNaN (c : Ctl) {a b : BitVec F.width} (h : isNaN a = true ∨ isNaN b = true) :
    fadd F c a b = nan2 (daz c a) (daz c b) ∧ fsub F c a b = nan2 (daz c a) (daz c b) ∧
    fmul F c a b = nan2 (daz c a) (daz c b) ∧ fdiv F c a b = nan2 (daz c a) (daz c b) := by
  have nan : (isNaN (daz c a) || isNaN (daz c b)) = true := by simpa using h
  exact ⟨if_pos nan, if_pos nan, if_pos nan, if_pos nan⟩

/-- DAZ does not change what `nan2` answers: it leaves a NaN as it is, and the other operand is not used. -/
theorem nan2_daz (c : Ctl) {a b : BitVec F.width} (h : isNaN a = true ∨ isNaN b = true) :
    nan2 (daz c a) (daz c b) = nan2 a b := by
  rw [nan2, nan2, isNaN_daz, isSNaN_daz, isSNaN_daz]
  cases ha : isNaN a
  · rw [daz_of_isNaN c (h.resolve_left (by simp [ha]))]; rfl
  · rw [daz_of_isNaN c ha]; rfl

end

/-- Settles O21. -/
theorem naNOperandsOfArithmetic : Obligations.NaNOperandsOfArithmetic := by
  intro F c a b h f hf
  have result : f c a b = nan2 a b := by
    obtain ⟨add, sub, mul, div⟩ := arithmetic_of_isNaN c h
    rw [nan2_daz c h] at add sub mul div
    simp only [List.mem_cons, List.not_mem_nil, or_false] at hf
    obtain rfl | rfl | rfl | rfl := hf
    exacts [add, sub, mul, div]
  rw [result]
  exact ⟨fun ha => if_pos ha, fun ha => if_neg (by simp [ha]), rfl⟩

/-! ### Sums (R568) -/

/-- The integer sum stands for the exact sum of the signed magnitudes. -/
theorem exactSum_val (s₁ : Bool) (m₁ : Nat) (e₁ : Int) (s₂ : Bool) (m₂ : Nat) (e₂ : Int) :
    ((exactSum s₁ m₁ e₁ s₂ m₂ e₂).1 : ℝ) * 2 ^ (exactSum s₁ m₁ e₁ s₂ m₂ e₂).2 =
      signFactor s₁ * (m₁ * 2 ^ e₁) + signFactor s₂ * (m₂ * 2 ^ e₂) := by
  have shift : ∀ {e : Int}, min e₁ e₂ ≤ e → (2 : ℝ) ^ (e - min e₁ e₂).toNat * 2 ^ min e₁ e₂ = 2 ^ e := fun {e} h => by
    rw [← zpow_natCast, Int.toNat_of_nonneg (by omega), ← zpow_add₀ two_ne_zero, sub_add_cancel]
  simp only [exactSum, Int.cast_add, cast_signedInt, Nat.cast_mul, Nat.cast_pow, Nat.cast_ofNat]
  rw [← shift (min_le_left e₁ e₂), ← shift (min_le_right e₁ e₂)]
  ring

section
variable {F : Fmt}

theorem roundSum_eq_exactRound (F : Fmt) (c : Ctl) {r : Int × Int} (h : r.1 ≠ 0) {v : ℝ} (hv : (r.1 : ℝ) * 2 ^ r.2 = v) :
    roundSum F c r = exactRound F c (decide (v < 0)) |v| := by
  have unit : (0 : ℝ) < 2 ^ r.2 := by positivity
  have sign : decide (r.1 < 0) = decide (v < 0) := by
    rw [decide_eq_decide, ← hv, mul_neg_iff]
    simp [unit, unit.not_gt]
  have magnitude : (⟨r.1.natAbs, 1, r.2⟩ : Mag).val = |v| := by
    rw [← hv, abs_mul, abs_of_pos unit, Mag.val]
    simp [Nat.cast_natAbs]
  rw [roundSum, roundPack_eq_exactRound F c _ (Int.natAbs_pos.mpr h) one_pos, sign, magnitude]

/-- The last case of an addition: an exact sum `v`, zero or rounded once. -/
theorem sum_result (F : Fmt) (c : Ctl) (zeroSign : Bool) (de : FpFlags) {r : Int × Int} {v : ℝ}
    (hv : (r.1 : ℝ) * 2 ^ r.2 = v) :
    let res := if r.1 = 0 then (zeroOf F zeroSign, de) else addFlags (roundSum F c r) de
    (v = 0 → res = (zeroOf F zeroSign, de)) ∧
    (v ≠ 0 → res = ((exactRound F c (decide (v < 0)) |v|).1, (exactRound F c (decide (v < 0)) |v|).2 ||| de)) := by
  have zero : r.1 = 0 ↔ v = 0 := by
    rw [← hv, mul_eq_zero, or_iff_left (by positivity), Int.cast_eq_zero]
  refine ⟨fun h => if_pos (zero.mpr h), fun h => ?_⟩
  have r0 : r.1 ≠ 0 := mt zero.mp h
  rw [← roundSum_eq_exactRound F c r0 hv]
  exact if_neg r0

theorem addCore_opposite_infinities (c : Ctl) {a b : BitVec F.width} {sb : Bool} (ha : isInf a = true) (hb : isInf b = true)
    (hs : signOf a ≠ sb) : addCore c a sb b = (indef F, flIE) := by simp [addCore, ha, hb, hs]

theorem addCore_infinity_left (c : Ctl) {a b : BitVec F.width} {sb : Bool} (ha : isInf a = true)
    (hs : isInf b = true → signOf a = sb) : addCore c a sb b = (infOf F (signOf a), denormal2 a b) := by
  have same : ¬(isInf a && isInf b && signOf a != sb) = true := by cases hb : isInf b <;> simp_all
  rw [infOf_signOf ha]
  exact (if_neg same).trans (if_pos ha)

theorem addCore_infinity_right (c : Ctl) {a b : BitVec F.width} (sb : Bool) (ha : isInf a = false) (hb : isInf b = true) :
    addCore c a sb b = (infOf F sb, denormal2 a b) := by simp [addCore, ha, hb]

theorem addCore_finite (c : Ctl) {a b : BitVec F.width} (sb : Bool) (ha : isInf a = false) (hb : isInf b = false) :
    let v := value a + signFactor sb * (magOf b).val
    (v = 0 → addCore c a sb b =
      (zeroOf F (if isZero a = true ∧ isZero b = true ∧ signOf a = sb then sb else decide (c.rc = 1)), denormal2 a b)) ∧
    (v ≠ 0 → addCore c a sb b =
      ((exactRound F c (decide (v < 0)) |v|).1, (exactRound F c (decide (v < 0)) |v|).2 ||| denormal2 a b)) := by
  have val := exactSum_val (signOf a) (mant a) (expo a) sb (mant b) (expo b)
  rw [← value_eq, ← magOf_val] at val
  set zeroSign := if isZero a = true ∧ isZero b = true ∧ signOf a = sb then sb else decide (c.rc = 1) with hz
  have model : addCore c a sb b =
      let r := exactSum (signOf a) (mant a) (expo a) sb (mant b) (expo b)
      if r.1 = 0 then (zeroOf F zeroSign, denormal2 a b) else addFlags (roundSum F c r) (denormal2 a b) := by
    simp only [addCore, ha, hb, Bool.false_and, Bool.false_eq_true, if_false, Bool.and_eq_true, beq_iff_eq, and_assoc, hz]
    rfl
  rw [model]
  exact sum_result F c zeroSign (denormal2 a b) val

/-- `fadd` and `fsub` are the addition of the second operand with its own or the inverted sign. -/
theorem add_or_sub_eq_addCore (c : Ctl) {a b : BitVec F.width} (ha : isNaN a = false) (hb : isNaN b = false) (sub : Bool) :
    (if sub then fsub F c a b else fadd F c a b) = addCore c (daz c a) (signOf (daz c b) != sub) (daz c b) := by
  cases sub <;> simp [fadd, fsub, ha, hb]

end

/-- Settles O22. -/
theorem additionAndSubtraction : Obligations.AdditionAndSubtraction := by
  intro F c a0 b0 sub a b op sb r de
  have exactSum : r = value a + signFactor sb * (magOf b).val := by
    rw [magOf_val, ← signFactor_mul, mul_right_comm, ← value_eq]
    cases sub <;> simp [r, sub_eq_add_neg]
  refine ⟨fun h => ?_, fun ha hb => ?_⟩
  · obtain ⟨add, sub', -⟩ := arithmetic_of_isNaN c (a := a0) (b := b0) (by simpa [a, b] using h)
    cases sub
    exacts [add, sub']
  · have core : op = addCore c a sb b :=
      add_or_sub_eq_addCore c (by simpa [a] using ha) (by simpa [b] using hb) sub
    rw [core, exactSum]
    exact ⟨addCore_opposite_infinities c, addCore_infinity_left c, addCore_infinity_right c sb, addCore_finite c sb⟩

/-! ### Products and quotients (R569, R570) -/

section
variable {F : Fmt} (c : Ctl) {a b : BitVec F.width}

/-- The magnitude that `fmul` rounds. -/
theorem product_val : (⟨mant a * mant b, 1, expo a + expo b⟩ : Mag).val = |value a * value b| := by
  rw [abs_mul, abs_value, abs_value, magOf_val, magOf_val, Mag.val, zpow_add₀ two_ne_zero]
  push_cast
  ring

/-- The magnitude that `fdiv` rounds. -/
theorem quotient_val : (⟨mant a, mant b, expo a - expo b⟩ : Mag).val = |value a / value b| := by
  rw [abs_div, abs_value, abs_value, magOf_val, magOf_val, Mag.val, zpow_sub₀ two_ne_zero]
  ring

theorem round_product (s : Bool) (ha : isZero a = false) (hb : isZero b = false) :
    roundPack F c s ⟨mant a * mant b, 1, expo a + expo b⟩ = exactRound F c s |value a * value b| := by
  rw [roundPack_eq_exactRound F c s (Nat.mul_pos (mant_pos_iff.mpr ha) (mant_pos_iff.mpr hb)) one_pos, product_val]

theorem round_quotient (s : Bool) (ha : isZero a = false) (hb : isZero b = false) :
    roundPack F c s ⟨mant a, mant b, expo a - expo b⟩ = exactRound F c s |value a / value b| := by
  rw [roundPack_eq_exactRound F c s (mant_pos_iff.mpr ha) (mant_pos_iff.mpr hb), quotient_val]

end

/-- Settles O23: the cases of each operation in the order in which the model decides them. -/
theorem multiplicationAndDivision : Obligations.MultiplicationAndDivision := by
  intro F c a0 b0 a b s de rnd
  refine ⟨fun h => ?_, fun ha hb => ?_⟩
  · obtain ⟨-, -, mul, div⟩ := arithmetic_of_isNaN c (a := a0) (b := b0) (by simpa [a, b] using h)
    exact ⟨mul, div⟩
  have nan : (isNaN (daz c a0) || isNaN (daz c b0)) = false := by simpa [a, b] using And.intro ha hb
  have mul : fmul F c a0 b0 = if (isInf a && isZero b) || (isZero a && isInf b) then (indef F, flIE)
      else if isInf a || isInf b then (infOf F s, de) else if isZero a || isZero b then (zeroOf F s, de)
      else addFlags (roundPack F c s ⟨mant a * mant b, 1, expo a + expo b⟩) de := by
    simp only [fmul, nan, Bool.false_eq_true, if_false]; rfl
  have div : fdiv F c a0 b0 = if (isInf a && isInf b) || (isZero a && isZero b) then (indef F, flIE)
      else if isInf a then (infOf F s, de) else if isInf b then (zeroOf F s, de)
      else if isZero b then (infOf F s, de ||| flZE) else if isZero a then (zeroOf F s, de)
      else addFlags (roundPack F c s ⟨mant a, mant b, expo a - expo b⟩) de := by
    simp only [fdiv, nan, Bool.false_eq_true, if_false]; rfl
  rw [mul, div]
  have infA := isZero_of_isInf (x := a)
  have infB := isZero_of_isInf (x := b)
  refine ⟨?_, ?_, ?_, ?_, ?_, ?_, ?_, ?_, ?_, ?_⟩
  · rintro (⟨h, h'⟩ | ⟨h, h'⟩) <;> simp [h, h']
  · rintro (⟨h, h'⟩ | ⟨h, h'⟩) <;> simp [h, h', infA, infB]
  · rintro h h' (z | z) <;> simp [h, h', z]
  · intro h h' z z'
    simp [h, h', z, z', round_product c s z z', addFlags, rnd]
  · rintro (⟨h, h'⟩ | ⟨h, h'⟩) <;> simp [h, h']
  · intro h h'; simp [h, h', infA]
  · intro h h'; simp [h, h', infB]
  · intro h z z'; simp [h, z, z', isInf_of_isZero z']
  · intro z z' h'; simp [h', z, z', isInf_of_isZero z]
  · intro h h' z z'
    simp [h, h', z, z', round_quotient c s z z', addFlags, rnd]

end Sys2Proof.Machine

/-! The square root and the comparisons (05_numerics.md R571 to R573). -/

namespace Sys2Proof.Machine

/-! ### The square root (R571) -/

/-- Each bit keeps the root between `r` and `r + 2 ^ k`. -/
theorem isqrtBits_bounds {n : Nat} (k : Nat) {r : Nat} (lo : r * r ≤ n) (hi : n < (r + 2 ^ k) * (r + 2 ^ k)) :
    isqrtBits n k r * isqrtBits n k r ≤ n ∧ n < (isqrtBits n k r + 1) * (isqrtBits n k r + 1) := by
  induction k generalizing r with
  | zero => exact ⟨lo, hi⟩
  | succ k ih =>
    rw [Nat.pow_succ, Nat.mul_two, ← Nat.add_assoc] at hi
    rw [isqrtBits]
    split
    next fits => exact ih fits hi
    next exceeds => exact ih lo (not_le.mp exceeds)

theorem isqrt_eq_sqrt (n : Nat) : isqrt n = Nat.sqrt n := by
  have bits : n < 2 ^ (Nat.log2 n / 2 + 1) * 2 ^ (Nat.log2 n / 2 + 1) := by
    rw [← Nat.pow_add]
    exact Nat.lt_log2_self.trans_le (Nat.pow_le_pow_right two_pos (by omega))
  exact Nat.eq_sqrt.mpr (isqrtBits_bounds _ (Nat.zero_le n) (by simpa using bits))

/-- The exact root of `n * 2 ^ e` is the root of the integer that `sqrtMag` takes, scaled. -/
theorem sqrt_scaled (n : Nat) (e : Int) :
    Real.sqrt (n * 2 ^ e) = Real.sqrt (n * 2 ^ ((e % 2).toNat + 128) : Nat) * 2 ^ ((e - e % 2) / 2 - 64) := by
  have parts : e = ((e % 2).toNat + 128 : Nat) + (((e - e % 2) / 2 - 64) + ((e - e % 2) / 2 - 64)) := by push_cast; omega
  conv_lhs => rw [parts, zpow_add₀ two_ne_zero, zpow_natCast, ← mul_assoc, zpow_add₀ two_ne_zero]
  rw [Real.sqrt_mul (by positivity), Real.sqrt_mul_self (by positivity)]
  push_cast
  rfl

/-- A root that is no natural number lies strictly between its floor and the next. -/
theorem sqrt_between {x : Nat} (h : Nat.sqrt x * Nat.sqrt x ≠ x) :
    (Nat.sqrt x : ℝ) < Real.sqrt x ∧ Real.sqrt x < Nat.sqrt x + 1 := by
  constructor
  · rw [Real.lt_sqrt (by positivity)]
    exact_mod_cast lt_of_le_of_ne (Nat.sqrt_le' x) (by rwa [pow_two])
  · rw [Real.sqrt_lt' (by positivity)]
    exact_mod_cast Nat.lt_succ_sqrt' x

/-- A root with one sticky bit below it rounds as the exact root: both lie between the same two multiples of a place beyond
the precision. -/
theorem round_sticky_root (F : Fmt) (c : Ctl) {x : Nat} (k : Int) (root : 2 ^ (F.frac + 1) ≤ Nat.sqrt x) :
    roundPack F c false ⟨2 * Nat.sqrt x + (if Nat.sqrt x * Nat.sqrt x = x then 0 else 1), 1, k - 1⟩ =
      exactRound F c false (Real.sqrt x * 2 ^ k) := by
  have sig : 0 < 2 * Nat.sqrt x := Nat.mul_pos two_pos (lt_of_lt_of_le (by positivity) root)
  have place : (2 : ℝ) ^ k = 2 ^ (k - 1) * 2 := by rw [← zpow_add_one₀ two_ne_zero, sub_add_cancel]
  rw [roundPack_eq_exactRound F c false (Nat.add_pos_left sig _) one_pos, Mag.val]
  by_cases square : Nat.sqrt x * Nat.sqrt x = x
  · have root' : Real.sqrt x = Nat.sqrt x := by
      rw [Real.sqrt_eq_iff_mul_self_eq (by positivity) (by positivity)]
      exact_mod_cast square.symm
    rw [root', place, if_pos square]
    congr 1
    push_cast
    ring
  · obtain ⟨lo, hi⟩ := sqrt_between square
    have unit : (0 : ℝ) < 2 ^ (k - 1) := by positivity
    refine exactRound_congr F c false (k := k) root ?_
      ⟨mul_lt_mul_of_pos_right lo (by positivity), mul_lt_mul_of_pos_right hi (by positivity)⟩
    rw [if_neg square, place]
    push_cast
    constructor <;> linarith

theorem round_sqrtMag (F : Fmt) (c : Ctl) {n : Nat} (hn : 0 < n) (e : Int) :
    roundPack F c false (sqrtMag n e) = exactRound F c false (Real.sqrt (n * 2 ^ e)) := by
  have root : 2 ^ (F.frac + 1) ≤ Nat.sqrt (n * 2 ^ ((e % 2).toNat + 128)) := by
    rw [Nat.le_sqrt, ← Nat.pow_add]
    calc 2 ^ (F.frac + 1 + (F.frac + 1)) ≤ 2 ^ ((e % 2).toNat + 128) :=
          Nat.pow_le_pow_right two_pos (by cases F <;> simp only [Fmt.frac] <;> omega)
      _ ≤ n * 2 ^ ((e % 2).toNat + 128) := Nat.le_mul_of_pos_left _ hn
  rw [sqrt_scaled, ← round_sticky_root F c _ root, sqrtMag, isqrt_eq_sqrt, sub_sub]
  rfl

/-- Settles O24: the cases in the model's order; the last rounds the exact root. -/
theorem squareRoot : Obligations.SquareRoot := by
  intro F c a0 a de r
  have model : fsqrt F c a0 = if isNaN a then (quiet a, flagIf (isSNaN a) flIE) else if isZero a then (a, 0)
      else if signOf a then (indef F, flIE) else if isInf a then (a, de)
      else addFlags (roundPack F c false (sqrtMag (mant a) (expo a))) de := rfl
  rw [model]
  refine ⟨fun h => if_pos h, fun h => ?_, fun h h' h'' => ?_, fun h h' => ?_, fun h h' h'' h''' => ?_⟩
  · simp [isNaN_of_isZero h, h]
  · simp [h, h', h'']
  · simp [isNaN_of_isInf h, isZero_of_isInf h, h, h']
  · have root : value a = mant a * 2 ^ expo a := by rw [value_eq, h''', signFactor_false, one_mul]
    simp [h, h', h'', h''', addFlags, round_sqrtMag F c (mant_pos_iff.mpr h'), r, root]

/-! ### Order (R572, R573) -/

/-- The exponent and fraction of a pattern as one number. -/
def magKey {F : Fmt} (x : BitVec F.width) : Nat := expOf x * 2 ^ F.frac + fracOf x

/-- The magnitude that belongs to an exponent and a fraction. -/
noncomputable def keyValue (F : Fmt) (n : Nat) : ℝ :=
  if n / 2 ^ F.frac = 0 then ((n % 2 ^ F.frac : Nat) : ℝ) * 2 ^ (F.emin - F.frac)
  else (2 ^ F.frac + (n % 2 ^ F.frac : Nat) : Nat) * 2 ^ ((n / 2 ^ F.frac : Nat) - (F.bias : Int) - F.frac)

/-- Each pattern is worth more than the one before it: one unit more, also where the exponent changes. -/
theorem keyValue_strictMono (F : Fmt) : StrictMono (keyValue F) := by
  refine strictMono_nat_of_lt_succ fun n => ?_
  have pos : 0 < 2 ^ F.frac := by positivity
  have rem := Nat.mod_lt n pos
  have parts := Nat.div_add_mod n (2 ^ F.frac)
  rw [keyValue, keyValue]
  generalize n / 2 ^ F.frac = e at *
  generalize n % 2 ^ F.frac = f at *
  by_cases carry : f + 1 = 2 ^ F.frac
  · have next : n + 1 = 2 ^ F.frac * (e + 1) := by rw [Nat.mul_add, ← parts]; omega
    rw [next, Nat.mul_div_cancel_left _ pos, Nat.mul_mod_right, if_neg (Nat.succ_ne_zero e), Nat.add_zero, ← carry]
    have unit : (0 : ℝ) < 2 ^ ((e : Int) - F.bias - F.frac) := by positivity
    by_cases zero : e = 0
    · rw [if_pos zero, zero, Fmt.emin]
      push_cast
      gcongr
      · norm_num
    · have double : (2 : ℝ) ^ (((e + 1 : Nat) : Int) - F.bias - F.frac) = 2 ^ ((e : Int) - F.bias - F.frac) * 2 := by
        rw [← zpow_add_one₀ two_ne_zero]; congr 1; push_cast; ring
      rw [if_neg zero, double]
      push_cast
      nlinarith
  · have next : n + 1 = f + 1 + 2 ^ F.frac * e := by omega
    rw [next, Nat.add_mul_div_left _ _ pos, Nat.add_mul_mod_self_left, Nat.div_eq_of_lt (by omega), Nat.zero_add,
      Nat.mod_eq_of_lt (by omega)]
    split <;> (gcongr; omega)

section
variable {F : Fmt}

theorem magKey_lt (x : BitVec F.width) : magKey x < 2 ^ (F.width - 1) := by
  have he := expOf_lt x
  have hf := fracOf_lt x
  rw [magKey]
  cases F <;> simp only [Fmt.width, Fmt.frac, Fmt.expBits] at * <;> omega

theorem orderKey_eq (x : BitVec F.width) : orderKey x = signedInt (signOf x) (magKey x) := by
  rw [orderKey, toNat_eq_fields, Nat.add_assoc, ← magKey, Nat.mul_add_mod_of_lt (magKey_lt x)]

theorem value_eq_keyValue (x : BitVec F.width) : value x = signFactor (signOf x) * keyValue F (magKey x) := by
  have e : magKey x / 2 ^ F.frac = expOf x := by
    rw [magKey, Nat.mul_comm, Nat.mul_add_div (by positivity), Nat.div_eq_of_lt (fracOf_lt x), Nat.add_zero]
  have f : magKey x % 2 ^ F.frac = fracOf x := by
    rw [magKey, Nat.mul_comm, Nat.mul_add_mod, Nat.mod_eq_of_lt (fracOf_lt x)]
  rw [value_eq, keyValue, e, f, mant, expo]
  split <;> rfl

/-- The integer key orders the values. -/
theorem value_lt_iff (a b : BitVec F.width) : value a < value b ↔ orderKey a < orderKey b := by
  have mono := keyValue_strictMono F
  have zero : keyValue F 0 = 0 := by simp [keyValue]
  have nonneg : ∀ n, 0 ≤ keyValue F n := fun n => zero ▸ mono.monotone (Nat.zero_le n)
  have pos : ∀ n, 0 < keyValue F n ↔ 0 < n := fun n => by rw [← mono.lt_iff_lt (a := 0), zero]
  have ka := nonneg (magKey a)
  have kb := nonneg (magKey b)
  rw [value_eq_keyValue, value_eq_keyValue, orderKey_eq, orderKey_eq]
  cases signOf a <;> cases signOf b <;> simp only [signedInt, signFactor_false, signFactor_true, one_mul, neg_one_mul,
    Bool.false_eq_true, if_false, if_true, neg_lt_neg_iff, mono.lt_iff_lt, Nat.cast_lt]
  · exact iff_of_false (by linarith) (by omega)
  · have either : -keyValue F (magKey a) < keyValue F (magKey b) ↔ 0 < keyValue F (magKey a) ∨ 0 < keyValue F (magKey b) := by
      constructor
      · intro lt
        by_contra! both
        linarith
      · rintro (h | h) <;> linarith
    rw [either, pos, pos]
    omega

/-- Every pattern but a NaN has a key up to that of the infinities. -/
theorem magKey_bounds {x : BitVec F.width} (h : isNaN x = false) :
    magKey x ≤ F.expMax * 2 ^ F.frac ∧ (isInf x = true ↔ magKey x = F.expMax * 2 ^ F.frac) := by
  have lt := fracOf_lt x
  have le : expOf x ≤ F.expMax := Nat.le_sub_one_of_lt (expOf_lt x)
  obtain eq | lt' := Nat.eq_or_lt_of_le le
  · have f0 : fracOf x = 0 := by simpa [isNaN, eq] using h
    simp [magKey, isInf, eq, f0]
  · have below : magKey x < F.expMax * 2 ^ F.frac := calc
      magKey x < (expOf x + 1) * 2 ^ F.frac := by rw [magKey, Nat.add_one_mul]; omega
      _ ≤ F.expMax * 2 ^ F.frac := Nat.mul_le_mul_right _ lt'
    simp [isInf, lt'.ne, below.le, below.ne]

/-- The key of the infinities. -/
def infKey (F : Fmt) : Int := (F.expMax * 2 ^ F.frac : Nat)

theorem orderKey_bounds {x : BitVec F.width} (h : isNaN x = false) : -infKey F ≤ orderKey x ∧ orderKey x ≤ infKey F := by
  have le := (magKey_bounds h).1
  rw [orderKey_eq, infKey, signedInt]
  split <;> omega

/-- The two infinities are the patterns with the extreme keys. -/
theorem extValue_eq {x : BitVec F.width} (h : isNaN x = false) :
    extValue x = if orderKey x = infKey F then ⊤ else if orderKey x = -infKey F then ⊥ else (value x : EReal) := by
  obtain ⟨le, inf⟩ := magKey_bounds h
  have top : 0 < F.expMax * 2 ^ F.frac := Nat.mul_pos (Nat.pos_of_ne_zero expMax_ne_zero) (by positivity)
  rw [orderKey_eq, infKey, signedInt]
  simp only [extValue, inf]
  cases signOf x <;> simp only [Bool.false_eq_true, if_false, if_true, neg_inj, Nat.cast_inj]
  · exact if_congr Iff.rfl rfl (if_neg (by omega)).symm
  · exact (if_neg (by omega)).symm

/-- The integer key orders the extended values. -/
theorem extValue_lt_iff {a b : BitVec F.width} (ha : isNaN a = false) (hb : isNaN b = false) :
    extValue a < extValue b ↔ orderKey a < orderKey b := by
  obtain ⟨loA, hiA⟩ := orderKey_bounds ha
  obtain ⟨loB, hiB⟩ := orderKey_bounds hb
  have finite := value_lt_iff a b
  rw [extValue_eq ha, extValue_eq hb]
  split_ifs <;> simp only [lt_self_iff_false, not_top_lt, not_lt_bot, EReal.coe_lt_top, EReal.bot_lt_coe, bot_lt_top,
    EReal.coe_lt_coe_iff, true_iff, false_iff, finite] <;> omega

theorem extValue_eq_iff {a b : BitVec F.width} (ha : isNaN a = false) (hb : isNaN b = false) :
    extValue a = extValue b ↔ orderKey a = orderKey b := by
  rw [eq_iff_le_not_lt, eq_iff_le_not_lt, ← not_lt, extValue_lt_iff ha hb, extValue_lt_iff hb ha, not_lt]

/-! ### The relation of two operands (R573) -/

theorem relOf_of_isNaN {a b : BitVec F.width} (h : isNaN a = true ∨ isNaN b = true) : relOf a b = .un :=
  if_pos (by simpa using h)

/-- Without a NaN the relation is that of the extended values. -/
theorem relOf_of_not_isNaN {a b : BitVec F.width} (ha : isNaN a = false) (hb : isNaN b = false) :
    (extValue a < extValue b → relOf a b = .lt) ∧ (extValue a = extValue b → relOf a b = .eq) ∧
    (extValue b < extValue a → relOf a b = .gt) := by
  rw [extValue_lt_iff ha hb, extValue_lt_iff hb ha, extValue_eq_iff ha hb]
  refine ⟨fun h => ?_, fun h => ?_, fun h => ?_⟩
  · simp [relOf, ha, hb, h]
  · simp [relOf, ha, hb, h]
  · simp [relOf, ha, hb, h.not_gt, h.ne']

theorem extValue_of_isZero {x : BitVec F.width} (h : isZero x = true) : extValue x = 0 := by
  rw [extValue, isInf_of_isZero h, value_eq_zero_iff.mpr h]; rfl

end

/-- Settles O25: by the relation of the two operands. -/
theorem maximumAndMinimum : Obligations.MaximumAndMinimum := by
  intro F c a0 b0 a b de
  have max : fmax F c a0 b0 = match relOf a b with | .un => (b, flIE) | .gt => (a, de) | .lt | .eq => (b, de) := by
    rw [fmax]; rfl
  have min : fmin F c a0 b0 = match relOf a b with | .un => (b, flIE) | .lt => (a, de) | .gt | .eq => (b, de) := by
    rw [fmin]; rfl
  refine ⟨fun h => by simp [max, min, relOf_of_isNaN h], fun ha hb => ?_⟩
  obtain ⟨lt, eq, gt⟩ := relOf_of_not_isNaN ha hb
  refine ⟨fun za zb => ?_, fun h => by simp [max, gt h], fun h => ?_, fun h => by simp [min, lt h], fun h => ?_⟩
  · simp [max, min, eq ((extValue_of_isZero za).trans (extValue_of_isZero zb).symm)]
  · rcases lt_or_eq_of_le (not_lt.mp h) with h | h
    · simp [max, lt h]
    · simp [max, eq h]
  · rcases lt_or_eq_of_le (not_lt.mp h) with h | h
    · simp [min, gt h]
    · simp [min, eq h.symm]

/-- The rows of the predicate table read by column. -/
theorem predRow_columns (p : BitVec 5) :
    (predRow p).holds .lt = (0x96969696#32).getLsbD p.toNat ∧ (predRow p).holds .eq = (0xA5A5A5A5#32).getLsbD p.toNat ∧
    (predRow p).holds .gt = (0xF0F0F0F0#32).getLsbD p.toNat ∧ (predRow p).holds .un = (0x87788778#32).getLsbD p.toNat ∧
    (predRow p).signals = (0x99996666#32).getLsbD p.toNat := by
  revert p; decide

/-- Settles O26: by the relation of the two operands, the table read by column. -/
theorem comparisonPredicates : Obligations.ComparisonPredicates := by
  intro F c p a0 b0 a b col res
  have result : res = (predRow p).holds (relOf a b) := rfl
  have flags : (fcmp F c p a0 b0).2 = if relOf a b = .un then flagIf ((predRow p).signals || isSNaN a || isSNaN b) flIE
      else if isDenormal a || isDenormal b then flDE else 0 := rfl
  obtain ⟨colLt, colEq, colGt, colUn, colSignals⟩ := predRow_columns p
  rw [result, flags]
  refine ⟨fun h => ?_, fun ha hb => ?_⟩
  · rw [relOf_of_isNaN h, colUn, colSignals]
    exact ⟨rfl, rfl⟩
  · obtain ⟨lt, eq, gt⟩ := relOf_of_not_isNaN ha hb
    have ordered : relOf a b ≠ .un := by
      rcases lt_trichotomy (extValue a) (extValue b) with h | h | h
      · rw [lt h]; decide
      · rw [eq h]; decide
      · rw [gt h]; decide
    exact ⟨fun h => lt h ▸ colLt, fun h => eq h ▸ colEq, fun h => gt h ▸ colGt, if_neg ordered⟩

end Sys2Proof.Machine

/-! The conversions, the rounding to an integral value and the fused multiply-add (05_numerics.md R574 to R578). -/

namespace Sys2Proof.Machine

/-! ### Finite operands -/

section
variable {F : Fmt}

/-- Every finite magnitude lies below the power of two of the infinities. -/
theorem finite_magnitude_lt {x : BitVec F.width} (hn : isNaN x = false) (hi : isInf x = false) :
    (mant x : ℝ) * 2 ^ expo x < 2 ^ ((F.bias : Int) + 1) :=
  calc (mant x : ℝ) * 2 ^ expo x < 2 ^ (F.frac + 1) * 2 ^ expo x := by gcongr; exact_mod_cast mant_lt x
    _ ≤ 2 ^ (F.frac + 1) * 2 ^ ((F.bias : Int) - F.frac) := by gcongr; exacts [one_le_two, (expo_bounds hn hi).2]
    _ = 2 ^ ((F.bias : Int) + 1) := by rw [← zpow_natCast, ← zpow_add₀ two_ne_zero]; congr 1; push_cast; ring

theorem round_magOf (G : Fmt) (c : Ctl) (s : Bool) {a : BitVec F.width} (h : isZero a = false) :
    roundPack G c s (magOf a) = exactRound G c s |value a| := by
  rw [roundPack_eq_exactRound G c s (mant_pos_iff.mpr h) one_pos, abs_value]

theorem round_nat (F : Fmt) (c : Ctl) (s : Bool) {n : Nat} (h : 0 < n) :
    roundPack F c s ⟨n, 1, 0⟩ = exactRound F c s n := by
  rw [roundPack_eq_exactRound F c s h one_pos, Mag.val]
  simp

end

/-! ### Between the formats and from integers (R574, R576) -/

/-- The NaN of one format in another: the sign kept, the fraction moved, its top bit set. -/
theorem fields_convertNaN (F G : Fmt) (a : BitVec F.width) :
    signOf (convertNaN F G a) = signOf a ∧ expOf (convertNaN F G a) = G.expMax ∧
    fracOf (convertNaN F G a) =
      (if F.frac ≤ G.frac then fracOf a * 2 ^ (G.frac - F.frac) else fracOf a / 2 ^ (F.frac - G.frac)) ||| 2 ^ (G.frac - 1) := by
  set f := if F.frac ≤ G.frac then fracOf a * 2 ^ (G.frac - F.frac) else fracOf a / 2 ^ (F.frac - G.frac) with hf
  have fits : f < 2 ^ G.frac := by
    have lt := fracOf_lt a
    rw [hf]
    cases F <;> cases G <;> simp [Fmt.frac] at * <;> omega
  obtain ⟨sign, exp, frac⟩ := fields_quiet (pack G (signOf a) G.expMax f)
  rw [convertNaN, ← hf, sign, exp, frac, signOf_pack _ expMax_lt fits, expOf_pack _ expMax_lt fits, fracOf_pack _ expMax_lt fits]
  exact ⟨rfl, rfl, rfl⟩

/-- Double precision holds every finite single-precision number. -/
theorem widening_exact (c : Ctl) {a : BitVec Fmt.f32.width} (hn : isNaN a = false) (hi : isInf a = false)
    (hz : isZero a = false) :
    value (exactRound .f64 c (signOf a) |value a|).1 = value a ∧ (exactRound .f64 c (signOf a) |value a|).2 = 0 := by
  have pos := mant_pos_iff.mpr hz
  have lo : (2 : ℝ) ^ Fmt.emin .f64 ≤ mant a * 2 ^ expo a := calc
    (2 : ℝ) ^ Fmt.emin .f64 ≤ 1 * 2 ^ expo a := by
      rw [one_mul]
      exact zpow_le_zpow_right₀ one_le_two ((by decide : Fmt.emin .f64 ≤ Fmt.emin .f32 - Fmt.frac .f32).trans (expo_bounds hn hi).1)
    _ ≤ mant a * 2 ^ expo a := by gcongr; exact_mod_cast pos
  have hi' : (mant a : ℝ) * 2 ^ expo a < 2 ^ ((Fmt.bias .f64 : Int) + 1) :=
    (finite_magnitude_lt hn hi).trans_le (zpow_le_zpow_right₀ one_le_two (by decide))
  obtain ⟨-, -, val, flags⟩ := exactRound_exact .f64 c (signOf a) pos ((mant_lt a).trans (by decide)) lo hi'
  rw [abs_value, magOf_val]
  exact ⟨val.trans (value_eq a).symm, flags⟩

theorem cvtIF_of_ne_zero (F : Fmt) (c : Ctl) {w : Nat} {n : BitVec w} (h : n.toInt ≠ 0) :
    cvtIF F c n = exactRound F c (decide (n.toInt < 0)) |(n.toInt : ℝ)| := by
  rw [cvtIF, if_neg h, round_nat F c _ (Int.natAbs_pos.mpr h), Nat.cast_natAbs, Int.cast_abs]

/-- Double precision holds every integer of 32 bits. -/
theorem cvtIF_32_exact (c : Ctl) (n : BitVec 32) : value (cvtIF .f64 c n).1 = n.toInt ∧ (cvtIF .f64 c n).2 = 0 := by
  by_cases h : n.toInt = 0
  · have zero : value (zeroOf .f64 false) = 0 := value_eq_zero_iff.mpr (by simp [isZero])
    rw [cvtIF, if_pos h, h, zero]
    simp
  have small : n.toInt.natAbs < 2 ^ 32 := by have := n.toInt_lt; have := n.le_toInt; omega
  have pos : (1 : ℝ) ≤ n.toInt.natAbs := by exact_mod_cast Int.natAbs_pos.mpr h
  have lo : (2 : ℝ) ^ Fmt.emin .f64 ≤ n.toInt.natAbs * 2 ^ (0 : Int) := by
    rw [zpow_zero, mul_one]
    exact (zpow_le_one_of_nonpos₀ one_le_two (by decide)).trans pos
  have hi : (n.toInt.natAbs : ℝ) * 2 ^ (0 : Int) < 2 ^ ((Fmt.bias .f64 : Int) + 1) := by
    rw [zpow_zero, mul_one]
    calc (n.toInt.natAbs : ℝ) < 2 ^ (32 : Int) := by exact_mod_cast small
      _ ≤ 2 ^ ((Fmt.bias .f64 : Int) + 1) := zpow_le_zpow_right₀ one_le_two (by decide)
  obtain ⟨-, -, val, flags⟩ := exactRound_exact .f64 c (decide (n.toInt < 0)) (Int.natAbs_pos.mpr h)
    (small.trans (by decide)) lo hi
  have model : cvtIF .f64 c n = exactRound .f64 c (decide (n.toInt < 0)) (n.toInt.natAbs * 2 ^ (0 : Int)) := by
    rw [cvtIF_of_ne_zero _ c h, zpow_zero, mul_one, Nat.cast_natAbs, Int.cast_abs]
  have signed : signedInt (decide (n.toInt < 0)) n.toInt.natAbs = n.toInt := by
    rw [signedInt]; simp only [decide_eq_true_eq]; split <;> omega
  rw [model, val, flags, zpow_zero, mul_one, ← cast_signedInt, signed]
  exact ⟨rfl, rfl⟩

/-- Settles O27. -/
theorem conversionsToAFormat : Obligations.ConversionsToAFormat := by
  refine ⟨fun F G c a0 hFG => ?_, fun F c w n _ => ⟨fun h => if_pos h, cvtIF_of_ne_zero F c, ?_⟩⟩
  · intro a de r
    have model : cvtFF F G c a0 = if isNaN a then (convertNaN F G a, flagIf (isSNaN a) flIE)
        else if isInf a then (infOf G (signOf a), de) else if isZero a then (zeroOf G (signOf a), de)
        else addFlags (roundPack G c (signOf a) (magOf a)) de := rfl
    rw [model]
    refine ⟨fun h => ?_, fun h => by simp [isNaN_of_isInf h, h], fun h => ?_, fun hn hi hz => ?_⟩
    · rw [if_pos h]
      obtain ⟨sign, exp, frac⟩ := fields_convertNaN F G a
      refine ⟨rfl, sign, exp, frac.trans ?_⟩
      cases F <;> cases G
      case f32.f32 | f64.f64 => exact absurd rfl hFG
      all_goals rfl
    · simp [isNaN_of_isZero h, isInf_of_isZero h, h]
    · simp only [hn, hi, hz, Bool.false_eq_true, if_false, addFlags, round_magOf G c _ hz]
      refine ⟨rfl, ?_⟩
      rintro rfl
      obtain rfl : G = .f64 := by cases G <;> simp_all
      obtain ⟨val, flags⟩ := widening_exact c hn hi hz
      exact ⟨val, by rw [flags]; exact BitVec.zero_or⟩
  · rintro rfl
    exact cvtIF_32_exact c n

/-! ### To integers (R575, R577) -/

section
variable {F : Fmt}

/-- The integer that the model rounds a magnitude to. -/
theorem rint_magOf (a : BitVec F.width) (s : Bool) (rc : BitVec 2) :
    exactRint |value a| s rc = (((rint ((magOf a).scaled 0).1 ((magOf a).scaled 0).2 s rc).1 : Int),
      (rint ((magOf a).scaled 0).1 ((magOf a).scaled 0).2 s rc).2) := by
  rw [← rint_eq_exactRint _ (Mag.scaled_den_pos one_pos 0), Mag.scaled_val, abs_value, zpow_zero, div_one]

/-- The integer that a finite magnitude rounds to has an exact pattern: it is the magnitude itself, or no greater than
the significand. -/
theorem round_integral (c : Ctl) (s : Bool) {a : BitVec F.width} (hn : isNaN a = false) (hi : isInf a = false)
    (hz : isZero a = false) (rc : BitVec 2) {n : Nat} (hr : (exactRint |value a| s rc).1 = n) (h0 : n ≠ 0) :
    isNormal (roundPack F c s ⟨n, 1, 0⟩).1 = true ∧ signOf (roundPack F c s ⟨n, 1, 0⟩).1 = s ∧
    |value (roundPack F c s ⟨n, 1, 0⟩).1| = n := by
  have pos : 0 < n := Nat.pos_of_ne_zero h0
  obtain ⟨m, k, hm, m0, mLt, hlt⟩ : ∃ (m : Nat) (k : Int), (n : ℝ) = m * 2 ^ k ∧ 0 < m ∧ m < 2 ^ (F.frac + 1) ∧
      (m : ℝ) * 2 ^ k < 2 ^ ((F.bias : Int) + 1) := by
    rcases le_or_gt 0 (expo a) with whole | fraction
    · refine ⟨mant a, expo a, ?_, mant_pos_iff.mpr hz, mant_lt a, finite_magnitude_lt hn hi⟩
      have integral : |value a| = ((mant a * 2 ^ (expo a).toNat : Nat) : Int) := by
        rw [abs_value, magOf_val]
        conv_lhs => rw [← Int.toNat_of_nonneg whole, zpow_natCast]
        push_cast
        rfl
      rw [integral, exactRint_intCast] at hr
      have same : ((mant a * 2 ^ (expo a).toNat : Nat) : Int) = n := hr
      rw [← magOf_val, ← abs_value, integral, same, Int.cast_natCast]
    · have le : |value a| ≤ ((mant a : Nat) : Int) := by
        rw [abs_value, magOf_val, Int.cast_natCast]
        exact mul_le_of_le_one_right (by positivity) (zpow_le_one_of_nonpos₀ one_le_two fraction.le)
      have nLe : n ≤ mant a := by
        have := exactRint_le le s rc
        rw [hr] at this
        exact_mod_cast this
      have nLt : n < 2 ^ (F.frac + 1) := nLe.trans_lt (mant_lt a)
      refine ⟨n, 0, by rw [zpow_zero, mul_one], pos, nLt, ?_⟩
      calc (n : ℝ) * 2 ^ (0 : Int) < 2 ^ ((F.frac + 1 : Nat) : Int) := by
            rw [zpow_zero, mul_one, zpow_natCast]; exact_mod_cast nLt
        _ ≤ 2 ^ ((F.bias : Int) + 1) := zpow_le_zpow_right₀ one_le_two (by cases F <;> decide)
  have lo : (2 : ℝ) ^ F.emin ≤ m * 2 ^ k := by
    rw [← hm]
    exact (zpow_le_one_of_nonpos₀ one_le_two (by cases F <;> decide)).trans (by exact_mod_cast pos)
  obtain ⟨normal, sign, val, -⟩ := exactRound_exact F c s m0 mLt lo hlt
  rw [← hm] at normal sign val
  rw [round_nat F c s pos]
  exact ⟨normal, sign, by rw [val, abs_mul, abs_signFactor, one_mul, Nat.abs_cast]⟩

end

/-- Settles O28: the integer rounded to is the rule's, and the range decides. -/
theorem conversionToAnInteger : Obligations.ConversionToAnInteger := by
  intro F c w trunc a0 hw a bad r v
  have indefinite : (BitVec.ofNat w (2 ^ (w - 1)), flIE) = bad := by
    rcases hw with rfl | rfl <;> rfl
  have rounded : r = _ := rint_magOf a (signOf a) (if trunc then 3 else c.rc)
  set n := rint ((magOf a).scaled 0).1 ((magOf a).scaled 0).2 (signOf a) (if trunc then 3 else c.rc) with hn
  have signed : v = signedInt (signOf a) n.1 := by simp only [v, rounded, signedInt]
  have model : cvtFI F c w trunc a0 = if isNaN a || isInf a then bad else if isZero a then (0, 0)
      else if v < -2 ^ (w - 1) ∨ 2 ^ (w - 1) - 1 < v then bad else (BitVec.ofInt w v, if r.2 then flPE else 0) := by
    rw [← indefinite, signed, rounded]; rfl
  rw [model]
  refine ⟨fun h => if_pos (by simpa using h), fun h => ?_, fun h h' h'' => ⟨fun out => ?_, fun lo hi => ?_⟩⟩
  · simp [isNaN_of_isZero h, isInf_of_isZero h, h]
  · rw [h, h', h'']; exact if_pos out
  · rw [h, h', h'']; exact if_neg (not_or.mpr ⟨not_lt.mpr lo, not_lt.mpr hi⟩)

/-- Settles O29: the integer rounded to is the rule's, and its pattern is exact. -/
theorem roundingToAnIntegralValue : Obligations.RoundingToAnIntegralValue := by
  intro F c imm4 a0 a res r
  set rc := if imm4.getLsbD 2 then c.rc else imm4.extractLsb' 0 2 with hrc
  have rounded : r = _ := rint_magOf a (signOf a) rc
  set n := rint ((magOf a).scaled 0).1 ((magOf a).scaled 0).2 (signOf a) rc with hn
  have model : res = if isNaN a then (quiet a, flagIf (isSNaN a) flIE) else if isInf a || isZero a then (a, 0)
      else (if n.1 = 0 then zeroOf F (signOf a) else (roundPack F c (signOf a) ⟨n.1, 1, 0⟩).1,
        flagIf (n.2 && !imm4.getLsbD 3) flPE) := rfl
  rw [model]
  refine ⟨fun h => if_pos h, ?_, fun h h' h'' => ?_⟩
  · rintro (h | h)
    · simp [isNaN_of_isInf h, h]
    · simp [isNaN_of_isZero h, h]
  · simp only [h, h', h'', Bool.false_eq_true, Bool.or_self, if_false, rounded]
    refine ⟨rfl, fun zero => if_pos (by exact_mod_cast zero), fun nonzero => ?_⟩
    have n0 : n.1 ≠ 0 := by exact_mod_cast nonzero
    obtain ⟨normal, sign, val⟩ := round_integral c (signOf a) h h' h'' rc (congrArg Prod.fst rounded) n0
    obtain ⟨notNaN, notInf, -⟩ := of_isNormal normal
    rw [if_neg n0, Int.cast_natCast]
    exact ⟨notNaN, notInf, sign, val⟩

/-! ### The fused multiply-add (R578) -/

section
variable {F : Fmt}

/-- With a NaN among the operands the result is one of the NaN operands, quieted, whichever is drawn (log 11). -/
theorem ffma_nan_result (c : Ctl) (negp negz : Bool) {x y z : BitVec F.width}
    (h : isNaN x = true ∨ isNaN y = true ∨ isNaN z = true) :
    ∃ v ∈ [x, y, z], isNaN v = true ∧
      (match [x, y, z].filter isNaN with | [v] => quiet v | _ => fmaNaN F c negp negz x y z) = quiet v := by
  have some : 0 < ([x, y, z].filter isNaN).length := by
    rw [List.length_filter_pos_iff]
    simpa using h
  have drawn : ∀ i, i < ([x, y, z].filter isNaN).length →
      ([x, y, z].filter isNaN).getD i x ∈ [x, y, z] ∧ isNaN (([x, y, z].filter isNaN).getD i x) = true := fun i hi => by
    rw [List.getD_eq_getElem _ _ hi]
    exact List.mem_filter.mp (List.getElem_mem hi)
  split
  next v single =>
    obtain ⟨mem, nan⟩ := drawn 0 some
    rw [single] at mem nan
    exact ⟨v, mem, nan, rfl⟩
  next =>
    obtain ⟨mem, nan⟩ := drawn _ (Nat.mod_lt (Config.fmaNanDraw F.width c negp negz x y z) some)
    exact ⟨_, mem, nan, rfl⟩

/-- The exact sum that `ffma` rounds. -/
theorem fma_sum_val (negp negz : Bool) (x y z : BitVec F.width) :
    let r := exactSum ((signOf x != signOf y) != negp) (mant x * mant y) (expo x + expo y) (signOf z != negz) (mant z) (expo z)
    (r.1 : ℝ) * 2 ^ r.2 =
      (if negp then -(value x * value y) else value x * value y) + (if negz then -value z else value z) := by
  have product : signFactor (signOf x != signOf y) * ((mant x * mant y : Nat) * 2 ^ (expo x + expo y)) = value x * value y := by
    rw [value_eq, value_eq, ← signFactor_mul, zpow_add₀ two_ne_zero]
    push_cast
    ring
  have signed : ∀ (neg : Bool) (v : ℝ), (if neg then -v else v) = v * signFactor neg := by
    intro neg v; cases neg <;> simp
  simp only [exactSum_val, signed]
  rw [← product, value_eq z, ← signFactor_mul _ negp, ← signFactor_mul _ negz]
  ring

end

/-- Settles O30: the cases in the model's order; the last is the exact sum, rounded once. -/
theorem fusedMultiplyAdd : Obligations.FusedMultiplyAdd := by
  intro F c negp negz x0 y0 z0 x y z op de infZero sp sz r
  set sum := exactSum sp (mant x * mant y) (expo x + expo y) sz (mant z) (expo z) with hsum
  set zeroSign := if (isZero x = true ∨ isZero y = true) ∧ isZero z = true ∧ sp = sz then sp else decide (c.rc = 1) with hzero
  have model : op = if isNaN x || isNaN y || isNaN z then
        (match [x, y, z].filter isNaN with | [v] => quiet v | _ => fmaNaN F c negp negz x y z,
          flagIf (isSNaN x || isSNaN y || isSNaN z || infZero) flIE)
      else if infZero then (indef F, flIE)
      else if isInf x || isInf y then if isInf z && sp != sz then (indef F, flIE) else (infOf F sp, de)
      else if isInf z then (infOf F sz, de)
      else if sum.1 = 0 then (zeroOf F zeroSign, de) else addFlags (roundSum F c sum) de := by
    have sign : (if (isZero x || isZero y) && isZero z && sp == sz then sp else c.rc == 1) = zeroSign := by
      simp only [Bool.and_eq_true, Bool.or_eq_true, beq_iff_eq, and_assoc, hzero]
      rfl
    rw [← sign]
    rfl
  rw [model]
  refine ⟨fun h => ?_, fun hx hy hz => ?_⟩
  · rw [if_pos (by simpa [or_assoc] using h)]
    exact ⟨ffma_nan_result c negp negz h, rfl⟩
  simp only [hx, hy, hz, Bool.or_self, Bool.false_eq_true, if_false]
  refine ⟨fun h => if_pos h, fun h => ?_⟩
  rw [if_neg (by simp [h])]
  refine ⟨fun inf => ?_, fun h1 h2 h3 => ?_, fun h1 h2 h3 => ?_⟩
  · rw [if_pos (by simpa using inf)]
    simp
  · simp [h1, h2, h3]
  · simp only [h1, h2, h3, Bool.or_self, Bool.false_eq_true, if_false]
    exact sum_result F c zeroSign de (fma_sum_val negp negz x y z)

end Sys2Proof.Machine

/-! The approximations (05_numerics.md R586): what the model's integer tests allow, and that the value it falls back on is
within the bound. -/

namespace Sys2Proof.Machine

/-! ### The tests in integers -/

theorem pow2Frac_val (e : Int) : 0 < (pow2Frac e).2 ∧ ((pow2Frac e).1 : ℝ) / (pow2Frac e).2 = 2 ^ e := by
  rw [pow2Frac]
  split
  next h =>
    obtain ⟨k, rfl⟩ := Int.eq_ofNat_of_zero_le h
    simp
  next h =>
    obtain ⟨k, rfl⟩ : ∃ k : Nat, e = -k := ⟨(-e).toNat, by omega⟩
    simp

theorem withinBound_spec {p q : Nat} (hq : 0 < q) (h : withinBound p q = true) : |(p : ℝ) / q - 1| ≤ 3 / 2 ^ 13 := by
  have hq' : (0 : ℝ) < q := by exact_mod_cast hq
  have bound : 8192 * ((p - q) + (q - p)) ≤ 3 * q := by simpa [withinBound] using h
  have lo : 8189 * (q : ℝ) ≤ 8192 * p := by exact_mod_cast (by omega : 8189 * q ≤ 8192 * p)
  have hi : 8192 * (p : ℝ) ≤ 8195 * q := by exact_mod_cast (by omega : 8192 * p ≤ 8195 * q)
  rw [abs_le]
  constructor
  · rw [neg_le_sub_iff_le_add, ← sub_le_iff_le_add, le_div_iff₀ hq']
    linarith
  · rw [sub_le_iff_le_add, div_le_iff₀ hq']
    linarith

theorem isNormal_or_isZero_of_rcpAllowed {a r : BitVec Fmt.f32.width} (ha : isNormal a = true) (h : rcpAllowed a r = true) :
    signOf r = signOf a ∧ ((isNormal r = true ∧ |value r * value a - 1| ≤ 3 / 2 ^ 13) ∨
      (isZero r = true ∧ (1 - 3 / 2 ^ 13) / |value a| < 2 ^ (-126 : Int))) := by
  simp only [rcpAllowed, Bool.and_eq_true, Bool.or_eq_true, beq_iff_eq, decide_eq_true_eq] at h
  obtain ⟨sign, ⟨normal, within⟩ | ⟨zero, small⟩⟩ := h
  · obtain ⟨den, pow⟩ := pow2Frac_val (expo a + expo r)
    have product : ((mant a * mant r * (pow2Frac (expo a + expo r)).1 : Nat) : ℝ) / (pow2Frac (expo a + expo r)).2 =
        value r * value a := by
      rw [value_eq, value_eq, ← sign, mul_mul_mul_comm, signFactor_mul_self, one_mul, Nat.cast_mul, mul_div_assoc, pow,
        zpow_add₀ two_ne_zero]
      push_cast
      ring
    exact ⟨sign.symm, .inl ⟨normal, product ▸ withinBound_spec den within⟩⟩
  · obtain ⟨den, pow⟩ := pow2Frac_val (expo a - 126)
    obtain ⟨-, -, nonzero, -⟩ := of_isNormal ha
    have mag : 0 < |value a| := abs_pos.mpr (mt value_eq_zero_iff.mp (by simp [nonzero]))
    have den' : (0 : ℝ) < (pow2Frac (expo a - 126)).2 := by exact_mod_cast den
    have scaled : (8189 : ℝ) < 8192 * (mant a * 2 ^ (expo a - 126)) := by
      rw [← pow, ← mul_div_assoc, ← mul_div_assoc, lt_div_iff₀ den']
      exact_mod_cast small
    refine ⟨sign.symm, .inr ⟨zero, ?_⟩⟩
    rw [div_lt_iff₀ mag, abs_value, magOf_val, mul_left_comm, ← zpow_add₀ two_ne_zero, add_comm, ← sub_eq_add_neg]
    linarith

/-- The square test is the bound: both sides are squares of non-negative numbers. -/
theorem bound_of_rsqrtAllowed {a r : BitVec Fmt.f32.width} (sa : signOf a = false) (h : rsqrtAllowed a r = true) :
    isNormal r = true ∧ signOf r = false ∧ |value r * Real.sqrt (value a) - 1| ≤ 3 / 2 ^ 13 := by
  simp only [rsqrtAllowed, Bool.and_eq_true, Bool.not_eq_true', decide_eq_true_eq] at h
  obtain ⟨⟨⟨normal, sign⟩, lo⟩, hi⟩ := h
  obtain ⟨den, pow⟩ := pow2Frac_val (expo a + 2 * expo r)
  have den' : (0 : ℝ) < (pow2Frac (expo a + 2 * expo r)).2 := by exact_mod_cast den
  have valA : value a = mant a * 2 ^ expo a := by rw [value_eq, sa, signFactor_false, one_mul]
  have valR : value r = mant r * 2 ^ expo r := by rw [value_eq, sign, signFactor_false, one_mul]
  have square : (value r * Real.sqrt (value a)) ^ 2 =
      (mant r * mant r * mant a * (pow2Frac (expo a + 2 * expo r)).1 : Nat) / (pow2Frac (expo a + 2 * expo r)).2 := by
    rw [mul_pow, Real.sq_sqrt (valA ▸ by positivity), valA, valR, Nat.cast_mul, mul_div_assoc, pow, zpow_add₀ two_ne_zero,
      two_mul, zpow_add₀ two_ne_zero]
    push_cast
    ring
  have nonneg : 0 ≤ value r * Real.sqrt (value a) := mul_nonneg (valR ▸ by positivity) (Real.sqrt_nonneg _)
  have lower : (1 - 3 / 2 ^ 13 : ℝ) ≤ value r * Real.sqrt (value a) := by
    refine (pow_le_pow_iff_left₀ (by norm_num) nonneg two_ne_zero).mp ?_
    rw [square, le_div_iff₀ den']
    have lo' : (((8192 - 3) ^ 2 * (pow2Frac (expo a + 2 * expo r)).2 : Nat) : ℝ) ≤
        (8192 ^ 2 * (mant r * mant r * mant a * (pow2Frac (expo a + 2 * expo r)).1) : Nat) := Nat.cast_le.mpr lo
    rw [Nat.cast_mul, Nat.cast_mul] at lo'
    norm_num at lo' ⊢
    linarith
  have upper : value r * Real.sqrt (value a) ≤ 1 + 3 / 2 ^ 13 := by
    refine (pow_le_pow_iff_left₀ nonneg (by norm_num) two_ne_zero).mp ?_
    rw [square, div_le_iff₀ den']
    have hi' : ((8192 ^ 2 * (mant r * mant r * mant a * (pow2Frac (expo a + 2 * expo r)).1) : Nat) : ℝ) ≤
        ((8192 + 3) ^ 2 * (pow2Frac (expo a + 2 * expo r)).2 : Nat) := Nat.cast_le.mpr hi
    rw [Nat.cast_mul, Nat.cast_mul] at hi'
    norm_num at hi' ⊢
    linarith
  exact ⟨normal, sign, abs_le.mpr ⟨by linarith, by linarith⟩⟩

/-! ### The value fallen back on -/

/-- To nearest, with tiny results flushed: a normal number within a relative error of `2 ^ -24`, or a zero for a number below
the smallest normal one. -/
theorem round_nearestFz (s : Bool) {m : ℝ} (hm : 0 < m) (hi : m < 2 ^ (127 : Int)) :
    signOf (exactRound .f32 nearestFz s m).1 = s ∧
    ((isNormal (exactRound .f32 nearestFz s m).1 = true ∧
        ∃ v, value (exactRound .f32 nearestFz s m).1 = signFactor s * v ∧ |v - m| ≤ m / 2 ^ 24) ∨
      (isZero (exactRound .f32 nearestFz s m).1 = true ∧ m < 2 ^ (-126 : Int))) := by
  have logLt : Int.log 2 m < 127 := (Int.lt_zpow_iff_log_lt (by norm_num) hm).mp (by exact_mod_cast hi)
  have expBounds : Int.log 2 m ≤ roundedExp .f32 nearestFz s m ∧ roundedExp .f32 nearestFz s m ≤ Int.log 2 m + 1 := by
    rw [roundedExp]; split <;> omega
  have noOverflow : roundedExp .f32 nearestFz s m ≤ (Fmt.bias .f32 : Int) := by
    simp only [Fmt.bias]; omega
  rcases lt_or_ge (roundedExp .f32 nearestFz s m) (Fmt.emin .f32) with tiny | normal
  · have flushed : (exactRound .f32 nearestFz s m).1 = zeroOf .f32 s := by
      rw [exactRound_eq, if_neg noOverflow.not_gt, if_pos tiny]; rfl
    rw [flushed, signOf_zeroOf]
    refine ⟨rfl, .inr ⟨by simp [isZero], ?_⟩⟩
    have below := Int.lt_zpow_succ_log_self (b := 2) (by norm_num) m
    push_cast at below
    refine below.trans_le (zpow_le_zpow_right₀ one_le_two ?_)
    simp only [Fmt.emin, Fmt.bias] at tiny
    omega
  · obtain ⟨isNorm, sign, val, -⟩ := exactRound_normal .f32 nearestFz s hm normal noOverflow
    refine ⟨sign, .inl ⟨isNorm, _, val, ?_⟩⟩
    have near := abs_exactRint_nearest_sub_le (m / 2 ^ (Int.log 2 m - (Fmt.frac .f32 : Int))) s
    have lo := (significand_bounds .f32 hm).1
    have unit : (0 : ℝ) < 2 ^ (Int.log 2 m - (Fmt.frac .f32 : Int)) := by positivity
    change |((exactRint (m / 2 ^ (Int.log 2 m - (Fmt.frac .f32 : Int))) s 0).1 : ℝ) * _ - m| ≤ _
    generalize (2 : ℝ) ^ (Int.log 2 m - (Fmt.frac .f32 : Int)) = u at *
    generalize ((exactRint (m / u) s 0).1 : ℝ) = n at *
    have large : 2 ^ 23 * u ≤ m := (le_div_iff₀ unit).mp lo
    calc |n * u - m| = |n - m / u| * u := by
          rw [← abs_of_pos unit, ← abs_mul, abs_of_pos unit, sub_mul, div_mul_cancel₀ _ unit.ne']
      _ ≤ 1 / 2 * u := by gcongr
      _ ≤ m / 2 ^ 24 := by linarith

/-- A relative error of `2 ^ -24` in a factor of a product close to one. -/
theorem product_near_one {v m M : ℝ} (hM : 0 ≤ M) (near : |v - m| ≤ m / 2 ^ 24) (lo : 1 - 1 / 2 ^ 24 ≤ m * M) (hi : m * M ≤ 1) :
    |v * M - 1| ≤ 3 / 2 ^ 13 := by
  have error : |v * M - m * M| ≤ 1 / 2 ^ 24 := calc
    |v * M - m * M| = |v - m| * M := by rw [← sub_mul, abs_mul, abs_of_nonneg hM]
    _ ≤ m / 2 ^ 24 * M := by gcongr
    _ ≤ 1 / 2 ^ 24 := by linarith
  rw [abs_le] at error ⊢
  constructor <;> linarith

/-- The smallest normal number is a lower bound of every normal magnitude. -/
theorem normal_magnitude_ge {a : BitVec Fmt.f32.width} (ha : isNormal a = true) : (2 : ℝ) ^ (-126 : Int) ≤ |value a| := by
  obtain ⟨nan, inf, -⟩ := of_isNormal ha
  calc (2 : ℝ) ^ (-126 : Int) = 2 ^ Fmt.frac .f32 * 2 ^ (Fmt.emin .f32 - (Fmt.frac .f32 : Int)) := by
        rw [← zpow_natCast, ← zpow_add₀ two_ne_zero]; rfl
    _ ≤ mant a * 2 ^ expo a := by gcongr; exacts [by exact_mod_cast mant_ge_of_isNormal ha, one_le_two, (expo_bounds nan inf).1]
    _ = |value a| := by rw [abs_value, magOf_val]

/-- The correctly rounded reciprocal is within the bound. -/
theorem reciprocal_fallback {a : BitVec Fmt.f32.width} (ha : isNormal a = true) :
    let r := (roundPack .f32 nearestFz (signOf a) ⟨1, mant a, -expo a⟩).1
    signOf r = signOf a ∧ ((isNormal r = true ∧ |value r * value a - 1| ≤ 3 / 2 ^ 13) ∨
      (isZero r = true ∧ (1 - 3 / 2 ^ 13) / |value a| < 2 ^ (-126 : Int))) := by
  intro r
  obtain ⟨-, -, nonzero, -⟩ := of_isNormal ha
  have sigPos := mant_pos_iff.mpr nonzero
  have low := normal_magnitude_ge ha
  set M := |value a| with hM
  have val : value a = signFactor (signOf a) * M := by rw [hM, abs_value, magOf_val, value_eq]
  have mag : 0 < M := lt_of_lt_of_le (by positivity) low
  have model : r = (exactRound .f32 nearestFz (signOf a) (1 / M)).1 := by
    have inverse : (⟨1, mant a, -expo a⟩ : Mag).val = 1 / M := by
      rw [hM, abs_value, magOf_val, Mag.val, zpow_neg]
      push_cast
      field_simp
    rw [← inverse, ← roundPack_eq_exactRound .f32 nearestFz _ one_pos sigPos]
  have high : 1 / M < 2 ^ (127 : Int) := calc
    1 / M ≤ 1 / 2 ^ (-126 : Int) := by gcongr
    _ < 2 ^ (127 : Int) := by norm_num
  obtain ⟨sign, result⟩ := round_nearestFz (signOf a) (one_div_pos.mpr mag) high
  rw [← model] at sign result
  refine ⟨sign, result.imp ?_ ?_⟩
  · rintro ⟨normal, v, valR, near⟩
    have one : 1 / M * M = 1 := one_div_mul_cancel mag.ne'
    rw [valR, val, mul_mul_mul_comm, signFactor_mul_self, one_mul]
    exact ⟨normal, product_near_one mag.le near (by rw [one]; norm_num) one.le⟩
  · rintro ⟨zero, tiny⟩
    exact ⟨zero, lt_of_le_of_lt (by gcongr; norm_num) tiny⟩

/-- The integer root in `rsqrtMag`, for a significand doubled where the exponent is odd. -/
theorem rsqrt_root_bounds {n : Nat} (lo : 2 ^ 23 ≤ n) (hi : n < 2 ^ 25) :
    2 ^ 67 ≤ Nat.sqrt (2 ^ 160 / n) ∧ Nat.sqrt (2 ^ 160 / n) < 2 ^ 80 ∧
    Nat.sqrt (2 ^ 160 / n) * Nat.sqrt (2 ^ 160 / n) * n ≤ 2 ^ 160 ∧
    2 ^ 160 < (Nat.sqrt (2 ^ 160 / n) + 1) * (Nat.sqrt (2 ^ 160 / n) + 1) * n := by
  have pos : 0 < n := lt_of_lt_of_le (by positivity) lo
  refine ⟨?_, ?_, ?_, ?_⟩
  · rw [Nat.le_sqrt, Nat.le_div_iff_mul_le pos]
    omega
  · rw [Nat.sqrt_lt, Nat.div_lt_iff_lt_mul pos]
    omega
  · rw [← Nat.le_div_iff_mul_le pos]
    exact Nat.sqrt_le _
  · rw [← Nat.div_lt_iff_lt_mul pos]
    exact Nat.lt_succ_sqrt _

/-- The product with the exact root of the operand lies just below one: its square is `root ^ 2 * n / 2 ^ 160`. -/
theorem root_product_near_one {root n : Nat} (large : 2 ^ 67 ≤ root) (le : root * root * n ≤ 2 ^ 160)
    (lt : 2 ^ 160 < (root + 1) * (root + 1) * n) {t : ℝ} (ht : 0 ≤ t) (square : t ^ 2 = root * root * n / 2 ^ 160) :
    1 - 1 / 2 ^ 24 ≤ t ∧ t ≤ 1 := by
  have le' : (root * root * n : ℝ) ≤ 2 ^ 160 := by exact_mod_cast le
  have lt' : (2 : ℝ) ^ 160 < (root + 1) * (root + 1) * n := by exact_mod_cast lt
  have large' : (2 : ℝ) ^ 67 ≤ root := by exact_mod_cast large
  have root0 : (0 : ℝ) ≤ root := by positivity
  constructor
  · have next : (root : ℝ) ≤ t * (root + 1) := by
      refine (pow_le_pow_iff_left₀ root0 (by positivity) two_ne_zero).mp ?_
      have ratio : 1 ≤ ((root : ℝ) + 1) * (root + 1) * n / 2 ^ 160 := (one_le_div (by positivity)).mpr lt'.le
      calc (root : ℝ) ^ 2 ≤ (root : ℝ) ^ 2 * (((root : ℝ) + 1) * (root + 1) * n / 2 ^ 160) :=
            le_mul_of_one_le_right (sq_nonneg _) ratio
        _ = (t * (root + 1)) ^ 2 := by rw [mul_pow, square]; ring
    nlinarith
  · refine (pow_le_pow_iff_left₀ ht one_pos.le two_ne_zero).mp ?_
    rw [square, one_pow, div_le_one (by positivity)]
    exact le'

/-- The square of the product of `rsqrtMag` and the root of its operand. -/
theorem rsqrtMag_square (n root : Nat) (e : Int) :
    ((root : ℝ) * 2 ^ (-((e - e % 2) / 2) - 80) * Real.sqrt (n * 2 ^ e)) ^ 2 =
      root * root * (n * 2 ^ (e % 2).toNat : Nat) / 2 ^ 160 := by
  have exponent : (2 : ℝ) ^ (-((e - e % 2) / 2) - 80) * 2 ^ (-((e - e % 2) / 2) - 80) * 2 ^ e =
      2 ^ (e % 2).toNat / 2 ^ 160 := by
    rw [← zpow_add₀ two_ne_zero, ← zpow_add₀ two_ne_zero, ← zpow_natCast, ← zpow_natCast, ← zpow_sub₀ two_ne_zero]
    congr 1
    push_cast
    omega
  rw [mul_pow, Real.sq_sqrt (by positivity), mul_pow]
  calc _ = (root * root * n : ℝ) * ((2 : ℝ) ^ (-((e - e % 2) / 2) - 80) * 2 ^ (-((e - e % 2) / 2) - 80) * 2 ^ e) := by ring
    _ = _ := by rw [exponent]; push_cast; ring

/-- The rounded value near the reciprocal root is within the bound. -/
theorem rsqrt_fallback {a : BitVec Fmt.f32.width} (ha : isNormal a = true) (sa : signOf a = false) :
    let r := (roundPack .f32 nearestFz false (rsqrtMag (mant a) (expo a))).1
    isNormal r = true ∧ signOf r = false ∧ |value r * Real.sqrt (value a) - 1| ≤ 3 / 2 ^ 13 := by
  intro r
  obtain ⟨nan, inf, -⟩ := of_isNormal ha
  obtain ⟨expLo, expHi⟩ := expo_bounds nan inf
  have sigLo : 2 ^ 23 ≤ mant a := mant_ge_of_isNormal ha
  have sigHi : mant a < 2 ^ 24 := mant_lt a
  simp only [Fmt.frac, Fmt.emin, Fmt.bias] at expLo expHi
  have valA : value a = mant a * 2 ^ expo a := by rw [value_eq, sa, signFactor_false, one_mul]
  have operand : 2 ^ 23 ≤ mant a * 2 ^ (expo a % 2).toNat ∧ mant a * 2 ^ (expo a % 2).toNat < 2 ^ 25 := by
    rcases Int.emod_two_eq_zero_or_one (expo a) with h | h <;> rw [h] <;> simp only [Int.toNat_zero, Int.toNat_one] <;> omega
  obtain ⟨large, small, le, lt⟩ := rsqrt_root_bounds operand.1 operand.2
  have mag : rsqrtMag (mant a) (expo a) = ⟨Nat.sqrt (2 ^ 160 / (mant a * 2 ^ (expo a % 2).toNat)), 1,
      -((expo a - expo a % 2) / 2) - 80⟩ := by rw [rsqrtMag, isqrt_eq_sqrt]
  generalize Nat.sqrt (2 ^ 160 / (mant a * 2 ^ (expo a % 2).toNat)) = root at *
  have rootPos : 0 < root := lt_of_lt_of_le (by positivity) large
  set m : ℝ := root * 2 ^ (-((expo a - expo a % 2) / 2) - 80) with hm
  have model : r = (exactRound .f32 nearestFz false m).1 := by
    simp only [r, mag]
    rw [roundPack_eq_exactRound .f32 nearestFz false rootPos one_pos, Mag.val, Nat.cast_one, div_one, ← hm]
  have low : (2 : ℝ) ^ (-126 : Int) ≤ m := calc
    (2 : ℝ) ^ (-126 : Int) ≤ 2 ^ (67 : Int) * 2 ^ (-((expo a - expo a % 2) / 2) - 80) := by
      rw [← zpow_add₀ two_ne_zero]; exact zpow_le_zpow_right₀ one_le_two (by omega)
    _ ≤ m := by rw [hm]; gcongr; exact_mod_cast large
  have high : m < 2 ^ (127 : Int) := calc
    m < 2 ^ (80 : Int) * 2 ^ (-((expo a - expo a % 2) / 2) - 80) := by rw [hm]; gcongr; exact_mod_cast small
    _ ≤ 2 ^ (127 : Int) := by rw [← zpow_add₀ two_ne_zero]; exact zpow_le_zpow_right₀ one_le_two (by omega)
  have root0 := Real.sqrt_nonneg (value a)
  have pos : 0 < m := lt_of_lt_of_le (by positivity) low
  obtain ⟨sign, ⟨normal, v, valR, near⟩ | ⟨-, tiny⟩⟩ := round_nearestFz false pos high
  · rw [← model] at sign normal valR
    have square : (m * Real.sqrt (value a)) ^ 2 = _ := valA ▸ rsqrtMag_square (mant a) root (expo a)
    obtain ⟨lo, hi⟩ := root_product_near_one large le lt (mul_nonneg pos.le root0) square
    rw [valR, signFactor_false, one_mul]
    exact ⟨normal, sign, product_near_one root0 near lo hi⟩
  · exact absurd tiny low.not_gt

/-- Settles O31: a drawn value passed the integer test, and the value fallen back on is within the bound. -/
theorem reciprocalApproximations : Obligations.ReciprocalApproximations := by
  refine ⟨fun a => ?_, fun a => ?_⟩
  · intro r
    have model : r = if isNaN a then quiet a else if isZero a || isDenormal a then infOf .f32 (signOf a)
        else if isInf a then zeroOf .f32 (signOf a)
        else if rcpAllowed a (Config.rcpDraw a) then Config.rcpDraw a
        else (roundPack .f32 nearestFz (signOf a) ⟨1, mant a, -expo a⟩).1 := rfl
    rw [model]
    refine ⟨fun h => if_pos h, ?_, fun h => ?_, fun h => ?_⟩
    · rintro (h | h)
      · simp [isNaN_of_isZero h, h]
      · simp [isNaN_of_isDenormal h, h]
    · simp [isNaN_of_isInf h, isZero_of_isInf h, isDenormal_of_isInf h, h]
    · obtain ⟨nan, inf, zero, denormal⟩ := of_isNormal h
      simp only [nan, inf, zero, denormal, Bool.or_self, Bool.false_eq_true, if_false]
      split
      next allowed => exact isNormal_or_isZero_of_rcpAllowed h allowed
      next => exact reciprocal_fallback h
  · intro r
    have model : r = if isNaN a then quiet a else if isZero a || isDenormal a then infOf .f32 (signOf a)
        else if signOf a then indef .f32 else if isInf a then zeroOf .f32 false
        else if rsqrtAllowed a (Config.rsqrtDraw a) then Config.rsqrtDraw a
        else (roundPack .f32 nearestFz false (rsqrtMag (mant a) (expo a))).1 := rfl
    rw [model]
    refine ⟨fun h => if_pos h, ?_, fun h s => ?_, ?_, fun h s => ?_⟩
    · rintro (h | h)
      · simp [isNaN_of_isZero h, h]
      · simp [isNaN_of_isDenormal h, h]
    · simp [isNaN_of_isInf h, isZero_of_isInf h, isDenormal_of_isInf h, h, s]
    · rintro (h | h) s
      · simp [isNaN_of_isInf h, isZero_of_isInf h, isDenormal_of_isInf h, s]
      · obtain ⟨nan, -, zero, denormal⟩ := of_isNormal h
        simp [nan, zero, denormal, s]
    · obtain ⟨nan, inf, zero, denormal⟩ := of_isNormal h
      simp only [nan, inf, zero, denormal, s, Bool.or_self, Bool.false_eq_true, if_false]
      split
      next allowed => exact bound_of_rsqrtAllowed s allowed
      next => exact rsqrt_fallback h s

end Sys2Proof.Machine

/-! What the decoder answers: the row and the operand fields it chose fit the mode (30_encoding.md R118 to R122, R131), and
the bytes it took (R127). -/

namespace Sys2Proof

/-! ### What a row makes of its operand fields -/

/-- The operand encoding has an operand in ModRM.reg (30_encoding.md R119). -/
def OpEnc.usesReg : OpEnc → Bool
  | .vmi | .m | .none => false
  | .rm | .mr | .rmi | .mri | .rvm | .rvmi | .mvr | .rvmr | .rvrm | .rvmr5 | .rvrm5 | .legRm | .legRmi => true

/-- The operand encoding has the fifth operand, in the trailing byte (30_encoding.md R124). -/
def OpEnc.usesFifth : OpEnc → Bool
  | .rvmr5 | .rvrm5 => true
  | .rm | .mr | .rmi | .mri | .rvm | .rvmi | .mvr | .vmi | .rvmr | .rvrm | .m | .none | .legRm | .legRmi => false

/-- The ModRM.rm operand as a row of this kind reads it. -/
def ModReq.restrict (q : ModReq) (b : RegMem) : RegMem :=
  match q with
  | .any => b
  | .regOnly => .reg b.theReg
  | .memOnly => .mem b.theMem

/-- The operand fields that a row has a place for, the others 0 (30_encoding.md R119). -/
def Row.kept (q : Row) (o : Operands) : Operands :=
  { reg := if q.enc.usesReg then o.reg else 0
    v := if q.enc.usesV then o.v else 0
    rm := if q.enc = .none then .reg 0 else q.mod.restrict o.rm
    is4 := if q.imm = .is4 then o.is4 else 0
    imm :=
      match q.imm with
      | .none => 0
      | .ib => o.imm
      | .is4 => if q.enc.usesFifth then (o.imm.setWidth 2).setWidth 8 else 0
    wide := q.wide }

/-- An instruction made from a row is of that row. -/
theorem form_build (f : Form) (o : Operands) : (f.build o).form = f := by cases f <;> rfl

/-- An instruction made from a row has the operand fields that the row has a place for. -/
theorem operands_build (f : Form) (o : Operands) : (f.build o).operands = f.row.kept o := by cases f <;> rfl

/-- No legacy row waits for `EncFMA4` (30_encoding.md R131). -/
theorem not_gated_of_legacy {f : Form} (h : f.row.len = .leg) : f.row.gated = false := by
  revert h; cases f <;> decide

/-! ### Registers -/

theorem names_ofBits {m : Mode} {b : BitVec 4} (h : m = .mode32 → b.getLsbD 3 = false) :
    m.names (Reg.ofBits b) = true := by
  revert b; cases m <;> decide

theorem names_reg4 {m : Mode} {hi : Bool} (lo : BitVec 3) (h : m = .mode32 → hi = false) :
    m.names (reg4 hi lo) = true :=
  names_ofBits fun mode => by revert lo; rw [h mode]; decide

theorem reg4_mod (hi : Bool) (lo : BitVec 3) : (reg4 hi lo).val % 8 = lo.toNat := by
  revert hi lo; decide

/-- Field 4 of a SIB byte says that there is no index (30_encoding.md R122). -/
theorem indexWf_of_names {m : Mode} {i : Reg} (h : m.names i = true) :
    indexWf m (if i = 4 then none else some i) = true := by
  split
  next => rfl
  next ne => simp [indexWf, h, ne]

theorem names_zero (m : Mode) : m.names 0 = true := by cases m <;> rfl

/-! ### ModRM, SIB and displacement -/

theorem of_parseDisp32 {bs rest : List Byte} {d : BitVec 32} (h : parseDisp32 bs = some (d, rest)) :
    bs.length = rest.length + 4 := by
  unfold parseDisp32 at h
  split at h
  next => cases h; rfl
  next => cases h

/-- A displacement takes up to four bytes, none only where `mod` is 0. -/
theorem of_parseDisp {mod : BitVec 2} {bs rest : List Byte} {d : Disp} (h : parseDisp mod bs = some (d, rest)) :
    (d.absent = true → mod = 0) ∧ rest.length ≤ bs.length ∧ bs.length ≤ rest.length + 4 := by
  unfold parseDisp at h
  split at h
  next zero => cases h; exact ⟨fun _ => zero, by simp⟩
  next =>
    split at h
    next =>
      split at h
      next => cases h; exact ⟨nofun, by simp⟩
      next => cases h
    next =>
      split at h
      next d t eq => cases h; have := of_parseDisp32 eq; exact ⟨nofun, by omega⟩
      next => cases h

/-- A base register whose low bits are 5 takes a displacement, since without one they say something else (30_encoding.md
R121, R122). -/
theorem displacement_or_not_five {mod : BitVec 2} {lo : BitVec 3} {d : Disp} (hi : Bool) (absent : d.absent = true → mod = 0)
    (other : ¬ (mod = 0 ∧ lo = 5)) : (!d.absent || (reg4 hi lo).val % 8 != 5) = true := by
  rw [reg4_mod]
  cases none : d.absent
  · rfl
  · have ne : lo ≠ 5 := fun five => other ⟨absent none, five⟩
    simpa using fun eq => ne (BitVec.eq_of_toNat_eq eq)

section
variable {m : Mode} {x b : Bool} {bs rest : List Byte}

theorem of_parseSib {mod : BitVec 2} {a : MemOp} (hx : m = .mode32 → x = false) (hb : m = .mode32 → b = false)
    (h : parseSib mod x b bs = some (a, rest)) :
    a.wf m = true ∧ rest.length ≤ bs.length ∧ bs.length ≤ rest.length + 5 := by
  cases bs with
  | nil => cases h
  | cons c t =>
    simp only [parseSib] at h
    have index := indexWf_of_names (names_reg4 (c.extractLsb' 3 3) hx)
    split at h
    next =>
      split at h
      next d u eq =>
        cases h
        have := of_parseDisp32 eq
        exact ⟨index, by simp only [List.length_cons]; omega⟩
      next => cases h
    next other =>
      split at h
      next d u eq =>
        cases h
        obtain ⟨absent, short, long⟩ := of_parseDisp eq
        refine ⟨?_, by simp only [List.length_cons]; omega⟩
        simp only [MemOp.wf, names_reg4 _ hb, index, displacement_or_not_five b absent other, Bool.and_self]
      next => cases h

theorem of_parseMem {mod : BitVec 2} {rm : BitVec 3} {a : MemOp} (hx : m = .mode32 → x = false)
    (hb : m = .mode32 → b = false) (h : parseMem m mod rm x b bs = some (a, rest)) :
    a.wf m = true ∧ rest.length ≤ bs.length ∧ bs.length ≤ rest.length + 5 := by
  unfold parseMem at h
  split at h
  next => exact of_parseSib hx hb h
  next noSib =>
    split at h
    next =>
      split at h
      next d t eq =>
        have := of_parseDisp32 eq
        cases m <;> cases h <;> exact ⟨rfl, by omega⟩
      next => cases h
    next other =>
      split at h
      next d t eq =>
        cases h
        obtain ⟨absent, short, long⟩ := of_parseDisp eq
        have notFour : ((reg4 b rm).val % 8 != 4) = true := by
          rw [reg4_mod]
          simpa using fun eq => noSib (BitVec.eq_of_toNat_eq eq)
        refine ⟨?_, by omega⟩
        simp only [MemOp.wf, names_reg4 _ hb, notFour, displacement_or_not_five b absent other, Bool.and_self]
      next => cases h

theorem of_parseModRM {reg : BitVec 3} {rm : RegMem} (hx : m = .mode32 → x = false) (hb : m = .mode32 → b = false)
    (h : parseModRM m x b bs = some (reg, rm, rest)) :
    rm.wf m = true ∧ rest.length + 1 ≤ bs.length ∧ bs.length ≤ rest.length + 6 := by
  cases bs with
  | nil => cases h
  | cons c t =>
    simp only [parseModRM] at h
    split at h
    next => cases h; exact ⟨names_reg4 _ hb, by simp⟩
    next =>
      split at h
      next a u eq =>
        cases h
        obtain ⟨wf, short, long⟩ := of_parseMem hx hb eq
        exact ⟨wf, by simp only [List.length_cons]; omega⟩
      next => cases h

end

theorem of_parseImm {q : ImmReq} {bs rest : List Byte} {imm : Byte} (h : parseImm q bs = some (imm, rest)) :
    rest.length ≤ bs.length ∧ bs.length ≤ rest.length + 1 := by
  unfold parseImm at h
  split at h
  next => cases h; simp
  all_goals
    split at h
    next => cases h; simp
    next => cases h

/-! ### The chosen row -/

theorem of_select {cs : List Form} {l w isReg : Bool} {reg : BitVec 3} {f : Form} (h : select cs l w isReg reg = some f) :
    f ∈ cs ∧ f.row.mod.accepts isReg = true := by
  have fits := List.find?_some h
  simp only [Bool.and_eq_true] at fits
  obtain ⟨⟨-, kind⟩, -⟩ := fits
  exact ⟨List.mem_of_find?_eq_some h, kind⟩

/-- The candidates for legacy bytes are legacy rows. -/
theorem legacy_of_mem_candidates {p : Prefix} {op : Byte} {f : Form} (h : f ∈ candidates p op) (legacy : p.legacy = true) :
    f.row.len = .leg := by
  simp only [candidates, opcodeRows, List.mem_filter, Bool.and_eq_true, legacy, beq_true] at h
  obtain ⟨⟨-, -, leg⟩, -⟩ := h
  exact beq_iff_eq.mp leg

/-- In Mode32 the bits before the opcode make no register number above 7 (30_encoding.md R118). -/
structure Prefix.Fits (m : Mode) (p : Prefix) : Prop where
  r : m = .mode32 → p.r = false
  x : m = .mode32 → p.x = false
  b : m = .mode32 → p.b = false
  v : m = .mode32 → p.v.getLsbD 3 = false

/-- The row exists in the mode and the operand fields are those of an operand of it that the mode can encode. -/
structure Encoded.Fits (m : Mode) (e : Encoded) : Prop where
  reg : m.names e.fields.reg = true
  v : m.names e.fields.v = true
  rm : e.fields.rm.wf m = true
  is4 : e.form.row.imm = .is4 → m.names e.fields.is4 = true
  kind : e.form.row.mod.accepts e.fields.rm.isReg = true
  wide : e.form.row.wide = true → m = .mode64

section
variable (f : Form) (p : Prefix) (reg : BitVec 3) (rm : RegMem) (imm : Byte)

theorem fieldsOf_reg : (fieldsOf f p reg rm imm).reg = reg4 p.r reg := by unfold fieldsOf; split <;> rfl
theorem fieldsOf_v : (fieldsOf f p reg rm imm).v = Reg.ofBits p.v := by unfold fieldsOf; split <;> rfl
theorem fieldsOf_rm : (fieldsOf f p reg rm imm).rm = rm := by unfold fieldsOf; split <;> rfl
theorem fieldsOf_is4 (h : f.row.imm = .is4) :
    (fieldsOf f p reg rm imm).is4 = Reg.ofBits (imm.extractLsb' 4 4) := by simp only [fieldsOf, h]

end

theorem of_finishDecode {m : Mode} {f : Form} {p : Prefix} {reg : BitVec 3} {rm : RegMem} {imm : Byte} {n len : Nat}
    {e : Encoded} (fits : p.Fits m) (wf : rm.wf m = true) (kind : f.row.mod.accepts rm.isReg = true)
    (h : finishDecode m f p reg rm imm n = .ok e len) : e.form = f ∧ len = n ∧ e.Fits m := by
  unfold finishDecode at h
  split at h
  next => cases h
  next =>
    split at h
    next => cases h
    next narrow =>
      split at h
      next => cases h
      next low =>
        cases h
        refine ⟨rfl, rfl, ?reg, ?v, ?rm, ?is4, ?kind, ?wide⟩
        case reg => rw [fieldsOf_reg]; exact names_reg4 _ fits.r
        case v => rw [fieldsOf_v]; exact names_ofBits fits.v
        case rm => rwa [fieldsOf_rm]
        case is4 =>
          intro is4
          rw [fieldsOf_is4 f p reg rm imm is4]
          refine names_ofBits fun mode => ?_
          simpa [is4, mode] using low
        case kind => rwa [fieldsOf_rm]
        case wide =>
          intro wide
          cases m
          · simp [show f.row.wide = true from wide] at narrow
          · rfl

theorem misfit_ne_ok {cs : List Form} {l w : Bool} {reg : BitVec 3} {e : Encoded} {len : Nat} :
    misfit cs l w reg ≠ .ok e len := by
  simp only [misfit]
  repeat' split
  all_goals nofun

/-- What the decoder does from the opcode on where it answers an instruction: a candidate that the gate admits is chosen, its
operands are read, and up to seven bytes after the opcode are taken. -/
theorem of_decodeBody_cons {m : Mode} {gate : Bool} {p : Prefix} {total len : Nat} {op : Byte} {t : List Byte} {e : Encoded}
    (fits : p.Fits m) (h : decodeBody m gate p total (op :: t) = .ok e len) :
    ∃ (f : Form) (reg : BitVec 3) (rm : RegMem) (imm : Byte) (rest : List Byte), f ∈ candidates p op ∧
      f.row.mod.accepts rm.isReg = true ∧ rm.wf m = true ∧ (f.row.gated = true → gate = true) ∧ rest.length ≤ t.length ∧
      t.length ≤ rest.length + 7 ∧ finishDecode m f p reg rm imm (total - rest.length) = .ok e len := by
  simp only [decodeBody] at h
  split at h
  next => cases h
  split at h
  next => cases h
  split at h
  next => cases h
  next closed =>
    have admitted : ∀ f ∈ candidates p op, f.row.gated = true → gate = true := by
      intro f mem gated
      have any : (candidates p op).any (fun f => f.row.gated) = true := List.any_eq_true.mpr ⟨f, mem, gated⟩
      simpa [any] using closed
    split at h
    next =>
      split at h
      next => exact absurd h misfit_ne_ok
      next f chosen =>
        obtain ⟨mem, kind⟩ := of_select chosen
        exact ⟨f, 0, .reg 0, 0, t, mem, kind, names_zero m, admitted f mem, by omega, by omega, h⟩
    next =>
      split at h
      next => cases h
      next reg rm u modRM =>
        split at h
        next => exact absurd h misfit_ne_ok
        next f chosen =>
          split at h
          next => cases h
          next imm rest trailing =>
            obtain ⟨mem, kind⟩ := of_select chosen
            obtain ⟨wf, short, long⟩ := of_parseModRM fits.x fits.b modRM
            obtain ⟨short', long'⟩ := of_parseImm trailing
            exact ⟨f, reg, rm, imm, rest, mem, kind, wf, admitted f mem, by omega, by omega, h⟩

/-- From the opcode on: the chosen row fits the mode, the gate admits it, and one to eight bytes are taken. -/
theorem of_decodeBody {m : Mode} {gate : Bool} {p : Prefix} {total len : Nat} {body : List Byte} {e : Encoded}
    (fits : p.Fits m) (inside : body.length ≤ total) (h : decodeBody m gate p total body = .ok e len) :
    e.Fits m ∧ (e.form.row.gated = true → gate = true) ∧ (p.legacy = true → e.form.row.len = .leg) ∧
      total + 1 ≤ body.length + len ∧ body.length + len ≤ total + 8 ∧ len ≤ total := by
  cases body with
  | nil => cases h
  | cons op t =>
    obtain ⟨f, reg, rm, imm, rest, mem, kind, wf, admitted, short, long, fin⟩ := of_decodeBody_cons fits h
    obtain ⟨rfl, rfl, fit⟩ := of_finishDecode fits wf kind fin
    rw [List.length_cons] at inside ⊢
    exact ⟨fit, admitted, legacy_of_mem_candidates mem, by omega, by omega, by omega⟩

/-! ### Before the opcode -/

/-- A bit of a byte by the field that it lies in. -/
theorem getLsbD_of_field {c : Byte} {lo n k : Nat} {v : BitVec n} (h : c.extractLsb' lo n = v) (hk : k < n) :
    c.getLsbD (lo + k) = v.getLsbD k := by
  rw [← h]; simp [hk]

/-- Of `bs`, the bytes after the first, one to three more come before the opcode and fit the mode, and the answer is the one
from the opcode on. The legacy forms have no gate. -/
def FromOpcode (m : Mode) (fma4 : Bool) (total : Nat) (bs : List Byte) (e : Encoded) (len : Nat) : Prop :=
  ∃ gate p body, p.Fits m ∧ (p.legacy = true ∨ gate = fma4) ∧ body.length + 1 ≤ bs.length ∧ bs.length ≤ body.length + 3 ∧
    decodeBody m gate p total body = .ok e len

section
variable {m : Mode} {fma4 : Bool} {total len : Nat} {bs : List Byte} {e : Encoded}

theorem of_decodeVex2 (h : decodeVex2 m fma4 total bs = .ok e len) : FromOpcode m fma4 total bs e len := by
  cases bs with
  | nil => cases h
  | cons c t =>
    simp only [decodeVex2] at h
    split at h
    next => cases h
    next allowed =>
      have ones : m = .mode32 → c.extractLsb' 6 2 = 3 := fun mode => by simpa [mode] using allowed
      have bit6 : m = .mode32 → c.getLsbD 6 = true := fun mode => getLsbD_of_field (ones mode) (k := 0) (by decide)
      have bit7 : m = .mode32 → c.getLsbD 7 = true := fun mode => getLsbD_of_field (ones mode) (k := 1) (by decide)
      refine ⟨fma4, _, t, ⟨?_, fun _ => rfl, fun _ => rfl, ?_⟩, .inr rfl, by simp, by simp, h⟩
      · exact fun mode => by simp [bit7 mode]
      · exact fun mode => by simp [bit6 mode]

theorem of_decodeVex3 (h : decodeVex3 m fma4 total bs = .ok e len) : FromOpcode m fma4 total bs e len := by
  cases bs with
  | nil => cases h
  | cons c1 t =>
    simp only [decodeVex3] at h
    split at h
    next => cases h
    next allowed =>
      cases t with
      | nil => cases h
      | cons c2 u =>
        simp only at h
        split at h
        next => cases h
        next vTop =>
          split at h
          next => cases h
          next map _ =>
            have ones : m = .mode32 → c1.extractLsb' 5 3 = 7 := fun mode => by simpa [mode] using allowed
            have bit5 : m = .mode32 → c1.getLsbD 5 = true := fun mode => getLsbD_of_field (ones mode) (k := 0) (by decide)
            have bit6 : m = .mode32 → c1.getLsbD 6 = true := fun mode => getLsbD_of_field (ones mode) (k := 1) (by decide)
            have bit7 : m = .mode32 → c1.getLsbD 7 = true := fun mode => getLsbD_of_field (ones mode) (k := 2) (by decide)
            refine ⟨fma4, _, u, ⟨?_, ?_, ?_, ?_⟩, .inr rfl, by simp, by simp, h⟩
            · exact fun mode => by simp [bit7 mode]
            · exact fun mode => by simp [bit6 mode]
            · exact fun mode => by simp [bit5 mode]
            · exact fun mode => by simpa [mode] using vTop

theorem of_decodeLegacyOp {r x b : Bool} (hr : m = .mode32 → r = false) (hx : m = .mode32 → x = false)
    (hb : m = .mode32 → b = false) (h : decodeLegacyOp m r x b total bs = .ok e len) :
    ∃ p body, p.Fits m ∧ p.legacy = true ∧ bs.length = body.length + 2 ∧ decodeBody m true p total body = .ok e len := by
  unfold decodeLegacyOp at h
  split at h
  next => cases h
  next => split at h <;> cases h
  next c g t =>
    split at h
    next => cases h
    split at h
    next => exact ⟨_, t, ⟨hr, hx, hb, fun _ => by simp⟩, rfl, rfl, h⟩
    split at h
    next => exact ⟨_, t, ⟨hr, hx, hb, fun _ => by simp⟩, rfl, rfl, h⟩
    next => cases h

theorem of_decodeLegacy (h : decodeLegacy m total bs = .ok e len) : FromOpcode m fma4 total bs e len := by
  cases bs with
  | nil => cases h
  | cons c t =>
    simp only [decodeLegacy] at h
    split at h
    next => cases h
    next => cases h
    split at h
    next rex =>
      have mode64 : m ≠ .mode32 := by rintro rfl; exact absurd rex (by simp [isRex])
      split at h
      next => cases h
      next => cases h
      obtain ⟨p, body, fits, legacy, taken, answer⟩ :=
        of_decodeLegacyOp (absurd · mode64) (absurd · mode64) (absurd · mode64) h
      exact ⟨true, p, body, fits, .inl legacy, by simp only [List.length_cons]; omega,
        by simp only [List.length_cons]; omega, answer⟩
    next =>
      obtain ⟨p, body, fits, legacy, taken, answer⟩ :=
        of_decodeLegacyOp (fun _ => rfl) (fun _ => rfl) (fun _ => rfl) h
      exact ⟨true, p, body, fits, .inl legacy, by omega, by omega, answer⟩

theorem of_decodeFields (h : decodeFields m fma4 bs = .ok e len) :
    ∃ c t, bs = c :: t ∧ FromOpcode m fma4 bs.length t e len := by
  cases bs with
  | nil => cases h
  | cons c t =>
    refine ⟨c, t, rfl, ?_⟩
    simp only [decodeFields] at h
    split at h
    next => exact of_decodeVex2 h
    split at h
    next => exact of_decodeVex3 h
    split at h
    next => exact of_decodeLegacy h
    split at h
    next =>
      unfold beforeVex at h
      split at h <;> cases h
    next => cases h

/-- The row and the fields that the decoder answers fit the mode, the gate admits the row, and three to twelve bytes are
taken: two to four before the opcode, the opcode, and up to seven after it. -/
theorem fits_of_decodeFields (h : decodeFields m fma4 bs = .ok e len) :
    e.Fits m ∧ (e.form.row.gated = true → fma4 = true) ∧ 3 ≤ len ∧ len ≤ 12 ∧ len ≤ bs.length := by
  obtain ⟨c, t, rfl, gate, p, body, fits, gateCases, short, long, answer⟩ := of_decodeFields h
  rw [List.length_cons] at answer ⊢
  obtain ⟨fit, admitted, legacy, least, most, inside⟩ := of_decodeBody fits (by omega) answer
  refine ⟨fit, fun gated => ?_, by omega, by omega, inside⟩
  rcases gateCases with leg | rfl
  · simp [not_gated_of_legacy (legacy leg)] at gated
  · exact admitted gated

end

/-! ### The instruction -/

theorem of_decode {m : Mode} {fma4 : Bool} {bs : List Byte} {i : Instr} {len : Nat} (h : decode m fma4 bs = .ok i len) :
    ∃ e : Encoded, decodeFields m fma4 bs = .ok e len ∧ i = e.form.build e.fields := by
  unfold decode at h
  split at h
  next e n eq => cases h; exact ⟨e, eq, rfl⟩
  all_goals cases h

/-- An operand of the kind that a row admits is read as it stands. -/
theorem restrict_of_accepts {q : ModReq} {b : RegMem} (h : q.accepts b.isReg = true) : q.restrict b = b := by
  cases q with
  | any => rfl
  | regOnly =>
    cases b with
    | reg r => rfl
    | mem a => cases h
  | memOnly =>
    cases b with
    | reg r => cases h
    | mem a => rfl

/-- An instruction made from a row and fields that fit the mode is one that the mode can encode. -/
theorem wf_build_of_fits {m : Mode} {e : Encoded} (fit : e.Fits m) : (e.form.build e.fields).wf m = true := by
  have zero := names_zero m
  simp only [Instr.wf, operands_build, Row.kept, Bool.and_eq_true]
  refine ⟨⟨⟨⟨?reg, ?v⟩, ?rm⟩, ?is4⟩, ?wide⟩
  case reg => split <;> [exact fit.reg; exact zero]
  case v => split <;> [exact fit.v; exact zero]
  case rm =>
    rw [restrict_of_accepts fit.kind]
    split <;> [exact zero; exact fit.rm]
  case is4 => split <;> [exact fit.is4 ‹_›; exact zero]
  case wide =>
    cases wide : e.form.row.wide
    · rfl
    · simp [fit.wide wide]

/-- Settles O8: the fields decoded fit the mode, and the instruction has those of them that its row has a place for. -/
theorem decodedInstructionsAreWellFormed : Obligations.DecodedInstructionsAreWellFormed := by
  intro m fma4 bs i len h
  obtain ⟨e, fields, rfl⟩ := of_decode h
  obtain ⟨fit, admitted, taken⟩ := fits_of_decodeFields fields
  exact ⟨wf_build_of_fits fit, by rwa [form_build], taken⟩

end Sys2Proof

/-! The effects of an instruction on each part of the state, and what a step adds to them: the invariant, what may change, and
the program counter (10_state.md R49 to R52). -/

namespace Sys2Proof.Machine

/-! ### Addresses -/

@[simp] theorem wrap_wrap (m : Mode) (a : Addr) : wrap m (wrap m a) = wrap m a := by
  cases m
  · simp [wrap]
  · rfl

/-- The number of addresses of a mode (10_state.md R51). -/
def addressCount : Mode → Nat
  | .mode32 => 2 ^ 32
  | .mode64 => 2 ^ 64

theorem toNat_wrap (m : Mode) (a : Addr) : (wrap m a).toNat = a.toNat % addressCount m := by
  cases m
  · simp only [wrap, addressCount, BitVec.toNat_setWidth]; omega
  · exact (Nat.mod_eq_of_lt a.isLt).symm

/-- Where an instruction of a given length leaves pc, as a number. -/
theorem toNat_nextPc (s : State) :
    (nextPc s).toNat = (s.pc.toNat + s.length) % addressCount s.par.mode := by
  rw [nextPc, toNat_wrap]
  cases s.par.mode <;> simp only [addressCount, BitVec.toNat_add, BitVec.toNat_ofNat] <;> omega

/-! ### The registers of a mode -/

/-- A register that Mode32 cannot name is none that it can. -/
theorem ne_of_names_mode32 {r d : Reg} (high : 8 ≤ r.val) (named : Mode.mode32.names d = true) : r ≠ d := by
  rintro rfl
  have low : r.val < 8 := of_decide_eq_true named
  omega

/-- Updating vector registers leaves the rest of the state. -/
theorem updateYmm_eq (f : BitVec 256 → BitVec 256) (s : State) (l : List Reg) :
    updateYmm f s l = { s with ymm := (updateYmm f s l).ymm } := by
  induction l generalizing s with
  | nil => rfl
  | cons r t ih => rw [updateYmm, ih]; rfl

/-- A register outside the list is left as it was. -/
theorem readYmm_updateYmm_notMem (f : BitVec 256 → BitVec 256) (s : State) {l : List Reg} {r : Reg} (h : r ∉ l) :
    readYmm (updateYmm f s l) r = readYmm s r := by
  induction l generalizing s with
  | nil => rfl
  | cons d t ih =>
    obtain ⟨ne, out⟩ := not_or.mp (mt List.mem_cons.mpr h)
    rw [updateYmm, ih _ out, readYmm_setYmm_ne _ _ ne]

section
variable (f : BitVec 256 → BitVec 256) (s : State)

@[simp] theorem updateReachable_par : (updateReachable f s).par = s.par := by rw [updateReachable, updateYmm_eq]
@[simp] theorem updateReachable_mxcsr : (updateReachable f s).mxcsr = s.mxcsr := by rw [updateReachable, updateYmm_eq]
@[simp] theorem updateReachable_gpr : (updateReachable f s).gpr = s.gpr := by rw [updateReachable, updateYmm_eq]
@[simp] theorem updateReachable_flags : (updateReachable f s).flags = s.flags := by rw [updateReachable, updateYmm_eq]
@[simp] theorem updateReachable_pc : (updateReachable f s).pc = s.pc := by rw [updateReachable, updateYmm_eq]
@[simp] theorem updateReachable_length : (updateReachable f s).length = s.length := by rw [updateReachable, updateYmm_eq]
@[simp] theorem updateReachable_mem : (updateReachable f s).mem = s.mem := by rw [updateReachable, updateYmm_eq]

@[simp] theorem nextPc_updateReachable : nextPc (updateReachable f s) = nextPc s := by simp [nextPc]

/-- A register that the mode cannot name is left as it was (00_scope.md R9). -/
theorem readYmm_updateReachable_of_not_names {r : Reg} (h : s.par.mode.names r ≠ true) :
    readYmm (updateReachable f s) r = readYmm s r :=
  readYmm_updateYmm_notMem _ _ fun mem => h (List.mem_filter.mp mem).2

end

/-! ### MXCSR -/

/-- Raised flags set bits of MXCSR and clear none. -/
theorem and_raised_mxcsr (s : State) (fl : FpFlags) : s.mxcsr &&& (raised s fl).mxcsr = s.mxcsr := by
  rw [raised_mxcsr]
  ext j
  simp +contextual

/-- Raised flags lie in MXCSR[5:0]. -/
theorem raised_mxcsr_shift (s : State) (fl : FpFlags) : (raised s fl).mxcsr >>> 6 = s.mxcsr >>> 6 := by
  ext j; simp

theorem raised_mxcsr_reserved (s : State) (fl : FpFlags) :
    (raised s fl).mxcsr.extractLsb' 16 16 = s.mxcsr.extractLsb' 16 16 := by
  ext j
  have : 6 ≤ 16 + j := by omega
  simp [BitVec.getLsbD_of_ge fl _ this]

/-! ### What an effect changes -/

namespace Effect
variable {s t : State} {w : Writes}

theorem par_eq (e : Effect s w t) : t.par = s.par := by
  cases e with
  | clear f => simp
  | vec | copy | gpr | store | test | control => rfl

theorem pc_eq (e : Effect s w t) : t.pc = nextPc s := by
  cases e with
  | clear f => simp
  | vec | copy | gpr | store | test | control => rfl

theorem flags_eq (e : Effect s w t) :
    t.flags = s.flags ∨ (w = .status ∧ ∃ zf cf, t.flags = testFlags zf cf) := by
  cases e with
  | test zf cf => exact .inr ⟨rfl, zf, cf, rfl⟩
  | clear f => simp
  | vec | copy | gpr | store | control => exact .inl rfl

/-- Only a load of MXCSR does more to it than to set its flag bits. -/
theorem mxcsr_eq (e : Effect s w t) :
    (∃ fl, t.mxcsr = (raised s fl).mxcsr) ∨ (w = .control ∧ t.mxcsr.extractLsb' 16 16 = 0) := by
  cases e with
  | vec d x fl | gpr d x fl => exact .inl ⟨fl, rfl⟩
  | control v hv => exact .inr ⟨rfl, hv⟩
  | clear f => exact .inl ⟨0, by simp⟩
  | copy | store | test => exact .inl ⟨0, by simp⟩

theorem gpr_eq (e : Effect s w t) : t.gpr = s.gpr ∨ w = .general := by
  cases e with
  | gpr => exact .inr rfl
  | clear f => simp
  | vec | copy | store | test | control => exact .inl rfl

theorem mem_eq (e : Effect s w t) : t.mem = s.mem ∨ w = .memory := by
  cases e with
  | copy | store => exact .inr rfl
  | clear f => simp
  | vec | gpr | test | control => exact .inl rfl

theorem mem_wf (e : Effect s w t) (h : s.mem.wf = true) : t.mem.wf = true := by
  cases e with
  | store m hw => exact hw h
  | clear f => simpa using h
  | vec | copy | gpr | test | control => exact h

/-- A register that the mode cannot name does not change (10_state.md R41, R50). -/
theorem high_registers_eq (e : Effect s w t) (mode : s.par.mode = .mode32) {r : Reg} (high : 8 ≤ r.val) :
    readYmm t r = readYmm s r ∧ readGpr t r = readGpr s r := by
  have other : ∀ {d : Reg}, s.par.mode.names d = true → r ≠ d := fun named =>
    ne_of_names_mode32 high (mode ▸ named)
  cases e with
  | vec d x fl hd => exact ⟨readYmm_setYmm_ne _ _ (other hd), rfl⟩
  | copy d x hd => exact ⟨readYmm_setYmm_ne _ _ (other hd), rfl⟩
  | gpr d x fl hd => exact ⟨rfl, readGpr_setGpr_ne _ _ (other hd)⟩
  | clear f =>
    exact ⟨readYmm_updateReachable_of_not_names f s fun named => other named rfl, by simp [readGpr]⟩
  | store | test | control => exact ⟨rfl, rfl⟩

/-- The invariant, kept by every effect from a state that meets it. -/
theorem inv (e : Effect s w t) (h : Inv s) : Inv t where
  mem := e.mem_wf h.mem
  mxcsr := by
    obtain ⟨fl, eq⟩ | ⟨-, reserved⟩ := e.mxcsr_eq
    · rw [eq, raised_mxcsr_reserved, h.mxcsr]
    · exact reserved
  pc := by rw [e.par_eq, e.pc_eq, nextPc, wrap_wrap]

end Effect

/-! ### The rows that write each part of the state -/

theorem form_of_formWrites_status {f : Form} (h : formWrites f = .status) :
    f ∈ [Form.vptestX, .vptestY, .vtestpsX, .vtestpsY, .vtestpdX, .vtestpdY] := by
  unfold formWrites at h
  split at h <;> simp at h ⊢

theorem form_of_formWrites_control {f : Form} (h : formWrites f = .control) : f = .vldmxcsr := by
  unfold formWrites at h
  split at h <;> simp at h ⊢

theorem form_of_formWrites_general {f : Form} (h : formWrites f = .general) :
    f ∈ [Form.vcvtsd2siR32, .vcvtsd2siR64, .vcvttsd2siR32, .vcvttsd2siR64, .vcvtss2siR32, .vcvtss2siR64,
        .vcvttss2siR32, .vcvttss2siR64, .vmovmskpsX, .vmovmskpsY, .vmovmskpdX, .vmovmskpdY] := by
  unfold formWrites at h
  split at h <;> simp at h ⊢

theorem form_of_formWrites_memory {f : Form} (h : formWrites f = .memory) :
    f ∈ [Form.vmovupsXStore, .vmovupsYStore, .vmovupdXStore, .vmovupdYStore, .vmovapsXStore, .vmovapsYStore,
        .vmovapdXStore, .vmovapdYStore, .vmovdqaXStore, .vmovdqaYStore, .vmovdquXStore, .vmovdquYStore, .vmovssStore,
        .vmovsdStore, .vmovlpsStore, .vmovlpdStore, .vmovhpsStore, .vmovhpdStore, .vextractf128, .vmaskmovpsXStore,
        .vmaskmovpsYStore, .vmaskmovpdXStore, .vmaskmovpdYStore, .vstmxcsr] := by
  unfold formWrites at h
  split at h <;> simp at h ⊢

/-! ### What a step runs -/

/-- A fetch that answers an instruction: the bytes at pc decode to it, or at mnemonic level it is the term with index pc. -/
theorem of_fetch {s : State} {i : Instr} {len : Nat} (h : fetch s = .ok (i, len)) :
    (s.par.encGk = true → decode s.par.mode s.par.encFma4 (fetchWindow s).1 = .ok i len) ∧
      (s.par.encGk = false → s.par.terms[s.pc.toNat]? = some i ∧ len = 1) := by
  unfold fetch at h
  split at h
  next on =>
    refine ⟨fun _ => ?_, fun off => absurd on (by simp [off])⟩
    unfold fetched at h
    split at h
    next dec => cases h; exact dec
    next => cases h
    next => cases h
    next => split at h <;> cases h
  next off =>
    refine ⟨fun on => absurd on off, fun _ => ?_⟩
    unfold termAt at h
    split at h
    next => cases h
    next term =>
      split at h
      next => cases h; exact ⟨term, rfl⟩
      next => cases h

/-- A step that answers a next state ran the fetched instruction, in the state that knows its length. -/
theorem of_step_next {s t : State} (h : step s = .next t) :
    ∃ i len, fetch s = .ok (i, len) ∧ exec i { s with length := len } = .next t := by
  unfold step stepWith at h
  split at h
  next => cases h
  next =>
    unfold afterFetch at h
    split at h
    next i len eq => exact ⟨i, len, eq, h⟩
    next => cases h
    next => cases h

/-! ### The statements -/

/-- Settles O9. -/
theorem resetMeetsInvariant : Obligations.ResetMeetsInvariant :=
  ⟨{ mem := reset_mem_wf, mxcsr := by decide, pc := rfl }, rfl⟩

/-- Settles O10: the instruction fetched starts from a state that meets the invariant, and every effect keeps it. -/
theorem stepKeepsInvariant : Obligations.StepKeepsInvariant := by
  intro s t h st
  obtain ⟨i, len, -, run⟩ := of_step_next st
  have start : Inv { s with length := len } := ⟨h.mem, h.mxcsr, h.pc⟩
  exact (exec_effect run).inv start

/-- Settles O12: an effect changes only the part of the state that its row writes. -/
theorem onlyNamedInstructionsWriteEachState : Obligations.OnlyNamedInstructionsWriteEachState := by
  intro i s t run
  have e := exec_effect run
  refine ⟨?flags, ?mxcsr, ?gpr, ?mem, e.par_eq, e.pc_eq⟩
  case flags =>
    refine e.flags_eq.imp_right ?_
    rintro ⟨status, zf, cf, eq⟩
    exact ⟨form_of_formWrites_status status, by simp [eq, testFlags]⟩
  case mxcsr =>
    obtain ⟨fl, eq⟩ | ⟨control, -⟩ := e.mxcsr_eq
    · exact .inr (eq ▸ ⟨and_raised_mxcsr s fl, raised_mxcsr_shift s fl⟩)
    · exact .inl (form_of_formWrites_control control)
  case gpr => exact e.gpr_eq.imp (fun eq r => by rw [readGpr, eq, readGpr]) form_of_formWrites_general
  case mem => exact e.mem_eq.imp (fun eq a => by rw [readByte, eq, readByte]) form_of_formWrites_memory

/-- Settles O13: the instruction fetched advances pc by the length that the step recorded. -/
theorem stepAdvancesByTheEncodedLength : Obligations.StepAdvancesByTheEncodedLength := by
  intro s t st
  obtain ⟨i, len, eq, run⟩ := of_step_next st
  obtain ⟨bytes, term⟩ := of_fetch eq
  have e := exec_effect run
  exact ⟨i, len, bytes, term, e.pc_eq ▸ toNat_nextPc _, fun mode r high => e.high_registers_eq mode high⟩

end Sys2Proof.Machine

/-! The memory rules (20_memory.md): effective addresses as numbers, what a load answers and a store leaves, what
misalignment does to an access, and which bytes a step can change. -/

namespace Sys2Proof.Machine

/-! ### Effective addresses as numbers (R83) -/

/-- The index term of an address, as a number. -/
def indexSum (s : State) (sc : BitVec 2) : Option Reg → ℤ
  | none => 0
  | some i => (readGpr s i).toNat * 2 ^ sc.toNat

/-- A displacement, as a number. -/
def dispSum : Disp → ℤ
  | .none => 0
  | .d8 d => d.toInt
  | .d32 d => d.toInt

/-- The sum that an addressing form names, before it is reduced to the address width. -/
def addressSum (s : State) : MemOp → ℤ
  | .direct a => a.toNat
  | .rip d => s.pc.toNat + s.length + d.toInt
  | .abs d => d.toInt
  | .base b d => (readGpr s b).toNat + dispSum d
  | .sib b sc i d => (readGpr s b).toNat + indexSum s sc i + dispSum d
  | .sibNoBase sc i d => indexSum s sc i + d.toInt

/-- An address stands for a number when both leave the same remainder in the 64 bits that hold it. -/
def StandsFor (a : Addr) (z : ℤ) : Prop := (a.toNat : ℤ) ≡ z [ZMOD 2 ^ 64]

namespace StandsFor

theorem self (a : Addr) : StandsFor a a.toNat := Int.ModEq.refl _

theorem zero : StandsFor 0 0 := Int.ModEq.refl _

theorem add {a b : Addr} {y z : ℤ} (ha : StandsFor a y) (hb : StandsFor b z) : StandsFor (a + b) (y + z) := by
  have sum : ((a + b).toNat : ℤ) ≡ a.toNat + b.toNat [ZMOD 2 ^ 64] := by
    rw [BitVec.toNat_add]
    exact_mod_cast Nat.mod_modEq _ _
  exact sum.trans (Int.ModEq.add ha hb)

theorem shiftLeft (a : Addr) (n : Nat) : StandsFor (a <<< n) (a.toNat * 2 ^ n) := by
  unfold StandsFor
  rw [BitVec.toNat_shiftLeft, Nat.shiftLeft_eq]
  exact_mod_cast Nat.mod_modEq _ _

theorem signExtend {n : Nat} (d : BitVec n) (h : n ≤ 64) : StandsFor (d.signExtend 64) d.toInt := by
  have value : (d.signExtend 64).toInt = d.toInt := BitVec.toInt_signExtend_of_le h
  unfold StandsFor
  rw [← value, BitVec.toInt_eq_toNat_bmod]
  exact Int.bmod_emod.symm

end StandsFor

/-- Reducing an address to the width of the mode reduces the number it stands for. -/
theorem StandsFor.toNat_wrap {a : Addr} {z : ℤ} (m : Mode) (h : StandsFor a z) :
    ((wrap m a).toNat : ℤ) = z % addressCount m := by
  have width : (addressCount m : ℤ) ∣ 2 ^ 64 := by cases m <;> decide
  rw [Machine.toNat_wrap, Int.natCast_emod]
  exact h.of_dvd width

theorem standsFor_indexValue (s : State) (sc : BitVec 2) (i : Option Reg) :
    StandsFor (indexValue s sc i) (indexSum s sc i) := by
  cases i with
  | none => exact .zero
  | some i => exact .shiftLeft _ _

theorem standsFor_dispValue (d : Disp) : StandsFor (dispValue d) (dispSum d) := by
  cases d with
  | none => exact .zero
  | d8 d => exact .signExtend d (by decide)
  | d32 d => exact .signExtend d (by decide)

/-- The effective address is the sum of its form, reduced to the address width. -/
theorem toNat_effAddr (s : State) (x : MemOp) :
    ((effAddr s x).toNat : ℤ) = addressSum s x % addressCount s.par.mode := by
  cases x with
  | direct a => exact (StandsFor.self a).toNat_wrap _
  | abs d => exact (StandsFor.signExtend d (by decide)).toNat_wrap _
  | base b d => exact ((StandsFor.self _).add (standsFor_dispValue d)).toNat_wrap _
  | sib b sc i d =>
    exact (((StandsFor.self _).add (standsFor_indexValue s sc i)).add (standsFor_dispValue d)).toNat_wrap _
  | sibNoBase sc i d =>
    exact ((standsFor_indexValue s sc i).add (.signExtend d (by decide))).toNat_wrap _
  | rip d =>
    have wrapped := (StandsFor.self (nextPc s)).add (.signExtend d (n := 32) (by decide))
    calc ((effAddr s (.rip d)).toNat : ℤ)
      _ = (((nextPc s).toNat : ℤ) + d.toInt) % addressCount s.par.mode := wrapped.toNat_wrap _
      _ = (s.pc.toNat + s.length + d.toInt) % addressCount s.par.mode := by
        rw [toNat_nextPc, Int.natCast_emod, Int.emod_add_emod, Nat.cast_add]

/-- No mode names register 4 as an index (log 29). -/
theorem indexWf_four (m : Mode) : indexWf m (some 4) = false := by
  simp [indexWf]

/-! ### What a load answers and a store leaves (R81, R88 to R91) -/

/-- A load that answers has passed its checks, and answers the bytes of its span. -/
theorem of_load {s : State} {a : Addr} {w align : Nat} {v : BitVec w} (h : load s a w align = .ok v) :
    checkAccess s.par.mode (mapped s.par) align a (w / 8) = .ok () ∧
      v = Memory.value w s.mem (spanOf s.par.mode a (w / 8)) := by
  unfold load at h
  cases passed : checkAccess s.par.mode (mapped s.par) align a (w / 8) with
  | error e => rw [passed] at h; cases h
  | ok u => rw [passed] at h; cases h; exact ⟨rfl, rfl⟩

/-- A store that completes has passed its checks, touches no byte of the program, and writes the bytes of its span. -/
theorem of_store {s t : State} {a : Addr} {w align : Nat} {v : BitVec w} (h : store s a align v = .ok t) :
    checkAccess s.par.mode (writable s.par) align a (w / 8) = .ok () ∧
      (spanOf s.par.mode a (w / 8)).any (inProgram s.par) = false ∧
      t = { s with mem := Memory.writeBytes s.mem (spanOf s.par.mode a (w / 8)) v.toNat } := by
  unfold store at h
  cases passed : checkAccess s.par.mode (writable s.par) align a (w / 8) with
  | error e => rw [passed] at h; cases h
  | ok u =>
    rw [passed] at h
    change storeAt s _ _ = .ok t at h
    unfold storeAt at h
    split at h
    next => cases h
    next free => cases h; exact ⟨rfl, by simpa using free, rfl⟩

/-- Byte `k` of a loaded value is the byte at address `k` of the access. -/
theorem extractLsb'_of_load {s : State} {a : Addr} {w align : Nat} {v : BitVec w} (whole : w % 8 = 0)
    (h : load s a w align = .ok v) {k : Nat} (hk : k < w / 8) :
    v.extractLsb' (8 * k) 8 = readByte s (wrap s.par.mode (a + BitVec.ofNat 64 k)) := by
  obtain ⟨-, rfl⟩ := of_load h
  have inside : k < (spanOf s.par.mode a (w / 8)).length := by simpa using hk
  rw [Memory.value_byte w s.mem _ (by rw [spanOf_length]; omega) inside, spanOf_getElem, readByte]

/-! ### Misaligned accesses (R85) -/

/-- Misalignment is found before the map is looked at (60_exceptions.md R511). -/
theorem checkAccess_misaligned {m : Mode} {align : Nat} {a : Addr} (ok : Addr → Bool) (n : Nat)
    (address : addressOk m a = true) (misaligned : a.toNat % align ≠ 0) :
    checkAccess m ok align a n = .error (.fault .gp0) := by
  simp [checkAccess, address, misaligned, raise]

section
variable {s : State} {m : MemOp} {align : Nat}

theorem readVecMem_misaligned (w : Nat) (address : addressOk s.par.mode (effAddr s m) = true)
    (misaligned : (effAddr s m).toNat % align ≠ 0) : readVecMem w align s (.mem m) = .error (.fault .gp0) := by
  rw [readVecMem, load, checkAccess_misaligned _ _ address misaligned]
  rfl

/-- The frame with operands that can be named, one of which cannot be read, ends as the read does. -/
theorem frame_error {w n : Nat} {read : State → RegMem → Res (BitVec w)} {put : State → BitVec n → State} {rs : List Reg}
    {b : RegMem} {f : BitVec w → BitVec n × FpFlags} {e : Stop} (named : rs.all s.par.mode.names = true)
    (place : regMemNamed s.par.mode b = true) (stops : read s b = .error e) :
    frame read put rs b f s = finish (.error e) := by
  rw [frame, needOperands_ok named place, stops]
  rfl

variable {d : Reg} (named : s.par.mode.names d = true) (place : memOpNamed s.par.mode m = true)
  (address : addressOk s.par.mode (effAddr s m) = true)
include named place address

theorem opMoveAligned_misaligned {n : Nat} (misaligned : (effAddr s m).toNat % (n / 8) ≠ 0) :
    opMoveAligned n d (.mem m) s = .fault .gp0 :=
  frame_error (b := .mem m) (by simpa using named) place (readVecMem_misaligned n address misaligned)

theorem opLegacy_misaligned (f : BitVec 128 → BitVec 128 → BitVec 128) (misaligned : (effAddr s m).toNat % 16 ≠ 0) :
    opLegacy f d (.mem m) s = .fault .gp0 :=
  frame_error (b := .mem m) (by simpa using named) place (readVecMem_misaligned 128 address misaligned)

theorem opMR_misaligned {n : Nat} (x : State → BitVec n) (misaligned : (effAddr s m).toNat % align ≠ 0) :
    opMR align (.mem m) d x s = .fault .gp0 := by
  rw [opMR, opStore, needOperands_ok (b := .mem m) (by simpa using named) place]
  simp only [bind, Except.bind]
  rw [store, checkAccess_misaligned _ _ address misaligned]
  rfl

end

/-! ### The bytes a step can change (R87, R88, R91) -/

/-- A byte of memory that an effect changes is writable and none of the program's. -/
theorem Effect.writable_of_readByte_ne {s t : State} {w : Writes} (e : Effect s w t) {a : Addr}
    (changed : readByte t a ≠ readByte s a) : writable s.par a = true ∧ inProgram s.par a = false := by
  cases e with
  | store m _ hm => exact (hm a).resolve_left changed
  | clear f => exact absurd (by simp [readByte]) changed
  | vec | copy | gpr | test | control => exact absurd rfl changed

/-! ### The statements -/

/-- Settles O14: the instruction fetched runs with the memory, the map and the program of the step, and an effect changes no
other byte. -/
theorem stepWritesOnlyWritableBytes : Obligations.StepWritesOnlyWritableBytes := by
  intro s t a st changed
  obtain ⟨i, len, -, run⟩ := of_step_next st
  exact (exec_effect run).writable_of_readByte_ne changed

/-- Settles O16: a load answers the value of its span, a store writes its span and keeps the canonical form. -/
theorem loadsAndStoresAreLittleEndian : Obligations.LoadsAndStoresAreLittleEndian := by
  refine ⟨fun s a w align v whole h k hk => extractLsb'_of_load whole h hk, ?store⟩
  intro s t a w align v whole bound form h
  obtain ⟨-, -, rfl⟩ := of_store h
  refine ⟨fun k hk => ?written, fun b out => Memory.read_writeBytes_notMem _ _ _ out, Memory.wf_writeBytes _ _ form, rfl⟩
  rw [readByte, Memory.read_writeBytes_span _ _ _ form (by omega) hk, byte_of_toNat]

/-- Settles O17: each conjunct is the sum of one addressing form. -/
theorem effectiveAddress : Obligations.EffectiveAddress := by
  intro s a b i sc d8 d32 M ea g
  have width : M = addressCount s.par.mode := by
    unfold M
    cases s.par.mode <;> rfl
  have sum : ∀ x, ea x = addressSum s x % M := fun x => width ▸ toNat_effAddr s x
  simp [sum, addressSum, indexSum, dispSum, g, memOpNamed, indexWf_four]

/-- Settles O18: by the shared operation of each instruction, the aligned moves, their stores and the legacy forms. -/
theorem misalignedOperandsFault : Obligations.MisalignedOperandsFault := by
  intro s d m imm named place address
  constructor
  · intro misaligned
    have move : opMoveAligned 128 d (.mem m) s = .fault .gp0 := opMoveAligned_misaligned named place address misaligned
    have put : opMR 16 (.mem m) d (fun t => readVec 128 t d) s = .fault .gp0 :=
      opMR_misaligned named place address _ misaligned
    have legacy := fun f => opLegacy_misaligned named place address f misaligned
    simp only [List.forall_mem_cons]
    exact ⟨move, move, move, put, put, put, legacy aesEnc, legacy aesEncLast, legacy aesDec, legacy aesDecLast,
      legacy fun _ v => invMixColumns v, legacy fun _ v => aesKeygen imm v, legacy (pclmul imm), List.forall_mem_nil _⟩
  · intro misaligned
    have move : opMoveAligned 256 d (.mem m) s = .fault .gp0 := opMoveAligned_misaligned named place address misaligned
    have put : opMR 32 (.mem m) d (fun t => readVec 256 t d) s = .fault .gp0 :=
      opMR_misaligned named place address _ misaligned
    simp only [List.forall_mem_cons]
    exact ⟨move, move, move, put, put, put, List.forall_mem_nil _⟩

end Sys2Proof.Machine

/-! The opcode table as a whole: which rows share an opcode, what tells them apart, and what no row answering means
(30_encoding.md R126, R127, R130). -/

namespace Sys2Proof

/-! ### Rows that share an opcode -/

/-- Every row stands in the table (30_encoding.md R130). -/
theorem Form.mem_all (f : Form) : f ∈ Form.all := by
  have listed : Form.all.map Form.ctorIdx = List.range 418 := by decide +kernel
  have bound : f.ctorIdx < 418 := by cases f <;> decide
  obtain ⟨g, mem, same⟩ := List.mem_map.mp (listed ▸ List.mem_range.mpr bound)
  have eq : g = f := by rw [← Form.ofNat_ctorIdx g, same, Form.ofNat_ctorIdx]
  exact eq ▸ mem

/-- The row accepts these values of L, W, ModRM.mod and ModRM.reg (30_encoding.md R127 step 3). -/
def Row.accepts (q : Row) (l w isReg : Bool) (reg : BitVec 3) : Bool :=
  q.len.accepts l && q.w.accepts w && q.mod.accepts isReg && extAccepts q.ext reg

/-- Two rows that the bytes up to the opcode do not tell apart (30_encoding.md R127 step 2). -/
@[reducible] def Row.Rivals (q r : Row) : Prop :=
  q.op = r.op ∧ q.map = r.map ∧ q.pp = r.pp ∧ (q.len = .leg ↔ r.len = .leg)

/-- One of the fields L, W, ModRM.mod and ModRM.reg has no value that both rows accept. -/
@[reducible] def Row.Apart (q r : Row) : Prop :=
  (∀ l, ¬ (q.len.accepts l ∧ r.len.accepts l)) ∨ (∀ w, ¬ (q.w.accepts w ∧ r.w.accepts w)) ∨
    (∀ isReg, ¬ (q.mod.accepts isReg ∧ r.mod.accepts isReg)) ∨ ∀ reg, ¬ (extAccepts q.ext reg ∧ extAccepts r.ext reg)

/-- What the decoder needs to know before it has chosen between two rows: whether `EncFMA4` gates them, whether a ModRM byte
follows, and, for case (c) of R126, whether W matters. -/
@[reducible] def Row.Alike (q r : Row) : Prop :=
  q.gated = r.gated ∧ (q.enc = .none ↔ r.enc = .none) ∧ (q.w = .wig ↔ r.w = .wig)

theorem Row.Apart.symm {q r : Row} (h : q.Apart r) : r.Apart q := by
  simpa only [Row.Apart, and_comm] using h

theorem Row.Apart.not_accepts {q r : Row} (h : q.Apart r) {l w isReg : Bool} {reg : BitVec 3}
    (hq : q.accepts l w isReg reg = true) (hr : r.accepts l w isReg reg = true) : False := by
  simp only [Row.accepts, Bool.and_eq_true] at hq hr
  obtain ⟨⟨⟨ql, qw⟩, qm⟩, qe⟩ := hq
  obtain ⟨⟨⟨rl, rw⟩, rm⟩, re⟩ := hr
  rcases h with h | h | h | h
  · exact h l ⟨ql, rl⟩
  · exact h w ⟨qw, rw⟩
  · exact h isReg ⟨qm, rm⟩
  · exact h reg ⟨qe, re⟩

/-- The place of a row's opcode in the order of the table: by map, then by opcode. -/
def Form.opcodeIndex (f : Form) : Nat := f.row.map.bits.toNat * 256 + f.row.op.toNat

/-- `R` holds from each element to the ones after it, as long as their keys are equal to its own. -/
def holdsInRuns {α : Type} (key : α → Nat) (R : α → α → Bool) : List α → Bool
  | [] => true
  | a :: l => (l.takeWhile fun b => key b == key a).all (R a) && holdsInRuns key R l

section
variable {α : Type} {key : α → Nat}

/-- What shares the first key of a sorted list is in its first run. -/
theorem mem_takeWhile_of_sorted {a b : α} {l : List α} (sorted : (a :: l).Pairwise (key · ≤ key ·))
    (mem : b ∈ l) (eq : key a = key b) : b ∈ l.takeWhile fun b => key b == key a := by
  induction l with
  | nil => cases mem
  | cons c l ih =>
    simp only [List.pairwise_cons, List.mem_cons, forall_eq_or_imp] at sorted ih
    obtain ⟨⟨ac, al⟩, cl, rest⟩ := sorted
    have same : key c = key a := by
      rcases List.mem_cons.mp mem with rfl | inside
      · exact eq.symm
      · exact Nat.le_antisymm (eq ▸ cl b inside) ac
    rw [List.takeWhile_cons_of_pos (by simpa using same)]
    rcases List.mem_cons.mp mem with rfl | inside
    · exact List.mem_cons_self
    · exact List.mem_cons_of_mem _ (ih ⟨al, rest⟩ inside)

/-- In a sorted list a relation holds between elements with one key if it does within the runs. -/
theorem pairwise_of_holdsInRuns {R : α → α → Bool} {l : List α} (sorted : l.Pairwise (key · ≤ key ·))
    (runs : holdsInRuns key R l = true) : l.Pairwise fun a b => key a = key b → R a b = true := by
  induction l with
  | nil => exact .nil
  | cons a l ih =>
    simp only [holdsInRuns, Bool.and_eq_true, List.all_eq_true] at runs
    obtain ⟨first, others⟩ := runs
    exact .cons (fun b mem eq => first b (mem_takeWhile_of_sorted sorted mem eq)) (ih sorted.of_cons others)

end

/-- The table stands in the order of its maps and opcodes, so that the rows of an opcode are next to each other. -/
theorem all_sorted : Form.all.Pairwise (Form.opcodeIndex · ≤ Form.opcodeIndex ·) := by
  have chain : (Form.all.map Form.opcodeIndex).IsChain (· ≤ ·) := by decide +kernel
  exact List.pairwise_map.mp (List.isChain_iff_pairwise.mp chain)

/-- The table's rows compared within each opcode. -/
theorem rivals_in_runs : holdsInRuns Form.opcodeIndex
    (fun f g => decide (f.row.Rivals g.row → f.row.Alike g.row ∧ f.row.Apart g.row)) Form.all = true := by
  decide +kernel

/-- Different rows that the bytes up to the opcode do not tell apart agree on what comes before the choice, and no fields are
accepted by both: the decoding is unambiguous (30_encoding.md R127). -/
theorem alike_and_apart {f g : Form} (ne : f ≠ g) (rivals : f.row.Rivals g.row) :
    f.row.Alike g.row ∧ f.row.Apart g.row := by
  have symmetric : Std.Symm fun f g : Form => f.row.Rivals g.row → f.row.Alike g.row ∧ f.row.Apart g.row := by
    refine ⟨fun f g fg ⟨op, map, pp, leg⟩ => ?_⟩
    obtain ⟨⟨gated, enc, w⟩, apart⟩ := fg ⟨op.symm, map.symm, pp.symm, leg.symm⟩
    exact ⟨⟨gated.symm, enc.symm, w.symm⟩, apart.symm⟩
  have pairs : Form.all.Pairwise fun f g => f.row.Rivals g.row → f.row.Alike g.row ∧ f.row.Apart g.row := by
    refine (pairwise_of_holdsInRuns all_sorted rivals_in_runs).imp fun {f g} near rivals => ?_
    have ⟨op, map, _⟩ := rivals
    have index : f.opcodeIndex = g.opcodeIndex := by simp only [Form.opcodeIndex, op, map]
    exact of_decide_eq_true (near index) rivals
  exact pairs.forall (Form.mem_all f) (Form.mem_all g) ne rivals

theorem alike_of_rivals {f g : Form} (rivals : f.row.Rivals g.row) : f.row.Alike g.row := by
  by_cases eq : f = g
  · subst eq; exact ⟨rfl, .rfl, .rfl⟩
  · exact (alike_and_apart eq rivals).1

/-- The row is the one that fields it accepts choose. -/
theorem eq_of_rivals {f g : Form} (rivals : f.row.Rivals g.row) {l w isReg : Bool} {reg : BitVec 3}
    (hf : f.row.accepts l w isReg reg = true) (hg : g.row.accepts l w isReg reg = true) : g = f := by
  by_contra ne
  exact (alike_and_apart (Ne.symm ne) rivals).2.not_accepts hf hg

/-- The legacy rows (30_encoding.md R125, R130). -/
theorem of_legacy {f : Form} (h : f.row.len = .leg) :
    f.row.map ≠ .m0F ∧ f.row.pp = .p66 ∧ f.row.w = .wig ∧ f.row.enc.usesV = false := by
  have table : ∀ f ∈ Form.all, f.row.len = .leg → f.row.map ≠ .m0F ∧ f.row.pp = .p66 ∧ f.row.w = .wig ∧
      f.row.enc.usesV = false := by decide +kernel
  exact table f (Form.mem_all f) h

/-- A row with an opcode extension has no operand in ModRM.reg (30_encoding.md R119). -/
theorem ext_of_usesReg {f : Form} (h : f.row.enc.usesReg = true) : f.row.ext = none := by
  have table : ∀ f ∈ Form.all, f.row.enc.usesReg = true → f.row.ext = none := by decide +kernel
  exact table f (Form.mem_all f) h

/-- A row without ModRM has no extension, no kind of ModRM.rm, and no trailing byte. -/
theorem of_no_modRM {f : Form} (h : f.row.enc = .none) : f.row.ext = none ∧ f.row.mod = .any ∧ f.row.imm = .none := by
  have table : ∀ f ∈ Form.all, f.row.enc = .none → f.row.ext = none ∧ f.row.mod = .any ∧ f.row.imm = .none := by
    decide +kernel
  exact table f (Form.mem_all f) h

/-! ### The row chosen, or none -/

/-- The rows that the bytes up to the opcode do not tell apart from this one, itself among them. -/
def Form.rivals (f : Form) : List Form := Form.all.filter fun g => f.row.Rivals g.row

theorem mem_rivals {f g : Form} : g ∈ f.rivals ↔ f.row.Rivals g.row := by
  simp only [Form.rivals, List.mem_filter, Form.mem_all, true_and, decide_eq_true_eq]

theorem self_mem_rivals (f : Form) : f ∈ f.rivals := mem_rivals.mpr ⟨rfl, rfl, rfl, .rfl⟩

/-- The candidates for the bytes of a row. -/
theorem candidates_eq_rivals {p : Prefix} {f : Form} (map : p.map = f.row.map) (pp : p.pp = f.row.pp)
    (legacy : p.legacy = (f.row.len == .leg)) : candidates p f.row.op = f.rivals := by
  simp only [candidates, opcodeRows, Form.rivals, List.filter_filter, map, pp, legacy]
  refine List.filter_congr fun g _ => Bool.eq_iff_iff.mpr ?_
  have legacyIff : ((g.row.len == .leg) = (f.row.len == .leg)) ↔ (f.row.len = .leg ↔ g.row.len = .leg) := by
    rw [Bool.eq_iff_iff, beq_iff_eq, beq_iff_eq]
    exact iff_comm
  simp only [Bool.and_eq_true, beq_iff_eq, decide_eq_true_eq, legacyIff, eq_comm (a := g.row.op), eq_comm (a := g.row.map),
    eq_comm (a := g.row.pp)]
  tauto

/-- A row is chosen by fields that it accepts. -/
theorem select_eq_some {f : Form} {l w isReg : Bool} {reg : BitVec 3} (h : f.row.accepts l w isReg reg = true) :
    select f.rivals l w isReg reg = some f := by
  cases chosen : select f.rivals l w isReg reg with
  | none => exact absurd h (List.find?_eq_none.mp chosen f (self_mem_rivals f))
  | some g =>
    have mem : g ∈ f.rivals := List.mem_of_find?_eq_some chosen
    have accepted : g.row.accepts l w isReg reg = true :=
      List.find?_some (p := fun g : Form => g.row.accepts l w isReg reg) (l := f.rivals) chosen
    rw [eq_of_rivals (mem_rivals.mp mem) h accepted]

theorem select_eq_none {cs : List Form} {l w isReg : Bool} {reg : BitVec 3}
    (h : ∀ g ∈ cs, g.row.accepts l w isReg reg = false) : select cs l w isReg reg = none :=
  List.find?_eq_none.mpr fun g mem => Bool.not_eq_true _ ▸ h g mem

/-- The candidates that accept ModRM.reg. -/
def extRows (cs : List Form) (reg : BitVec 3) : List Form := cs.filter fun f => extAccepts f.row.ext reg

/-- Those of them that accept L. -/
def lengthRows (cs : List Form) (l : Bool) (reg : BitVec 3) : List Form :=
  (extRows cs reg).filter fun f => f.row.len.accepts l

/-- Those of them that accept W. -/
def widthRows (cs : List Form) (l w : Bool) (reg : BitVec 3) : List Form :=
  (lengthRows cs l reg).filter fun f => f.row.w.accepts w

section
variable {cs : List Form} {l w : Bool} {reg : BitVec 3} {f g : Form}

theorem mem_extRows : g ∈ extRows cs reg ↔ g ∈ cs ∧ extAccepts g.row.ext reg = true := List.mem_filter

theorem mem_lengthRows : g ∈ lengthRows cs l reg ↔ g ∈ extRows cs reg ∧ g.row.len.accepts l = true := List.mem_filter

theorem mem_widthRows : g ∈ widthRows cs l w reg ↔ g ∈ lengthRows cs l reg ∧ g.row.w.accepts w = true := List.mem_filter

/-- The order in which the reasons against an encoding are given (log 17). -/
theorem misfit_eq : misfit cs l w reg =
    if (extRows cs reg).isEmpty then .refused .notListed
    else if (lengthRows cs l reg).isEmpty then
      if (extRows cs reg).all fun f => f.row.len == .lz || f.row.len == .l256 then .ud else .refused .lengthReserved
    else if (widthRows cs l w reg).isEmpty then .ud
    else if (widthRows cs l w reg).any Form.scalarBroadcast then .refused .registerBroadcast
    else .ud := rfl

theorem mem_of_mem_extRows (h : g ∈ extRows cs reg) : g ∈ cs := List.mem_of_mem_filter h

theorem mem_of_mem_lengthRows (h : g ∈ lengthRows cs l reg) : g ∈ cs := mem_of_mem_extRows (List.mem_of_mem_filter h)

theorem mem_of_mem_widthRows (h : g ∈ widthRows cs l w reg) : g ∈ cs := mem_of_mem_lengthRows (List.mem_of_mem_filter h)

theorem isEmpty_of_mem {rows : List Form} (mem : f ∈ rows) : rows.isEmpty = false :=
  List.isEmpty_eq_false_iff_exists_mem.mpr ⟨f, mem⟩

theorem isEmpty_lengthRows (length : ∀ g ∈ cs, g.row.len.accepts l = false) : (lengthRows cs l reg).isEmpty = true :=
  List.isEmpty_iff.mpr <| List.filter_eq_nil_iff.mpr fun g mem => Bool.not_eq_true _ ▸ length g (mem_of_mem_extRows mem)

/-- No candidate accepts L: case (e) of R126 where the rows ask for L = 0 or have only L = 256. -/
theorem misfit_length_ud (mem : f ∈ cs) (ext : extAccepts f.row.ext reg = true)
    (rows : ∀ g ∈ cs, g.row.len = .lz ∨ g.row.len = .l256) (length : ∀ g ∈ cs, g.row.len.accepts l = false) :
    misfit cs l w reg = .ud := by
  have inExt : f ∈ extRows cs reg := mem_extRows.mpr ⟨mem, ext⟩
  have all : ((extRows cs reg).all fun f => f.row.len == .lz || f.row.len == .l256) = true :=
    List.all_eq_true.mpr fun g h => by simpa using rows g (mem_of_mem_extRows h)
  rw [misfit_eq, isEmpty_of_mem inExt, isEmpty_lengthRows length, all]
  rfl

/-- No candidate accepts L, and one asks for L = 128: case (h) of R126. -/
theorem misfit_lengthReserved (mem : f ∈ cs) (ext : extAccepts f.row.ext reg = true) (row : f.row.len = .l128)
    (length : ∀ g ∈ cs, g.row.len.accepts l = false) : misfit cs l w reg = .refused .lengthReserved := by
  have inExt : f ∈ extRows cs reg := mem_extRows.mpr ⟨mem, ext⟩
  have notAll : ((extRows cs reg).all fun f => f.row.len == .lz || f.row.len == .l256) = false :=
    List.all_eq_false.mpr ⟨f, inExt, by simp [row]⟩
  rw [misfit_eq, isEmpty_of_mem inExt, isEmpty_lengthRows length, notAll]
  rfl

/-- A candidate accepts L but none accepts W: case (c) of R126. -/
theorem misfit_w (mem : f ∈ cs) (ext : extAccepts f.row.ext reg = true) (length : f.row.len.accepts l = true)
    (width : ∀ g ∈ cs, g.row.w.accepts w = false) : misfit cs l w reg = .ud := by
  have inExt : f ∈ extRows cs reg := mem_extRows.mpr ⟨mem, ext⟩
  have inLength : f ∈ lengthRows cs l reg := mem_lengthRows.mpr ⟨inExt, length⟩
  have none : (widthRows cs l w reg).isEmpty = true :=
    List.isEmpty_iff.mpr <| List.filter_eq_nil_iff.mpr fun g mem =>
      Bool.not_eq_true _ ▸ width g (mem_of_mem_lengthRows mem)
  rw [misfit_eq, isEmpty_of_mem inExt, isEmpty_of_mem inLength, none]
  rfl

/-- A candidate accepts L and W, so that only the kind of ModRM.rm is left: case (d) or, for the scalar broadcasts, case (h)
of R126. -/
theorem misfit_kind (mem : f ∈ cs) (ext : extAccepts f.row.ext reg = true) (length : f.row.len.accepts l = true)
    (width : f.row.w.accepts w = true) (broadcast : ∀ g ∈ cs, g.scalarBroadcast = f.scalarBroadcast) :
    misfit cs l w reg = if f.scalarBroadcast then .refused .registerBroadcast else .ud := by
  have inExt : f ∈ extRows cs reg := mem_extRows.mpr ⟨mem, ext⟩
  have inLength : f ∈ lengthRows cs l reg := mem_lengthRows.mpr ⟨inExt, length⟩
  have inWidth : f ∈ widthRows cs l w reg := mem_widthRows.mpr ⟨inLength, width⟩
  have any : (widthRows cs l w reg).any Form.scalarBroadcast = f.scalarBroadcast := by
    refine Bool.eq_iff_iff.mpr (List.any_eq_true.trans ⟨fun ⟨g, h, scalar⟩ => ?_, fun scalar => ⟨f, inWidth, scalar⟩⟩)
    exact broadcast g (mem_of_mem_widthRows h) ▸ scalar
  rw [misfit_eq, isEmpty_of_mem inExt, isEmpty_of_mem inLength, isEmpty_of_mem inWidth, any]
  rfl

end

end Sys2Proof

/-! What the encoder writes for an instruction is read back by the decoder, field by field (30_encoding.md R113 to R125). -/

namespace Sys2Proof

/-! ### Fields of a byte -/

/-- ModRM and SIB have one layout: two, three and three bits (30_encoding.md R121, R122). -/
theorem fields_233 (a : BitVec 2) (b c : BitVec 3) : (a ++ b ++ c : Byte).extractLsb' 6 2 = a ∧
    (a ++ b ++ c : Byte).extractLsb' 3 3 = b ∧ (a ++ b ++ c : Byte).extractLsb' 0 3 = c := by
  revert a b c; decide +kernel

/-- The byte after C4 (30_encoding.md R113). -/
theorem fields_vex1 (r x b : Bool) (map : BitVec 5) :
    let c : Byte := BitVec.ofBool r ++ BitVec.ofBool x ++ BitVec.ofBool b ++ map
    c.getLsbD 7 = r ∧ c.getLsbD 6 = x ∧ c.getLsbD 5 = b ∧ c.extractLsb' 0 5 = map ∧
      (r = true → x = true → b = true → c.extractLsb' 5 3 = 7) := by
  revert r x b map; decide +kernel

/-- The last of the VEX bytes (30_encoding.md R113). -/
theorem fields_vex2 (w : Bool) (v : BitVec 4) (l : Bool) (pp : BitVec 2) :
    let c : Byte := BitVec.ofBool w ++ v ++ BitVec.ofBool l ++ pp
    c.getLsbD 7 = w ∧ c.getLsbD 6 = v.getLsbD 3 ∧ c.extractLsb' 3 4 = v ∧ c.getLsbD 2 = l ∧ c.extractLsb' 0 2 = pp := by
  revert w v l pp; decide +kernel

/-- The `is4` byte (30_encoding.md R124). -/
theorem fields_is4 (a b : BitVec 4) : (a ++ b : Byte).extractLsb' 4 4 = a ∧
    (a ++ b : Byte).extractLsb' 0 2 = b.extractLsb' 0 2 ∧ (a ++ b : Byte).getLsbD 7 = a.getLsbD 3 := by
  revert a b; decide +kernel

@[simp] theorem reg4_hi_lo (r : Reg) : reg4 r.hi r.lo = r := by revert r; decide

theorem lo_toNat (r : Reg) : r.lo.toNat = r.val % 8 := by revert r; decide

theorem hi_of_names {r : Reg} (h : Mode.mode32.names r = true) : r.hi = false := by revert r; decide

/-! ### ModRM, SIB and displacement read back -/

theorem parseDisp32_le32 (d : BitVec 32) (rest : List Byte) : parseDisp32 (le32 d ++ rest) = some (d, rest) := by
  have value : d.extractLsb' 24 8 ++ d.extractLsb' 16 8 ++ d.extractLsb' 8 8 ++ d.extractLsb' 0 8 = d := by
    ext k hk
    simp only [BitVec.getElem_append, BitVec.getElem_extractLsb']
    split_ifs <;> (rw [BitVec.getLsbD_eq_getElem (by omega)]; congr 1; omega)
  simp [le32, parseDisp32, value]

theorem parseDisp_bytes (d : Disp) (rest : List Byte) : parseDisp d.mod (d.bytes ++ rest) = some (d, rest) := by
  cases d with
  | none => rfl
  | d8 d => rfl
  | d32 d => simp [parseDisp, Disp.mod, Disp.bytes, parseDisp32_le32]

theorem mod_ne_three (d : Disp) : d.mod ≠ 3 := by cases d <;> simp [Disp.mod]

theorem mod_eq_zero_iff (d : Disp) : d.mod = 0 ↔ d.absent = true := by cases d <;> simp [Disp.mod, Disp.absent]

/-- The index that a SIB byte says: 4 is none (30_encoding.md R122). -/
theorem index_of_indexField {m : Mode} {i : Option Reg} (h : indexWf m i = true) :
    (if indexField i = 4 then none else some (indexField i)) = i := by
  cases i with
  | none => rfl
  | some r =>
    simp only [indexWf, Bool.and_eq_true, bne_iff_ne] at h
    obtain ⟨-, four⟩ := h
    simp [indexField, four]

/-- An operand that the mode can encode is read back from its bytes. -/
theorem parseMem_encoding {m : Mode} {a : MemOp} (wf : a.wf m = true) (rest : List Byte) :
    (RegMem.mem a).encoding.mod ≠ 3 ∧
      parseMem m (RegMem.mem a).encoding.mod (RegMem.mem a).encoding.rm (RegMem.mem a).encoding.x (RegMem.mem a).encoding.b
        ((RegMem.mem a).encoding.tail ++ rest) = some (a, rest) := by
  -- Without a displacement, low bits 5 would say something else than a base (R121, R122).
  have five {b : Reg} {d : Disp} (base : d.absent = false ∨ b.val % 8 ≠ 5) : ¬ (d.mod = 0 ∧ b.lo = 5) := fun ⟨zero, lo⟩ => by
    have low := lo_toNat b
    rw [lo] at low
    exact base.elim (by simp [(mod_eq_zero_iff d).mp zero]) (absurd low.symm)
  cases a with
  | direct a => cases wf
  | rip d =>
    obtain rfl : m = .mode64 := beq_iff_eq.mp wf
    simp [RegMem.encoding, parseMem, parseDisp32_le32]
  | abs d =>
    obtain rfl : m = .mode32 := beq_iff_eq.mp wf
    simp [RegMem.encoding, parseMem, parseDisp32_le32]
  | base b d =>
    simp only [MemOp.wf, Bool.and_eq_true, Bool.or_eq_true, Bool.not_eq_true', bne_iff_ne] at wf
    obtain ⟨⟨-, four⟩, base⟩ := wf
    have noSib : b.lo ≠ 4 := fun lo => four (by rw [← lo_toNat, lo]; rfl)
    simp only [RegMem.encoding, parseMem, noSib, five base, parseDisp_bytes, reg4_hi_lo, if_false]
    exact ⟨mod_ne_three d, trivial⟩
  | sib b s i d =>
    simp only [MemOp.wf, Bool.and_eq_true, Bool.or_eq_true, Bool.not_eq_true', bne_iff_ne] at wf
    obtain ⟨⟨-, index⟩, base⟩ := wf
    obtain ⟨hs, hi, hb⟩ := fields_233 s (indexField i).lo b.lo
    simp only [RegMem.encoding, parseMem, List.cons_append, parseSib, hs, hi, hb, five base, reg4_hi_lo,
      index_of_indexField index, parseDisp_bytes]
    exact ⟨mod_ne_three d, by simp⟩
  | sibNoBase s i d =>
    obtain ⟨hs, hi, hb⟩ := fields_233 s (indexField i).lo 5
    simp only [RegMem.encoding, parseMem, List.cons_append, parseSib, hs, hi, hb, reg4_hi_lo, index_of_indexField wf,
      parseDisp32_le32]
    simp

theorem parseModRM_encoding {m : Mode} {rm : RegMem} (wf : rm.wf m = true) (reg : BitVec 3) (rest : List Byte) :
    parseModRM m rm.encoding.x rm.encoding.b
      ((rm.encoding.mod ++ reg ++ rm.encoding.rm : Byte) :: (rm.encoding.tail ++ rest)) = some (reg, rm, rest) := by
  obtain ⟨hm, hr, hb⟩ := fields_233 rm.encoding.mod reg rm.encoding.rm
  cases rm with
  | reg r =>
    simp only [parseModRM, hm, hr, hb]
    simp [RegMem.encoding]
  | mem a =>
    obtain ⟨isMem, read⟩ := parseMem_encoding wf rest
    simp only [parseModRM, hm, hr, hb, isMem, read, if_false]

/-- In Mode32 an operand needs no extension bits (30_encoding.md R118). -/
theorem encoding_bits_mode32 {rm : RegMem} (wf : rm.wf .mode32 = true) : rm.encoding.x = false ∧ rm.encoding.b = false := by
  have index {i : Option Reg} (h : indexWf .mode32 i = true) : (indexField i).hi = false := by
    cases i with
    | none => rfl
    | some r => exact hi_of_names (Bool.and_eq_true_iff.mp h).1
  cases rm with
  | reg r => exact ⟨rfl, hi_of_names wf⟩
  | mem a =>
    cases a with
    | direct a | rip d | abs d => exact ⟨rfl, rfl⟩
    | base b d =>
      simp only [RegMem.wf, MemOp.wf, Bool.and_eq_true] at wf
      obtain ⟨⟨base, -⟩, -⟩ := wf
      exact ⟨rfl, hi_of_names base⟩
    | sib b s i d =>
      simp only [RegMem.wf, MemOp.wf, Bool.and_eq_true] at wf
      obtain ⟨⟨base, indexed⟩, -⟩ := wf
      exact ⟨index indexed, hi_of_names base⟩
    | sibNoBase s i d => exact ⟨index wf, rfl⟩

/-- The value of the trailing byte, 0 where there is none. -/
def ImmReq.byte (q : ImmReq) (o : Operands) : Byte :=
  match q with
  | .none => 0
  | .ib => o.imm
  | .is4 => o.is4.bits ++ o.imm.extractLsb' 0 4

theorem parseImm_immBytes (q : ImmReq) (o : Operands) (rest : List Byte) :
    parseImm q (immBytes q o ++ rest) = some (q.byte o, rest) := by cases q <;> rfl

/-! ### From the opcode on -/

/-- What the bytes of a row from its opcode on are made of: `f` is one of the rows that the bytes up to the opcode leave,
and the ModRM byte says `reg` and an operand `rm` that the mode can encode, with the extension bits of `p`. -/
structure OpcodeBytes (m : Mode) (gate : Bool) (p : Prefix) (f : Form) (reg : BitVec 3) (rm : RegMem) : Prop where
  rows : candidates p f.row.op = f.rivals
  admitted : f.row.gated = true → gate = true
  x : p.x = rm.encoding.x
  b : p.b = rm.encoding.b
  wf : rm.wf m = true
  bare : f.row.enc = .none → reg = 0 ∧ rm = .reg 0

section
variable {m : Mode} {gate : Bool} {p : Prefix} {f : Form} {reg : BitVec 3} {rm : RegMem}

theorem isEmpty_opcodeRows (rows : candidates p f.row.op = f.rivals) :
    (opcodeRows p.legacy p.map f.row.op).isEmpty = false :=
  isEmpty_of_mem (List.mem_of_mem_filter (rows ▸ self_mem_rivals f))

/-- The rivals agree on the gate. -/
theorem any_gated_rivals (f : Form) : f.rivals.any (fun g => g.row.gated) = f.row.gated := by
  refine Bool.eq_iff_iff.mpr (List.any_eq_true.trans ⟨fun ⟨g, h, gated⟩ => ?_, fun gated => ⟨f, self_mem_rivals f, gated⟩⟩)
  obtain ⟨same, -, -⟩ := alike_of_rivals (mem_rivals.mp h)
  exact same ▸ gated

/-- The rivals agree on having a ModRM byte. -/
theorem all_bare_rivals (f : Form) : f.rivals.all (fun g => g.row.enc == .none) = (f.row.enc == .none) := by
  refine Bool.eq_iff_iff.mpr (List.all_eq_true.trans ⟨fun h => h f (self_mem_rivals f), fun bare g h => ?_⟩)
  obtain ⟨-, same, -⟩ := alike_of_rivals (mem_rivals.mp h)
  exact beq_iff_eq.mpr (same.mp (beq_iff_eq.mp bare))

/-- A gated row is refused at its opcode (30_encoding.md R126 j, R131). -/
theorem decodeBody_gated (rows : candidates p f.row.op = f.rivals) (gated : f.row.gated = true) (total : Nat)
    (t : List Byte) : decodeBody m false p total (f.row.op :: t) = .refused .fmaGated := by
  simp only [decodeBody, isEmpty_opcodeRows rows, rows, isEmpty_of_mem (self_mem_rivals f), any_gated_rivals, gated]
  rfl

theorem OpcodeBytes.closed (h : OpcodeBytes m gate p f reg rm) : (f.row.gated && !gate) = false := by
  cases gated : f.row.gated
  · rfl
  · rw [h.admitted gated]; rfl

theorem OpcodeBytes.parseModRM (h : OpcodeBytes m gate p f reg rm) (u : List Byte) : parseModRM m p.x p.b
    ((rm.encoding.mod ++ reg ++ rm.encoding.rm : Byte) :: (rm.encoding.tail ++ u)) = some (reg, rm, u) := by
  rw [h.x, h.b, parseModRM_encoding h.wf]

/-- The decoder chooses a row by the fields of the ModRM byte, and reads its trailing byte. -/
theorem decodeBody_of_select_some (h : OpcodeBytes m gate p f reg rm) {u rest : List Byte} {imm : Byte} (total : Nat)
    (chosen : select f.rivals p.l p.w rm.isReg reg = some f)
    (trailing : parseImm f.row.imm u = some (imm, rest)) :
    decodeBody m gate p total (f.row.op :: (modRMBytes f.row.enc reg rm.encoding ++ u)) =
      finishDecode m f p reg rm imm (total - rest.length) := by
  simp only [decodeBody, isEmpty_opcodeRows h.rows, h.rows, isEmpty_of_mem (self_mem_rivals f), any_gated_rivals,
    all_bare_rivals, h.closed, modRMBytes]
  cases bare : f.row.enc == .none
  · simp [h.parseModRM, chosen, trailing]
  · obtain ⟨rfl, rfl⟩ := h.bare (beq_iff_eq.mp bare)
    obtain ⟨-, -, none⟩ := of_no_modRM (beq_iff_eq.mp bare)
    rw [none] at trailing
    cases trailing
    rw [RegMem.isReg] at chosen
    simp only [chosen, if_true]
    rfl

/-- Where no row has the fields of the ModRM byte, the decoder says why. -/
theorem decodeBody_of_select_none (h : OpcodeBytes m gate p f reg rm) (u : List Byte) (total : Nat)
    (unchosen : select f.rivals p.l p.w rm.isReg reg = none) :
    decodeBody m gate p total (f.row.op :: (modRMBytes f.row.enc reg rm.encoding ++ u)) =
      misfit f.rivals p.l p.w reg := by
  simp only [decodeBody, isEmpty_opcodeRows h.rows, h.rows, isEmpty_of_mem (self_mem_rivals f), any_gated_rivals,
    all_bare_rivals, h.closed, modRMBytes]
  cases bare : f.row.enc == .none
  · simp [h.parseModRM, unchosen]
  · obtain ⟨rfl, rfl⟩ := h.bare (beq_iff_eq.mp bare)
    rw [RegMem.isReg] at unchosen
    simp only [unchosen, if_true]
    rfl

end

/-! ### The bytes before the opcode -/

@[simp] theorem mapOf_bits (map : OpMap) : mapOf map.bits = some map := by cases map <;> rfl

@[simp] theorem ppOf_bits (pp : Pp) : ppOf pp.bits = pp := by cases pp <;> rfl

/-- The three bytes of VEX are read back (30_encoding.md R113). -/
theorem decodeFields_vexPrefix {m : Mode} {fma4 : Bool} {p : Prefix} (fits : p.Fits m) (vex : p.legacy = false)
    (body : List Byte) :
    decodeFields m fma4 (vexPrefix p.r p.x p.b p.w p.v p.l p.pp p.map ++ body) =
      decodeBody m fma4 p (vexPrefix p.r p.x p.b p.w p.v p.l p.pp p.map ++ body).length body := by
  obtain ⟨r, x, b, w, v, l, pp, map, legacy⟩ := p
  obtain ⟨hr, hx, hb, hv⟩ := fits
  subst vex
  obtain ⟨r1, x1, b1, map1, ones⟩ := fields_vex1 (!r) (!x) (!b) map.bits
  obtain ⟨w2, top2, v2, l2, pp2⟩ := fields_vex2 w (~~~v) l pp.bits
  have les : (m == .mode32 &&
      (BitVec.ofBool (!r) ++ BitVec.ofBool (!x) ++ BitVec.ofBool (!b) ++ map.bits : Byte).extractLsb' 5 3 != 7) = false := by
    cases m
    · rw [ones (by simpa using hr) (by simpa using hx) (by simpa using hb)]
      rfl
    · rfl
  have high : (m == .mode32 && !(~~~v).getLsbD 3) = false := by
    cases m
    · simpa using hv
    · rfl
  simp only [vexPrefix, List.cons_append, List.nil_append, decodeFields, decodeVex3, les, high, r1, x1, b1, map1, w2, top2,
    v2, l2, pp2, mapOf_bits, ppOf_bits]
  simp

/-- A REX byte (30_encoding.md R125). -/
def rexByte (r x b : Bool) : Byte :=
  (0x4 : BitVec 4) ++ (0 : BitVec 1) ++ BitVec.ofBool r ++ BitVec.ofBool x ++ BitVec.ofBool b

theorem fields_rexByte (r x b : Bool) : (rexByte r x b).getLsbD 2 = r ∧ (rexByte r x b).getLsbD 1 = x ∧
    (rexByte r x b).getLsbD 0 = b ∧ isRex .mode64 (rexByte r x b) = true ∧ rexByte r x b ≠ 0xC4 ∧ rexByte r x b ≠ 0xC5 := by
  revert r x b; decide

/-- The bytes of a legacy instruction before its escape bytes: 66, and a REX byte if an extension bit is set (30_encoding.md
R125). -/
def legacyPrefix (r x b : Bool) : List Byte := 0x66 :: if r || x || b then [rexByte r x b] else []

theorem startsVex_of_ne {m : Mode} {c : Byte} (h4 : c ≠ 0xC4) (h5 : c ≠ 0xC5) (t : List Byte) :
    startsVex m (c :: t) = some false := by
  simp only [startsVex, h4, h5, or_self, if_false]

theorem decodeFields_66 (m : Mode) (fma4 : Bool) (bs : List Byte) :
    decodeFields m fma4 (0x66 :: bs) = decodeLegacy m (bs.length + 1) bs := rfl

/-- The legacy bytes are read back, where an escape byte follows. -/
theorem decodeFields_legacyPrefix {m : Mode} {fma4 : Bool} {r x b : Bool} (fits : m = .mode32 → (r || x || b) = false)
    (t : List Byte) : decodeFields m fma4 (legacyPrefix r x b ++ 0x0F :: t) =
      decodeLegacyOp m r x b (legacyPrefix r x b ++ 0x0F :: t).length (0x0F :: t) := by
  have noVex : startsVex m (0x0F :: t) = some false := startsVex_of_ne (by decide) (by decide) t
  have noRex : isRex m 0x0F = false := by cases m <;> decide
  rw [legacyPrefix, List.cons_append, decodeFields_66]
  cases rex : r || x || b
  · simp only [Bool.or_eq_false_iff] at rex
    obtain ⟨⟨rfl, rfl⟩, rfl⟩ := rex
    simp only [Bool.false_eq_true, if_false, List.nil_append, decodeLegacy, noVex, noRex, List.length_cons]
  · cases m
    · exact absurd rex (by simp [fits rfl])
    · obtain ⟨hr, hx, hb, isRexByte, c4, c5⟩ := fields_rexByte r x b
      simp only [if_true, List.singleton_append, decodeLegacy, startsVex_of_ne c4 c5, isRexByte, noVex, hr, hx, hb,
        List.length_cons]

/-- The escape bytes are read back (30_encoding.md R125). -/
theorem decodeLegacyOp_escape {m : Mode} {p : Prefix} (w : p.w = false) (v : p.v = 0) (l : p.l = false) (pp : p.pp = .p66)
    (map : p.map ≠ .m0F) (legacy : p.legacy = true) (total : Nat) (body : List Byte) :
    decodeLegacyOp m p.r p.x p.b total (p.map.escape ++ body) = decodeBody m true p total body := by
  obtain ⟨r, x, b, _, _, _, _, map', _⟩ := p
  subst w v l pp legacy
  cases map' with
  | m0F => exact absurd rfl map
  | m0F38 => rfl
  | m0F3A => rfl

theorem escape_append (map : OpMap) (body : List Byte) : ∃ t, map.escape ++ body = 0x0F :: t := by
  cases map <;> exact ⟨_, rfl⟩

/-! ### The encoding of a row -/

/-- The fields that the encoder writes before the opcode. -/
def Row.prefixOf (q : Row) (o : Operands) : Prefix :=
  { r := o.reg.hi, x := o.rm.encoding.x, b := o.rm.encoding.b, w := q.w.bit, v := o.v.bits, l := q.len.bit, pp := q.pp,
    map := q.map, legacy := q.len == .leg }

/-- The bits of ModRM.reg that the encoder writes. -/
def Row.regField (q : Row) (o : Operands) : BitVec 3 := q.ext.getD o.reg.lo

/-- The bytes of a row from its opcode on, and `rest` after them. -/
def Row.bodyBytes (q : Row) (o : Operands) (rest : List Byte) : List Byte :=
  q.op :: (modRMBytes q.enc (q.regField o) o.rm.encoding ++ (immBytes q.imm o ++ rest))

/-- The operand fields can be written in the mode under a row of this form. -/
structure Operands.Writable (m : Mode) (f : Form) (o : Operands) : Prop where
  reg : m.names o.reg = true
  v : m.names o.v = true
  rm : o.rm.wf m = true
  bare : f.row.enc = .none → o.reg = 0 ∧ o.rm = .reg 0
  legacy : f.row.len = .leg → o.v = 0

section
variable {m : Mode} {fma4 : Bool} {f : Form} {o : Operands}

theorem prefixOf_fits (h : o.Writable m f) (q : Row) : (q.prefixOf o).Fits m where
  r mode := hi_of_names (mode ▸ h.reg)
  x mode := (encoding_bits_mode32 (mode ▸ h.rm)).1
  b mode := (encoding_bits_mode32 (mode ▸ h.rm)).2
  v mode := hi_of_names (mode ▸ h.v)

/-- The bytes of a row are read back up to its opcode, for a VEX row with any L and W. -/
theorem decodeFields_encodeRow (h : o.Writable m f) (len : LenReq) (w : WReq)
    (legacy : len = .leg → len = f.row.len ∧ w = f.row.w) (rest : List Byte) :
    decodeFields m fma4 (encodeRow { f.row with len := len, w := w } o ++ rest) =
      decodeBody m (fma4 || len == .leg) (Row.prefixOf { f.row with len := len, w := w } o)
        (encodeRow { f.row with len := len, w := w } o ++ rest).length
        (f.row.bodyBytes o rest) := by
  have fits := prefixOf_fits h { f.row with len := len, w := w }
  cases leg : len == .leg
  · have bytes : encodeRow { f.row with len := len, w := w } o ++ rest =
        vexPrefix o.reg.hi o.rm.encoding.x o.rm.encoding.b w.bit o.v.bits len.bit f.row.pp f.row.map ++
          f.row.bodyBytes o rest := by
      simp [encodeRow, leg, Row.bodyBytes, Row.regField]
    rw [bytes, Bool.or_false]
    exact decodeFields_vexPrefix fits leg _
  · obtain rfl := beq_iff_eq.mp leg
    obtain ⟨isLegacy, rfl⟩ := legacy rfl
    obtain ⟨map, pp, wig, -⟩ := of_legacy isLegacy.symm
    have bytes : encodeRow { f.row with len := .leg, w := f.row.w } o ++ rest =
        legacyPrefix o.reg.hi o.rm.encoding.x o.rm.encoding.b ++ (f.row.map.escape ++ f.row.bodyBytes o rest) := by
      simp [encodeRow, Row.bodyBytes, Row.regField, legacyPrefix, rexByte]
    have low : m = .mode32 → (o.reg.hi || o.rm.encoding.x || o.rm.encoding.b) = false := fun mode => by
      simpa using ⟨⟨fits.r mode, fits.x mode⟩, fits.b mode⟩
    obtain ⟨t, first⟩ := escape_append f.row.map (f.row.bodyBytes o rest)
    rw [bytes, first, decodeFields_legacyPrefix low, Bool.or_true, ← first]
    refine decodeLegacyOp_escape (p := Row.prefixOf { f.row with len := .leg, w := f.row.w } o) ?w ?v rfl pp map rfl _ _
    case w => simp [Row.prefixOf, wig, WReq.bit]
    case v => simp [Row.prefixOf, h.legacy isLegacy.symm, Reg.bits]

theorem opcodeBytes_of_writable (h : o.Writable m f) (admitted : f.row.gated = true → fma4 = true) {len : LenReq}
    (same : (len == .leg) = (f.row.len == .leg)) (w : WReq) :
    OpcodeBytes m (fma4 || len == .leg) (Row.prefixOf { f.row with len := len, w := w } o) f (f.row.regField o) o.rm where
  rows := candidates_eq_rivals rfl rfl same
  admitted gated := by rw [admitted gated, Bool.true_or]
  x := rfl
  b := rfl
  wf := h.rm
  bare enc := by
    obtain ⟨reg, rm⟩ := h.bare enc
    obtain ⟨ext, -, -⟩ := of_no_modRM enc
    exact ⟨by rw [Row.regField, ext, reg]; rfl, rm⟩

theorem extAccepts_regField (q : Row) (o : Operands) : extAccepts q.ext (q.regField o) = true := by
  unfold Row.regField
  cases q.ext <;> simp [extAccepts]

theorem accepts_length_bit (q : LenReq) : q.accepts q.bit = true := by cases q <;> rfl

theorem accepts_width_bit (q : WReq) : q.accepts q.bit = true := by cases q <;> rfl

/-- The bytes of a row with an operand of its kind are read back to the row. -/
theorem decodeFields_row (h : o.Writable m f) (admitted : f.row.gated = true → fma4 = true)
    (kind : f.row.mod.accepts o.rm.isReg = true) (rest : List Byte) :
    decodeFields m fma4 (encodeRow f.row o ++ rest) = finishDecode m f (f.row.prefixOf o) (f.row.regField o) o.rm
      (f.row.imm.byte o) (encodeRow f.row o).length := by
  have accepts : f.row.accepts f.row.len.bit f.row.w.bit o.rm.isReg (f.row.regField o) = true := by
    simp only [Row.accepts, accepts_length_bit, accepts_width_bit, kind, extAccepts_regField, Bool.and_self]
  have length : (encodeRow f.row o ++ rest).length - rest.length = (encodeRow f.row o).length := by
    rw [List.length_append, Nat.add_sub_cancel]
  rw [← length]
  exact (decodeFields_encodeRow h f.row.len f.row.w (fun _ => ⟨rfl, rfl⟩) rest).trans
    (decodeBody_of_select_some (opcodeBytes_of_writable h admitted rfl f.row.w) _ (select_eq_some accepts)
      (parseImm_immBytes f.row.imm o rest))

/-- Where no rival accepts the bits written, the decoder says why. -/
theorem decodeFields_misfit (h : o.Writable m f) (admitted : f.row.gated = true → fma4 = true) (vex : f.row.len ≠ .leg)
    {len : LenReq} (vex' : len ≠ .leg) (w : WReq)
    (none : ∀ g ∈ f.rivals, g.row.accepts len.bit w.bit o.rm.isReg (f.row.regField o) = false) (rest : List Byte) :
    decodeFields m fma4 (encodeRow { f.row with len := len, w := w } o ++ rest) =
      misfit f.rivals len.bit w.bit (f.row.regField o) := by
  have same : (len == .leg) = (f.row.len == .leg) := by rw [beq_eq_false_iff_ne.mpr vex, beq_eq_false_iff_ne.mpr vex']
  exact (decodeFields_encodeRow h len w (absurd · vex') rest).trans
    (decodeBody_of_select_none (opcodeBytes_of_writable h admitted same w) _ _ (select_eq_none none))

end

/-! ### The fields that an instruction is read back from -/

/-- The row and the operand fields make the instruction again; only the fifth operand, two bits in a byte (30_encoding.md R124),
does not come back by definition. -/
theorem build_operands (i : Instr) : i.form.build i.operands = i := by
  cases i
  case vpermil2psX => exact (Laws.TableRow.vpermil2psX ..).1
  case vpermil2psXW1 => exact (Laws.TableRow.vpermil2psXW1 ..).1
  case vpermil2psY => exact (Laws.TableRow.vpermil2psY ..).1
  case vpermil2psYW1 => exact (Laws.TableRow.vpermil2psYW1 ..).1
  case vpermil2pdX => exact (Laws.TableRow.vpermil2pdX ..).1
  case vpermil2pdXW1 => exact (Laws.TableRow.vpermil2pdXW1 ..).1
  case vpermil2pdY => exact (Laws.TableRow.vpermil2pdY ..).1
  case vpermil2pdYW1 => exact (Laws.TableRow.vpermil2pdYW1 ..).1
  all_goals rfl

/-- An instruction has no operand fields but those that its row has a place for. -/
theorem kept_operands (i : Instr) : i.form.row.kept i.operands = i.operands := by
  rw [← operands_build, build_operands]

/-- An instruction is its row with the operand fields that the row has a place for. -/
theorem build_eq_of_kept {i : Instr} {o : Operands} (h : i.form.row.kept o = i.operands) : i.form.build o = i := by
  rw [← build_operands (i.form.build o), form_build, operands_build, h, build_operands]

theorem v_eq_zero (i : Instr) (h : i.form.row.enc.usesV = false) : i.operands.v = 0 := by
  rw [← kept_operands]; simp [Row.kept, h]

theorem accepts_restrict (q : ModReq) (b : RegMem) : q.accepts (q.restrict b).isReg = true := by cases q <;> rfl

/-- The row of an instruction admits the kind of its ModRM.rm operand (30_encoding.md R119). -/
theorem accepts_operand (i : Instr) : i.form.row.mod.accepts i.operands.rm.isReg = true := by
  rw [← kept_operands]
  by_cases bare : i.form.row.enc = .none
  · obtain ⟨-, any, -⟩ := of_no_modRM bare
    rw [any]; rfl
  · simp only [Row.kept, bare, if_false, accepts_restrict]

theorem writable_of_wf {m : Mode} {i : Instr} (h : i.wf m = true) : i.operands.Writable m i.form := by
  simp only [Instr.wf, Bool.and_eq_true] at h
  obtain ⟨⟨⟨⟨reg, v⟩, rm⟩, -⟩, -⟩ := h
  refine ⟨reg, v, rm, ?bare, ?legacy⟩
  case bare =>
    intro bare
    rw [← kept_operands]
    simp [Row.kept, bare, OpEnc.usesReg]
  case legacy =>
    intro legacy
    obtain ⟨-, -, -, unused⟩ := of_legacy legacy
    exact v_eq_zero i unused

/-- What is read back from the encoding of a row is what the row has a place for. -/
theorem kept_fieldsOf (f : Form) (o : Operands) : f.row.kept (fieldsOf f (f.row.prefixOf o) (f.row.regField o) o.rm
    (f.row.imm.byte o)) = f.row.kept o := by
  have reg : f.row.enc.usesReg = true → reg4 o.reg.hi (f.row.regField o) = o.reg := fun used => by
    rw [Row.regField, ext_of_usesReg used]; exact reg4_hi_lo o.reg
  obtain ⟨hi, low, -⟩ := fields_is4 o.is4.bits (o.imm.extractLsb' 0 4)
  have fifth : (((o.imm.extractLsb' 0 4).extractLsb' 0 2).setWidth 8).setWidth 2 = o.imm.setWidth 2 := by
    ext k hk; simp
  simp only [Row.kept, fieldsOf_reg, fieldsOf_v, fieldsOf_rm, Operands.mk.injEq, and_true, true_and]
  refine ⟨?reg, rfl, ?is4, ?imm⟩
  case reg =>
    split
    next used => exact reg used
    next => rfl
  case is4 =>
    split
    next is4 => rw [fieldsOf_is4 _ _ _ _ _ is4, is4, ImmReq.byte, hi]; rfl
    next => rfl
  case imm =>
    cases kind : f.row.imm with
    | none => rfl
    | ib => simp only [fieldsOf, kind, ImmReq.byte]
    | is4 => simp only [fieldsOf, kind, ImmReq.byte, low, fifth]

/-- The checks on a chosen row find nothing in a well-formed instruction. -/
theorem finishDecode_of_wf {m : Mode} {i : Instr} (wf : i.wf m = true) (len : Nat) :
    finishDecode m i.form (i.form.row.prefixOf i.operands) (i.form.row.regField i.operands) i.operands.rm
      (i.form.row.imm.byte i.operands) len =
    .ok ⟨i.form, fieldsOf i.form (i.form.row.prefixOf i.operands) (i.form.row.regField i.operands) i.operands.rm
      (i.form.row.imm.byte i.operands)⟩ len := by
  simp only [Instr.wf, Bool.and_eq_true] at wf
  obtain ⟨⟨-, is4⟩, wide⟩ := wf
  have noV : (!i.form.row.enc.usesV && (i.form.row.prefixOf i.operands).v != 0) = false := by
    cases uses : i.form.row.enc.usesV
    · simp [Row.prefixOf, v_eq_zero i uses, Reg.bits]
    · rfl
  have narrow : (i.form.row.wide && m == .mode32) = false := by
    have same : i.operands.wide = i.form.row.wide := by rw [← kept_operands]; rfl
    cases m
    · simpa [same] using wide
    · simp
  have low : (i.form.row.imm == .is4 && m == .mode32 && (i.form.row.imm.byte i.operands).getLsbD 7) = false := by
    obtain ⟨-, -, top⟩ := fields_is4 i.operands.is4.bits (i.operands.imm.extractLsb' 0 4)
    cases m
    · cases kind : i.form.row.imm with
      | none | ib => rfl
      | is4 => rw [ImmReq.byte, top]; exact hi_of_names is4
    · simp
  simp only [finishDecode, noV, narrow, low, Bool.false_eq_true, if_false]

theorem decode_encode {m : Mode} {fma4 : Bool} {i : Instr} (wf : i.wf m = true)
    (admitted : i.form.row.gated = true → fma4 = true) (rest : List Byte) :
    decode m fma4 (encode i ++ rest) = .ok i (encode i).length := by
  have fields := decodeFields_row (writable_of_wf wf) admitted (accepts_operand i) rest
  rw [finishDecode_of_wf wf] at fields
  have back := build_eq_of_kept ((kept_fieldsOf i.form i.operands).trans (kept_operands i))
  simp only [decode, encode, fields, back]

/-- Settles O3: each part of the encoding is read back, and the row is the only one that the bits choose. -/
theorem decodeOfEncode : Obligations.DecodeOfEncode := fun _ _ _ rest wf admitted => decode_encode wf admitted rest

end Sys2Proof

/-! The other answers of the decoder: the short VEX form, the illegal and the reserved encodings (30_encoding.md R113,
R126, R131). -/

namespace Sys2Proof

/-! ### The two spellings of the VEX bytes -/

/-- The same answer for bytes that are one longer. -/
def DecodeResult.later {α : Type} : DecodeResult α → DecodeResult α
  | .ok i len => .ok i (len + 1)
  | .ud => .ud
  | .refused why => .refused why
  | .more => .more

theorem later_eq_ok {α : Type} {r : DecodeResult α} {i : α} {len : Nat} : r.later = .ok i (len + 1) ↔ r = .ok i len := by
  cases r <;> simp [DecodeResult.later]

theorem finishDecode_succ (m : Mode) (f : Form) (p : Prefix) (reg : BitVec 3) (rm : RegMem) (imm : Byte) (n : Nat) :
    finishDecode m f p reg rm imm (n + 1) = (finishDecode m f p reg rm imm n).later := by
  unfold finishDecode
  repeat' split
  all_goals rfl

theorem later_misfit (cs : List Form) (l w : Bool) (reg : BitVec 3) : (misfit cs l w reg).later = misfit cs l w reg := by
  cases h : misfit cs l w reg with
  | ok e len => exact absurd h misfit_ne_ok
  | ud | refused | more => rfl

/-- One more byte before the opcode adds one to the length. -/
theorem decodeBody_succ {m : Mode} {gate : Bool} {p : Prefix} (hx : p.x = false) (hb : p.b = false) {total : Nat}
    {body : List Byte} (inside : body.length ≤ total) :
    decodeBody m gate p (total + 1) body = (decodeBody m gate p total body).later := by
  cases body with
  | nil => rfl
  | cons op t =>
    rw [List.length_cons] at inside
    have after {rest : List Byte} (short : rest.length ≤ t.length) : total + 1 - rest.length = total - rest.length + 1 := by
      omega
    simp only [decodeBody]
    split
    next => rfl
    split
    next => rfl
    split
    next => rfl
    split
    next =>
      cases select (candidates p op) p.l p.w true 0 with
      | none => exact (later_misfit ..).symm
      | some f => simp only [after le_rfl, finishDecode_succ]
    next =>
      cases modRM : parseModRM m p.x p.b t with
      | none => rfl
      | some read =>
        obtain ⟨reg, rm, u⟩ := read
        obtain ⟨-, short, -⟩ := of_parseModRM (fun _ => hx) (fun _ => hb) modRM
        cases chosen : select (candidates p op) p.l p.w rm.isReg reg with
        | none => simp only [chosen, later_misfit]
        | some f =>
          cases trailing : parseImm f.row.imm u with
          | none => simp only [chosen, trailing]; rfl
          | some read =>
            obtain ⟨imm, rest⟩ := read
            obtain ⟨short', -⟩ := of_parseImm trailing
            simp only [chosen, trailing, after (rest := rest) (by omega), finishDecode_succ]

/-- The bytes after C4 that stand for the byte after C5 (30_encoding.md R113). -/
theorem fields_long (c : Byte) :
    let c1 : Byte := c.extractLsb' 7 1 ++ (0b1100001 : BitVec 7)
    let c2 : Byte := (0 : BitVec 1) ++ c.extractLsb' 0 7
    (c1.extractLsb' 5 3 != 7 || !c2.getLsbD 6) = (c.extractLsb' 6 2 != 3) ∧ c1.getLsbD 7 = c.getLsbD 7 ∧
      c1.getLsbD 6 = true ∧ c1.getLsbD 5 = true ∧ c1.extractLsb' 0 5 = 1 ∧ c2.getLsbD 7 = false ∧
      c2.extractLsb' 3 4 = c.extractLsb' 3 4 ∧ c2.getLsbD 2 = c.getLsbD 2 ∧
      c2.extractLsb' 0 2 = c.extractLsb' 0 2 := by
  revert c; decide +kernel

/-- The two spellings have the same answer, one byte later (30_encoding.md R113). -/
theorem decodeFields_long (m : Mode) (fma4 : Bool) (c : Byte) (rest : List Byte) :
    decodeFields m fma4 (0xC4 :: (c.extractLsb' 7 1 ++ (0b1100001 : BitVec 7) : Byte) ::
      ((0 : BitVec 1) ++ c.extractLsb' 0 7 : Byte) :: rest) = (decodeFields m fma4 (0xC5 :: c :: rest)).later := by
  obtain ⟨mode32, r, x, b, map, w, v, l, pp⟩ := fields_long c
  have short : decodeFields m fma4 (0xC5 :: c :: rest) = decodeVex2 m fma4 (rest.length + 2) (c :: rest) := rfl
  have long (c1 c2 : Byte) : decodeFields m fma4 (0xC4 :: c1 :: c2 :: rest) =
      decodeVex3 m fma4 (rest.length + 3) (c1 :: c2 :: rest) := rfl
  rw [short, long]
  have body := @decodeBody_succ m fma4
    { r := !c.getLsbD 7, x := false, b := false, w := false, v := ~~~(c.extractLsb' 3 4), l := c.getLsbD 2,
      pp := ppOf (c.extractLsb' 0 2), map := .m0F, legacy := false } rfl rfl (rest.length + 2) rest (by omega)
  have map0F : mapOf 1 = some .m0F := rfl
  simp only [decodeVex2, decodeVex3, ← mode32, r, x, b, map, map0F, w, v, l, pp, Bool.not_true, body]
  cases m
  · cases h5 : (c.extractLsb' 7 1 ++ (0b1100001 : BitVec 7) : Byte).extractLsb' 5 3 != 7
    · cases h6 : ((0 : BitVec 1) ++ c.extractLsb' 0 7 : Byte).getLsbD 6 <;> simp [DecodeResult.later]
    · simp [DecodeResult.later]
  · simp

theorem decode_eq_later {m : Mode} {fma4 : Bool} {bs bs' : List Byte}
    (h : decodeFields m fma4 bs' = (decodeFields m fma4 bs).later) : decode m fma4 bs' = (decode m fma4 bs).later := by
  simp only [decode, h]
  cases decodeFields m fma4 bs <;> rfl

/-- Settles O5: the longer bytes have the same fields, and the length counts one byte more. -/
theorem shortAndLongPrefixAgree : Obligations.ShortAndLongPrefixAgree := by
  intro m fma4 c rest i len
  rw [decode_eq_later (decodeFields_long m fma4 c rest), later_eq_ok]

/-! ### Illegal and reserved encodings -/

theorem decode_of_ud {m : Mode} {fma4 : Bool} {bs : List Byte} (h : decodeFields m fma4 bs = .ud) :
    decode m fma4 bs = .ud := by
  simp only [decode, h]

theorem decode_of_refused {m : Mode} {fma4 : Bool} {bs : List Byte} {why : Reject}
    (h : decodeFields m fma4 bs = .refused why) : decode m fma4 bs = .refused why := by
  simp only [decode, h]

/-- Case (a) of R126: a legacy byte or REX before VEX bytes. -/
theorem decode_byte_before_vex {m : Mode} {fma4 : Bool} {p : Byte} {bs : List Byte} (vex : startsVex m bs = some true)
    (h : p = 0xF0 ∨ p = 0x66 ∨ p = 0xF2 ∨ p = 0xF3 ∨ (m = .mode64 ∧ p.extractLsb' 4 4 = 4)) :
    decode m fma4 (p :: bs) = .ud := by
  have before : beforeVex m bs = .ud := by simp only [beforeVex, vex]
  have after66 : decodeLegacy m (bs.length + 1) bs = .ud := by
    cases bs with
    | nil => cases vex
    | cons c t => simp only [decodeLegacy, vex]
  apply decode_of_ud
  rcases h with rfl | rfl | rfl | rfl | ⟨rfl, rex⟩
  · exact before
  · exact after66
  · exact before
  · exact before
  · have isRex : isRex .mode64 p = true := by simp [isRex, rex]
    have others : p ≠ 0xC5 ∧ p ≠ 0xC4 ∧ p ≠ 0x66 := by
      refine ⟨?_, ?_, ?_⟩ <;> (rintro rfl; exact absurd rex (by decide))
    simp only [decodeFields, others, if_false, isRex, or_true, if_true, before]

/-- Only rows with a V operand are gated. -/
theorem not_gated_of_not_usesV {f : Form} (h : f.row.enc.usesV = false) : f.row.gated = false := by
  have table : ∀ f ∈ Form.all, f.row.enc.usesV = false → f.row.gated = false := by decide +kernel
  exact table f (Form.mem_all f) h

/-- Case (b) of R126: a register in `vvvv` where the row has none. -/
theorem decode_unused_v {m : Mode} {fma4 : Bool} {i : Instr} {v : Reg} (wf : i.wf m = true)
    (unused : i.form.row.enc.usesV = false) (vex : i.form.row.len ≠ .leg) (named : m.names v = true) (ne : v ≠ 0)
    (rest : List Byte) : decode m fma4 (encodeRow i.form.row { i.operands with v := v } ++ rest) = .ud := by
  obtain ⟨reg, -, rm, bare, -⟩ := writable_of_wf wf
  have writable : Operands.Writable m i.form { i.operands with v := v } := ⟨reg, named, rm, bare, (absurd · vex)⟩
  have ungated : i.form.row.gated = true → fma4 = true := by simp [not_gated_of_not_usesV unused]
  have used : (v.bits != 0) = true := bne_iff_ne.mpr fun zero => ne (congrArg Reg.ofBits zero)
  refine decode_of_ud ((decodeFields_row writable ungated (accepts_operand i) rest).trans ?_)
  simp only [finishDecode, unused, Row.prefixOf, used, Bool.not_false, Bool.and_self, if_true]

theorem not_accepts_of_length {g : Form} {l w isReg : Bool} {reg : BitVec 3} (h : g.row.len.accepts l = false) :
    g.row.accepts l w isReg reg = false := by simp [Row.accepts, h]

theorem not_accepts_of_width {g : Form} {l w isReg : Bool} {reg : BitVec 3} (h : g.row.w.accepts w = false) :
    g.row.accepts l w isReg reg = false := by simp [Row.accepts, h]

theorem not_accepts_of_kind {g : Form} {l w isReg : Bool} {reg : BitVec 3} (h : g.row.mod.accepts isReg = false) :
    g.row.accepts l w isReg reg = false := by simp [Row.accepts, h]

/-- No legacy row asks for a W. -/
theorem not_legacy_of_w0 {f : Form} (h : f.row.w = .w0) : f.row.len ≠ .leg := fun legacy => by
  obtain ⟨-, -, wig, -⟩ := of_legacy legacy
  rw [wig] at h
  cases h

/-- Case (c) of R126: W = 1 where the rows ask for W = 0. -/
theorem decode_reserved_w {m : Mode} {fma4 : Bool} {i : Instr} (wf : i.wf m = true)
    (admitted : i.form.row.gated = true → fma4 = true) (w0 : i.form.row.w = .w0)
    (alone : ∀ f : Form, f.row.map = i.form.row.map → f.row.op = i.form.row.op → f.row.pp = i.form.row.pp → f.row.w ≠ .w1)
    (rest : List Byte) : decode m fma4 (encodeRow { i.form.row with w := .w1 } i.operands ++ rest) = .ud := by
  have vex := not_legacy_of_w0 w0
  have width : ∀ g ∈ i.form.rivals, g.row.w.accepts true = false := fun g mem => by
    obtain ⟨op, map, pp, -⟩ := mem_rivals.mp mem
    obtain ⟨-, -, wig⟩ := alike_of_rivals (mem_rivals.mp mem)
    cases kind : g.row.w with
    | w0 => rfl
    | wig => rw [wig.mpr kind] at w0; cases w0
    | w1 => exact absurd kind (alone g map.symm op.symm pp.symm)
  refine decode_of_ud ((decodeFields_misfit (writable_of_wf wf) admitted vex vex .w1
    (fun g mem => not_accepts_of_width (width g mem)) rest).trans ?_)
  exact misfit_w (self_mem_rivals _) (extAccepts_regField _ _) (accepts_length_bit _) width

/-- A VEX row with ModRM and without gate, whose rivals accept the same kind of ModRM.rm operand and are scalar broadcasts if
it is one. -/
@[reducible] def Form.Uniform (f : Form) : Prop :=
  f.row.gated = false ∧ f.row.len ≠ .leg ∧ f.row.enc ≠ .none ∧
    ∀ g ∈ f.rivals, g.row.mod = f.row.mod ∧ g.scalarBroadcast = f.scalarBroadcast

/-- Case (d) of R126, and the register broadcasts of case (h): the wrong kind of ModRM.rm operand. -/
theorem decodeFields_wrong_kind {m : Mode} {fma4 : Bool} {f : Form} (uniform : f.Uniform) {d a : Reg} {b : RegMem}
    (hd : m.names d = true) (ha : m.names a = true) (hb : b.wf m = true) (kind : f.row.mod.accepts b.isReg = false)
    (rest : List Byte) : decodeFields m fma4 (encodeRow f.row { reg := d, v := a, rm := b } ++ rest) =
      if f.scalarBroadcast then .refused .registerBroadcast else .ud := by
  obtain ⟨ungated, vex, modRM, rivals⟩ := uniform
  have writable : Operands.Writable m f { reg := d, v := a, rm := b } := ⟨hd, ha, hb, (absurd · modRM), (absurd · vex)⟩
  exact (decodeFields_misfit writable (by simp [ungated]) vex vex f.row.w
      (fun g mem => not_accepts_of_kind ((rivals g mem).1 ▸ kind)) rest).trans
    (misfit_kind (self_mem_rivals f) (extAccepts_regField _ _) (accepts_length_bit _) (accepts_width_bit _)
      fun g mem => (rivals g mem).2)

/-- Cases (e) and (h) of R126: an L that no rival accepts. -/
theorem decodeFields_wrong_length {m : Mode} {fma4 : Bool} {i : Instr} (wf : i.wf m = true)
    (admitted : i.form.row.gated = true → fma4 = true) (vex : i.form.row.len ≠ .leg) {len : LenReq} (vex' : len ≠ .leg)
    (length : ∀ g ∈ i.form.rivals, g.row.len.accepts len.bit = false) (rest : List Byte) :
    decodeFields m fma4 (encodeRow { i.form.row with len := len } i.operands ++ rest) =
      misfit i.form.rivals len.bit i.form.row.w.bit (i.form.row.regField i.operands) :=
  decodeFields_misfit (writable_of_wf wf) admitted vex vex' _ (fun g mem => not_accepts_of_length (length g mem)) rest

/-- The register forms of case (d) of R126. -/
def registerForms : List Form :=
  [.vmovmskpsX, .vmovmskpsY, .vmovmskpdX, .vmovmskpdY, .vpsrlwImm, .vpsrawImm, .vpsllwImm, .vpsrldImm, .vpsradImm,
    .vpslldImm, .vpsrlqImm, .vpsrldq, .vpsllqImm, .vpslldq]

/-- The memory forms of case (d) of R126. -/
def memoryForms : List Form :=
  [.vmovlpdLoad, .vmovhpdLoad, .vmovlpsStore, .vmovlpdStore, .vmovhpsStore, .vmovhpdStore, .vlddquX, .vlddquY,
    .vbroadcastf128, .vmaskmovpsXLoad, .vmaskmovpsYLoad, .vmaskmovpdXLoad, .vmaskmovpdYLoad, .vmaskmovpsXStore,
    .vmaskmovpsYStore, .vmaskmovpdXStore, .vmaskmovpdYStore, .vldmxcsr, .vstmxcsr]

theorem registerForms_uniform : ∀ f ∈ registerForms, f.row.mod = .regOnly ∧ f.scalarBroadcast = false ∧ f.Uniform := by
  decide +kernel

theorem memoryForms_uniform : ∀ f ∈ memoryForms, f.row.mod = .memOnly ∧ f.scalarBroadcast = false ∧ f.Uniform := by
  decide +kernel

theorem scalarBroadcasts_uniform : ∀ f ∈ [Form.vbroadcastssX, .vbroadcastssY, .vbroadcastsd],
    f.row.mod = .memOnly ∧ f.scalarBroadcast = true ∧ f.Uniform := by
  decide +kernel

/-- The rows of the opcode are all for L = 0 by `lz`, or all for L = 256, and `l` is not the value they accept. -/
@[reducible] def Form.OneLength (f : Form) (l : Bool) : Prop :=
  f.row.gated = false ∧ f.row.len ≠ .leg ∧
    ∀ g ∈ f.rivals, (g.row.len = .lz ∨ g.row.len = .l256) ∧ g.row.len.accepts l = false

theorem oneLength_mxcsr : ∀ f ∈ [Form.vldmxcsr, .vstmxcsr], f.OneLength true := by decide +kernel

theorem oneLength_l256 : ∀ f ∈ [Form.vbroadcastsd, .vbroadcastf128, .vextractf128, .vinsertf128, .vperm2f128],
    f.OneLength false := by decide +kernel

/-- Case (e) of R126. -/
theorem decode_wrong_length {m : Mode} {fma4 : Bool} {i : Instr} (wf : i.wf m = true) {len : LenReq} (vex : len ≠ .leg)
    (one : i.form.OneLength len.bit) (rest : List Byte) :
    decode m fma4 (encodeRow { i.form.row with len := len } i.operands ++ rest) = .ud := by
  obtain ⟨ungated, vex', rivals⟩ := one
  have length : ∀ g ∈ i.form.rivals, g.row.len.accepts len.bit = false := fun g mem => (rivals g mem).2
  exact decode_of_ud ((decodeFields_wrong_length wf (by simp [ungated]) vex' vex length rest).trans
    (misfit_length_ud (self_mem_rivals _) (extAccepts_regField _ _) (fun g mem => (rivals g mem).1) length))

/-- Settles O6, case by case. -/
theorem illegalEncodingsAreUd : Obligations.IllegalEncodingsAreUd := by
  refine ⟨fun m fma4 p bs vex h => decode_byte_before_vex vex h,
    fun m fma4 i v rest wf unused vex named ne => decode_unused_v wf unused vex named ne rest,
    fun m fma4 i rest wf admitted w0 alone => decode_reserved_w wf admitted w0 alone rest, ?kind, ?length, ?map⟩
  case kind =>
    intro m fma4 f d a b mem rest hd ha hb hmem
    have v : m.names (if f.row.enc.usesV then a else 0) = true := by
      split
      next => exact ha
      next => exact names_zero m
    constructor
    · intro listed
      obtain ⟨mod, plain, uniform⟩ := registerForms_uniform f listed
      exact decode_of_ud ((decodeFields_wrong_kind uniform hd v (b := .mem mem) hmem (by rw [mod]; rfl) rest).trans
        (by rw [plain]; rfl))
    · intro listed
      obtain ⟨mod, plain, uniform⟩ := memoryForms_uniform f listed
      exact decode_of_ud ((decodeFields_wrong_kind uniform hd v (b := .reg b) hb (by rw [mod]; rfl) rest).trans
        (by rw [plain]; rfl))
  case length =>
    exact fun m fma4 i rest wf =>
      ⟨fun listed => decode_wrong_length wf (len := .l256) (by decide) (oneLength_mxcsr i.form listed) rest,
        fun listed => decode_wrong_length wf (len := .l128) (by decide) (oneLength_l256 i.form listed) rest⟩
  case map =>
    intro fma4 c1 c2 rest one two three
    have none : mapOf (c1.extractLsb' 0 5) = Option.none := by simp only [mapOf, one, two, three, if_false]
    refine decode_of_ud (show decodeVex3 .mode64 fma4 (rest.length + 3) (c1 :: c2 :: rest) = .ud from ?_)
    simp only [decodeVex3, none]
    rfl

/-- Settles O7: the length by `misfit_lengthReserved`, the broadcasts by their kind, the gate at the opcode. -/
theorem reservedEncodingsAreRefused : Obligations.ReservedEncodingsAreRefused := by
  refine ⟨?length, ?broadcast, ?gate⟩
  case length =>
    intro m fma4 i rest wf l128 admitted only
    have vex : i.form.row.len ≠ .leg := by rw [l128]; decide
    have length : ∀ g ∈ i.form.rivals, g.row.len.accepts true = false := fun g mem => by
      obtain ⟨op, map, pp, legacy⟩ := mem_rivals.mp mem
      rcases only g map.symm op.symm pp.symm with narrow | leg
      · rw [narrow]; rfl
      · exact absurd (legacy.mpr leg) vex
    exact decode_of_refused ((decodeFields_wrong_length wf admitted vex (len := .l256) (by decide) length rest).trans
      (misfit_lengthReserved (self_mem_rivals _) (extAccepts_regField _ _) l128 length))
  case broadcast =>
    intro m fma4 d b rest hd hb f listed
    obtain ⟨mod, scalar, uniform⟩ := scalarBroadcasts_uniform f listed
    exact decode_of_refused ((decodeFields_wrong_kind uniform hd (names_zero m) (b := .reg b) hb (by rw [mod]; rfl)
      rest).trans (by rw [scalar]; rfl))
  case gate =>
    intro m i rest wf gated
    have vex : i.form.row.len ≠ .leg := fun legacy => by simp [not_gated_of_legacy legacy] at gated
    have opcode := decodeFields_encodeRow (fma4 := false) (writable_of_wf wf) i.form.row.len i.form.row.w
      (fun _ => ⟨rfl, rfl⟩) rest
    rw [beq_eq_false_iff_ne.mpr vex] at opcode
    exact decode_of_refused (opcode.trans (decodeBody_gated (candidates_eq_rivals rfl rfl rfl) gated _ _))

/-- Settles O4: the bytes are decoded. -/
theorem specWordsDecode : Obligations.SpecWordsDecode := by
  unfold Obligations.SpecWordsDecode
  decide +kernel

end Sys2Proof

/-! The step runs what the bytes or the terms at pc say (10_state.md R51, 30_encoding.md R111, R112, R127). -/

namespace Sys2Proof.Machine

/-! ### From the bytes to the step -/

/-- A step runs what the fetch answers. -/
theorem step_of_fetch {s : State} {i : Instr} {len : Nat} (on : runOver s = false) (h : fetch s = .ok (i, len)) :
    step s = exec i { s with length := len } := by
  simp only [step, stepWith, on, h, afterFetch]
  rfl

theorem fetch_of_decode {s : State} {i : Instr} {len : Nat} (bytes : s.par.encGk = true)
    (h : decode s.par.mode s.par.encFma4 (fetchWindow s).1 = .ok i len) : fetch s = .ok (i, len) := by
  simp only [fetch, bytes, if_true, h, fetched]

theorem fetch_of_term {s : State} {i : Instr} (terms : s.par.encGk = false) (h : s.par.terms[s.pc.toNat]? = some i)
    (ok : i.termOk = true) : fetch s = .ok (i, 1) := by
  simp only [fetch, terms, termAt, h, ok]
  rfl

/-- Settles O1, at the level of bytes and at that of terms. -/
theorem stepRunsDecodedInstruction : Obligations.StepRunsDecodedInstruction := by
  refine ⟨fun s i len bytes on h => step_of_fetch on (fetch_of_decode bytes h), fun s i terms h ok => ?_⟩
  have on : runOver s = false := by
    obtain ⟨inside, -⟩ := List.getElem?_eq_some_iff.mp h
    simp [runOver, terms, inside]
  exact step_of_fetch on (fetch_of_term terms h ok)

/-- Bytes that can be fetched from byte `k` on begin the window from there, if it is long enough. -/
theorem fetchFrom_eq_append {s : State} {bs : List Byte} {fuel k : Nat} (room : bs.length ≤ fuel)
    (h : ∀ j, ∀ hj : j < bs.length, fetchInside s (k + j) = true ∧ mapped s.par (fetchAddr s (k + j)) = true ∧
      readByte s (fetchAddr s (k + j)) = bs[j]) : ∃ rest, (fetchFrom s fuel k).1 = bs ++ rest := by
  induction bs generalizing fuel k with
  | nil => exact ⟨_, rfl⟩
  | cons b t ih =>
    cases fuel with
    | zero => cases room
    | succ fuel =>
      obtain ⟨inside, there, byte⟩ := h 0 (by simp)
      obtain ⟨rest, tail⟩ := ih (fuel := fuel) (k := k + 1) (by simpa using room) fun j hj => by
        rw [Nat.add_assoc, Nat.add_comm 1 j]
        exact h (j + 1) (by simpa using hj)
      simp only [Nat.add_zero, List.getElem_cons_zero] at inside there byte
      exact ⟨rest, by simp [fetchFrom, inside, there, byte, tail]⟩

/-- An encoding is no longer than the window that the fetch reads. -/
theorem length_encode_le {m : Mode} {i : Instr} (wf : i.wf m = true) : (encode i).length ≤ maxLength := by
  obtain ⟨-, -, -, most, -⟩ := decodedInstructionsAreWellFormed m true _ i _ (decode_encode wf (fun _ => rfl) [])
  exact most.trans (by decide)

/-- Settles O2: the window begins with the encoding, which is decoded whatever follows it. -/
theorem stepRunsEncodedInstruction : Obligations.StepRunsEncodedInstruction := by
  intro s i bytes on wf admitted placed
  obtain ⟨rest, window⟩ := fetchFrom_eq_append (s := s) (k := 0) (length_encode_le wf) (by simpa using placed)
  refine step_of_fetch on (fetch_of_decode bytes ?_)
  rw [fetchWindow, window]
  exact decode_encode wf admitted rest

end Sys2Proof.Machine

/-! Elements of elements, elements of the plainest values, and the fields of an immediate as numbers. -/

namespace Sys2Proof.Machine

/-! ### Elements -/

theorem getLsbD_elem {n : Nat} (w i j : Nat) (x : BitVec n) :
    (elem w i x).getLsbD j = (decide (j < w) && x.getLsbD (w * i + j)) :=
  BitVec.getLsbD_extractLsb' _ _ _ _

theorem elem_xor {n : Nat} (w i : Nat) (x y : BitVec n) : elem w i (x ^^^ y) = elem w i x ^^^ elem w i y :=
  BitVec.extractLsb'_xor

/-- A value is its only element. -/
@[simp] theorem elem_zero_self {w : Nat} (x : BitVec w) : elem w 0 x = x := by simp [elem]

/-- An element of one bit. -/
theorem elem_one {n : Nat} (x : BitVec n) (k : Nat) : elem 1 k x = BitVec.ofBool (x.getLsbD k) := by
  refine BitVec.eq_of_getLsbD_eq fun j hj => ?_
  obtain rfl : j = 0 := by omega
  rw [getLsbD_elem, BitVec.getLsbD_ofBool]
  simp

/-- An element of an element, where `p` of the small ones make a large one. -/
theorem elem_elem {n w v p r : Nat} (x : BitVec n) (i : Nat) (parts : w = v * p) (hr : r < p) :
    elem v r (elem w i x) = elem v (p * i + r) x := by
  have inside : v * r + v ≤ w := parts ▸ Nat.mul_le_mul_left v hr
  have place : w * i + v * r = v * (p * i + r) := by rw [parts]; ring
  refine BitVec.eq_of_getLsbD_eq fun j hj => ?_
  simp only [getLsbD_elem, hj, show v * r + j < w by omega, ← place, Nat.add_assoc, decide_true, Bool.true_and]

/-- Element 0 of what an instruction reads of a register is what a narrower read gives. -/
theorem elem_zero_readVec {w n : Nat} (s : State) (r : Reg) (h : w ≤ n) : elem w 0 (readVec n s r) = readVec w s r := by
  refine BitVec.eq_of_getLsbD_eq fun j hj => ?_
  rw [getLsbD_elem, readVec, readVec, BitVec.getLsbD_setWidth, BitVec.getLsbD_setWidth]
  simp [hj, Nat.lt_of_lt_of_le hj h]

/-! ### Fields of an immediate -/

theorem toNat_getLsbD {w : Nat} (x : BitVec w) (i : Nat) : (x.getLsbD i).toNat = x.toNat / 2 ^ i % 2 := by
  rw [BitVec.getLsbD, Nat.toNat_testBit]

theorem bitNat_eq (imm : BitVec 8) (i : Nat) : bitNat imm i = imm.toNat / 2 ^ i % 2 := toNat_getLsbD imm i

theorem fieldNat_eq (imm : BitVec 8) (lo : Nat) : fieldNat imm lo = imm.toNat / 2 ^ lo % 4 := by
  rw [fieldNat, BitVec.extractLsb'_toNat, Nat.shiftRight_eq_div_pow]

end Sys2Proof.Machine

/-! Moves, loads, broadcasts and stores (40_new_instructions.md R151 to R154, R169; files 43 to 45). -/

namespace Sys2Proof.Machine

/-! ### Copies (R229 to R235, R297, R298) -/

section
variable {n w k q : Nat} {i : Instr} {s : State} {d : Reg} {b : RegMem}

/-- A copy of what is read, at any alignment. -/
theorem vecResult_copy {align : Nat} {v : BitVec n} (h : Reads n align s [d] b v)
    (he : exec i s = frame (readVecMem n align) (fun t x => writeVex t d x) [d] b (fun v => (v, 0)) s) (hn : n ≤ 256) :
    VecResult n 1 i s d fun _ => v :=
  vecResult_of_frame h.named h.place h.value he hn (by omega)
    (fun j hj => by rw [Nat.lt_one_iff.mp hj, elem_zero_self]) (fun j hj => BitVec.getLsbD_of_ge _ _ (by omega)) rfl

/-- A load that fills the low element alone (R297, R298). -/
theorem vecResult_loadLow {v : BitVec w} (h : Reads w 1 s [d] b v)
    (he : exec i s = opRM n w (fun v => v.setWidth n) d b s) (hw : w ≤ n) (hn : n ≤ 256) :
    VecResult w 1 i s d fun _ => v := by
  refine vecResult_of_frame h.named h.place h.value he hn (by omega) (fun j hj => ?low) (fun j hj => ?above) rfl
  case low => rw [Nat.lt_one_iff.mp hj, elem_setWidth _ (by omega), elem_zero_self]
  case above =>
    show (v.setWidth n).getLsbD j = false
    rw [BitVec.getLsbD_setWidth, BitVec.getLsbD_of_ge v j (by omega), Bool.and_false]

/-- A broadcast (40_new_instructions.md R151 to R153). -/
theorem vecResult_broadcast {v : BitVec w} (h : Reads w 1 s [d] b v) (he : exec i s = opRM n w (broadcast n) d b s)
    (hn : n ≤ 256) (hw : 0 < w) (hk : w * k = n) : VecResult w k i s d fun _ => v :=
  vecResult_opRM h he hn hk fun j hj => elem_vec _ <| by rwa [← hk, Nat.mul_div_cancel_left k hw]

end

/-- Settles O32: each instruction is a copy, a load of the low element or a broadcast. -/
theorem vectorCopiesAndLoads : Obligations.VectorCopiesAndLoads := by
  intro s d b m
  simp only [List.forall_mem_cons]
  refine ⟨fun v h => ?copyX, fun v h => ?copyY, fun v h => ?alignedX, fun v h => ?alignedY, fun v h => ?load128,
    fun v h => vecResult_copy h rfl (by omega), fun v h => ?load32, fun v h => ?load64⟩
  case copyX | copyY | alignedX | alignedY =>
    have copy := fun i he => vecResult_copy (i := i) h he (by omega)
    exact ⟨copy _ rfl, copy _ rfl, copy _ rfl, List.forall_mem_nil _⟩
  case load128 =>
    exact ⟨vecResult_copy h rfl (by omega), vecResult_broadcast h rfl (by omega) (by omega) (by omega)⟩
  case load32 =>
    exact ⟨vecResult_loadLow h rfl (by omega) (by omega), vecResult_broadcast h rfl (by omega) (by omega) (by omega),
      vecResult_broadcast h rfl (by omega) (by omega) (by omega)⟩
  case load64 =>
    exact ⟨vecResult_loadLow h rfl (by omega) (by omega), vecResult_broadcast h rfl (by omega) (by omega) (by omega)⟩

/-! ### Stores (40_new_instructions.md R154, R169) -/

theorem extractHalf_eq (imm : BitVec 8) (x : BitVec 256) : extractHalf imm x = elem 128 (imm.toNat % 2) x := by
  rw [extractHalf, bitNat_eq, Nat.pow_zero, Nat.div_one]

/-- A register form of a store of `n` bits copies them. -/
theorem vecResult_copyToReg {n align : Nat} {i : Instr} {s : State} {d a : Reg} {x : State → BitVec n}
    (named : [d, a].all s.par.mode.names = true) (he : exec i s = opMR align (.reg d) a x s) (hn : n ≤ 256) :
    VecResult n 1 i s d fun _ => x s :=
  vecResult_opMR named he hn (Nat.mul_one n) fun j hj => by rw [Nat.lt_one_iff.mp hj, elem_zero_self]

/-- Settles O33: every instruction is the shared store or the shared copy of the bits it names. -/
theorem vectorStores : Obligations.VectorStores := by
  intro s m a d imm half
  have half_eq : half = extractHalf imm (readVec 256 s a) := (extractHalf_eq _ _).symm
  have low_eq : readVec 64 s a = elem 64 0 (readVec 128 s a) := (elem_zero_readVec s a (by omega)).symm
  simp only [List.forall_mem_cons, half_eq]
  refine ⟨fun h => ?x, fun h => ?y, fun h => ?alignedX, fun h => ?alignedY, fun h => ?single, fun h => ?double,
    fun h => ?control, fun named => ?registers⟩
  case x =>
    have put := fun i he => storeResult_opMR (i := i) (n := 128) (x := fun t => readVec 128 t a) h (by omega) he
    exact ⟨⟨put _ rfl, put _ rfl, put _ rfl, List.forall_mem_nil _⟩,
      storeResult_opMR (x := fun t => extractHalf imm (readVec 256 t a)) h (by omega) rfl⟩
  case y | alignedY =>
    have put := fun i he => storeResult_opMR (i := i) (n := 256) (x := fun t => readVec 256 t a) h (by omega) he
    exact ⟨put _ rfl, put _ rfl, put _ rfl, List.forall_mem_nil _⟩
  case alignedX =>
    have put := fun i he => storeResult_opMR (i := i) (n := 128) (x := fun t => readVec 128 t a) h (by omega) he
    exact ⟨put _ rfl, put _ rfl, put _ rfl, List.forall_mem_nil _⟩
  case single => exact storeResult_opStore (n := 32) (x := fun t => readVec 32 t a) h (by omega) rfl
  case double =>
    have put := fun x i he => storeResult_opStore (i := i) (n := 64) (x := x) h (by omega) he
    refine ⟨⟨put (fun t => readVec 64 t a) _ rfl, ?low⟩, put (fun t => elem 64 1 (readVec 128 t a)) _ rfl,
      put (fun t => elem 64 1 (readVec 128 t a)) _ rfl, List.forall_mem_nil _⟩
    rw [low_eq]
    exact ⟨put (fun t => elem 64 0 (readVec 128 t a)) _ rfl, put (fun t => elem 64 0 (readVec 128 t a)) _ rfl,
      List.forall_mem_nil _⟩
  case control => exact storeResult_opStore (n := 32) (x := readMxcsr) h (by omega) rfl
  case registers =>
    have copyX := fun i align he =>
      vecResult_copyToReg (i := i) (align := align) (x := fun t => readVec 128 t a) named he (by omega)
    have copyY := fun i align he =>
      vecResult_copyToReg (i := i) (align := align) (x := fun t => readVec 256 t a) named he (by omega)
    exact ⟨⟨copyX _ 1 rfl, copyX _ 1 rfl, copyX _ 1 rfl, copyX _ 16 rfl, copyX _ 16 rfl, copyX _ 16 rfl,
        List.forall_mem_nil _⟩,
      ⟨copyY _ 1 rfl, copyY _ 1 rfl, copyY _ 1 rfl, copyY _ 32 rfl, copyY _ 32 rfl, copyY _ 32 rfl,
        List.forall_mem_nil _⟩,
      vecResult_copyToReg (align := 1) (x := fun t => extractHalf imm (readVec 256 t a)) named rfl (by omega)⟩

end Sys2Proof.Machine

/-! Duplications and permutations (40_new_instructions.md R155, R158 to R162; 43_sse_on_ymm.md R236, R239, R240): which element
each of their functions puts at a place. -/

namespace Sys2Proof.Machine

/-! ### The functions, element by element -/

section
variable {n w j : Nat} (x y z : BitVec n)

theorem elem_duplicate (odd : Nat) (hj : j < n / w) : elem w j (duplicate w odd x) = elem w (j / 2 * 2 + odd) x :=
  elem_vec _ hj

theorem elem_permilPsImm (imm : BitVec 8) (hj : j < n / 32) :
    elem 32 j (permilPsImm imm x) = elem 32 (j / 4 * 4 + imm.toNat / 4 ^ (j % 4) % 4) x := by
  rw [permilPsImm, elem_vec _ hj, fieldNat_eq, Nat.pow_mul]

theorem elem_permilPdImm (imm : BitVec 8) (hj : j < n / 64) :
    elem 64 j (permilPdImm imm x) = elem 64 (j / 2 * 2 + imm.toNat / 2 ^ j % 2) x := by
  rw [permilPdImm, elem_vec _ hj, bitNat_eq]

theorem elem_permilPs (hj : j < n / 32) :
    elem 32 j (permilPs x y) = elem 32 (j / 4 * 4 + (elem 32 j y).toNat % 4) x := by
  rw [permilPs, elem_vec _ hj, BitVec.extractLsb'_toNat, Nat.shiftRight_zero]

theorem elem_permilPd (hj : j < n / 64) :
    elem 64 j (permilPd x y) = elem 64 (j / 2 * 2 + (elem 64 j y).toNat / 2 % 2) x := by
  rw [permilPd, elem_vec _ hj, toNat_getLsbD, Nat.pow_one]

end

/-- Element 0 and 1 of VINSERTF128's result (R155). -/
theorem elem_insertHalf (imm : BitVec 8) (x : BitVec 256) (v : BitVec 128) {j : Nat} (hj : j < 2) :
    elem 128 j (insertHalf imm x v) = if j = imm.toNat % 2 then v else elem 128 j x := by
  rw [insertHalf, elem_setElem _ _ hj, bitNat_eq, Nat.pow_zero, Nat.div_one]

/-- A half of VPERM2F128's result: the four bits of the immediate as a number (R162). -/
theorem perm2Half_eq (imm : BitVec 8) (lo : Nat) (x y : BitVec 256) :
    perm2Half imm lo x y =
      let c := imm.toNat / 2 ^ lo % 16
      if 8 ≤ c then 0 else elem 128 (c % 2) (if 2 ≤ c % 4 then y else x) := by
  have bit : ∀ i, imm.getLsbD (lo + i) = decide (imm.toNat / 2 ^ lo / 2 ^ i % 2 = 1) := fun i => by
    rw [BitVec.getLsbD, Nat.testBit_eq_decide_div_mod_eq, Nat.pow_add, Nat.div_div_eq_div_mul]
  have choice : imm.toNat / 2 ^ lo % 16 % 2 = bitNat imm lo := by rw [bitNat_eq]; omega
  have zeroed : (8 ≤ imm.toNat / 2 ^ lo % 16) = (imm.getLsbD (lo + 3) = true) := by rw [bit, decide_eq_true_eq]; grind
  have second : (2 ≤ imm.toNat / 2 ^ lo % 16 % 4) = (imm.getLsbD (lo + 1) = true) := by rw [bit, decide_eq_true_eq]; grind
  simp only [perm2Half, choice, zeroed, second]
  split_ifs <;> rfl

theorem elem_perm2F128 (imm : BitVec 8) (x y : BitVec 256) {j : Nat} (hj : j < 2) :
    elem 128 j (perm2F128 imm x y) =
      let c := imm.toNat / 16 ^ j % 16
      if 8 ≤ c then 0 else elem 128 (c % 2) (if 2 ≤ c % 4 then y else x) := by
  rw [perm2F128, elem_vec _ hj, perm2Half_eq, Nat.pow_mul]

/-! ### One source or two (R155, R158, R159, R162) -/

/-- Settles O35: each result element by the lemma about the function of its instruction. -/
theorem duplicationsAndPermutations : Obligations.DuplicationsAndPermutations := by
  intro s d a b imm
  have within : ∀ {j k : Nat}, j < k → j / k * k = 0 := fun h => by rw [Nat.div_eq_of_lt h, Nat.zero_mul]
  refine ⟨fun v h => ?double, fun v h => ?x, fun v h => ?y, fun v h => ?x2, fun v h => ?y2⟩
  case double => exact vecResult_opRM h rfl (by omega) rfl fun j hj => elem_vec _ hj
  case x =>
    refine ⟨vecResult_opRM h rfl (by omega) rfl fun j hj => elem_duplicate v 0 hj,
      vecResult_opRM h rfl (by omega) rfl fun j hj => elem_duplicate v 1 hj,
      vecResult_opRM h rfl (by omega) rfl fun j hj => ?_, vecResult_opRM h rfl (by omega) rfl fun j hj => ?_⟩
    · rw [elem_permilPsImm v imm hj, within hj, Nat.mod_eq_of_lt hj, Nat.zero_add]
    · rw [elem_permilPdImm v imm hj, within hj, Nat.zero_add]
  case y =>
    exact ⟨vecResult_opRM h rfl (by omega) rfl fun j hj => elem_duplicate v 0 hj,
      vecResult_opRM h rfl (by omega) rfl fun j hj => elem_duplicate v 1 hj,
      vecResult_opRM h rfl (by omega) rfl fun j hj => elem_duplicate v 0 hj,
      vecResult_opRM h rfl (by omega) rfl fun j hj => elem_permilPsImm v imm hj,
      vecResult_opRM h rfl (by omega) rfl fun j hj => elem_permilPdImm v imm hj⟩
  case x2 =>
    refine ⟨vecResult_opRVM h rfl (by omega) rfl fun j hj => ?_, vecResult_opRVM h rfl (by omega) rfl fun j hj => ?_,
      vecResult_opRVM h rfl (by omega) rfl fun j hj => elem_insertHalf imm _ v hj⟩
    · rw [elem_permilPs _ v hj, within hj, Nat.zero_add]
    · rw [elem_permilPd _ v hj, within hj, Nat.zero_add]
  case y2 =>
    exact ⟨vecResult_opRVM h rfl (by omega) rfl fun j hj => elem_permilPs _ v hj,
      vecResult_opRVM h rfl (by omega) rfl fun j hj => elem_permilPd _ v hj,
      vecResult_opRVM h rfl (by omega) rfl fun j hj => elem_perm2F128 imm _ v hj⟩

/-! ### Two sources and a selector (R160, R161) -/

/-- An element of VPERMIL2PD's or VPERMIL2PS's result in numbers, `q` being the selector element and `sel` the place it names
in the lane of both sources together. -/
theorem permil2Elem_eq {n w p : Nat} (imm : BitVec 2) (x y : BitVec n) (i : Nat) (q : BitVec w) {sel : Nat}
    (bound : sel < 2 * p) :
    permil2Elem w p imm x y i sel (q.getLsbD 3) =
      if (imm.toNat = 2 ∧ q.toNat / 8 % 2 = 1) ∨ (imm.toNat = 3 ∧ q.toNat / 8 % 2 = 0) then 0
      else elem w (i / p * p + sel % p) (if sel < p then x else y) := by
  have matched : q.getLsbD 3 = decide (q.toNat / 8 % 2 = 1) := Nat.testBit_eq_decide_div_mod_eq
  have unmatched : q.toNat / 8 % 2 = 0 ↔ ¬ q.toNat / 8 % 2 = 1 := by omega
  have two : imm = 2 ↔ imm.toNat = 2 := BitVec.toNat_inj.symm
  have three : imm = 3 ↔ imm.toNat = 3 := BitVec.toNat_inj.symm
  have place : sel % p = if sel < p then sel else sel - p := by
    split
    · exact Nat.mod_eq_of_lt ‹_›
    · rw [Nat.mod_eq_sub_mod (by omega), Nat.mod_eq_of_lt (by omega)]
  simp only [permil2Elem, matched, decide_eq_true_eq, decide_eq_false_iff_not, ← unmatched, two, three, place]
  split_ifs <;> rfl

section
variable {n j : Nat} (imm : BitVec 2) (x y z : BitVec n)

theorem elem_permil2Pd (hj : j < n / 64) :
    elem 64 j (permil2Pd imm x y z) =
      let q := (elem 64 j z).toNat
      let k := q / 2 % 4
      if (imm.toNat = 2 ∧ q / 8 % 2 = 1) ∨ (imm.toNat = 3 ∧ q / 8 % 2 = 0) then 0
      else elem 64 (j / 2 * 2 + k % 2) (if k < 2 then x else y) := by
  rw [permil2Pd, elem_vec _ hj, BitVec.extractLsb'_toNat, Nat.shiftRight_eq_div_pow]
  exact permil2Elem_eq imm x y j _ (Nat.mod_lt _ (by omega))

theorem elem_permil2Ps (hj : j < n / 32) :
    elem 32 j (permil2Ps imm x y z) =
      let q := (elem 32 j z).toNat
      let k := q % 8
      if (imm.toNat = 2 ∧ q / 8 % 2 = 1) ∨ (imm.toNat = 3 ∧ q / 8 % 2 = 0) then 0
      else elem 32 (j / 4 * 4 + k % 4) (if k < 4 then x else y) := by
  rw [permil2Ps, elem_vec _ hj, BitVec.extractLsb'_toNat, Nat.shiftRight_zero]
  exact permil2Elem_eq imm x y j _ (Nat.mod_lt _ (by omega))

end

theorem needPermil2_on {s : State} (on : s.par.permil2Sem = true) (k : Out) : needPermil2 s k = k := if_pos on

theorem needPermil2_off {s : State} (off : s.par.permil2Sem = false) (k : Out) :
    needPermil2 s k = .refused .permil2Off := by rw [needPermil2, off]; rfl

/-- Settles O36: admitted, the W0 forms are RVMR and the W1 forms RVRM of one function; not admitted, each is refused. -/
theorem twoSourcePermutations : Obligations.TwoSourcePermutations := by
  intro s d a c b imm pd ps
  refine ⟨fun on => ⟨fun v h => ?x, fun v h => ?y⟩, fun off i hi => ?refused⟩
  case x | y =>
    exact ⟨vecResult_opRVMR h (needPermil2_on on _) (by omega) rfl fun j hj => elem_permil2Pd imm _ _ _ hj,
      vecResult_opRVRM h (needPermil2_on on _) (by omega) rfl fun j hj => elem_permil2Pd imm _ _ _ hj,
      vecResult_opRVMR h (needPermil2_on on _) (by omega) rfl fun j hj => elem_permil2Ps imm _ _ _ hj,
      vecResult_opRVRM h (needPermil2_on on _) (by omega) rfl fun j hj => elem_permil2Ps imm _ _ _ hj⟩
  case refused =>
    revert i
    have refuse := needPermil2_off off
    simp only [List.forall_mem_cons]
    exact ⟨refuse _, refuse _, refuse _, refuse _, refuse _, refuse _, refuse _, refuse _, List.forall_mem_nil _⟩

end Sys2Proof.Machine

/-! The register-state and control instructions and the tests (40_new_instructions.md R164 to R168, 43_sse_on_ymm.md R241). -/

namespace Sys2Proof.Machine

/-! ### VZEROALL and VZEROUPPER (R166, R167) -/

/-- A register of a list without repetition is updated once. -/
theorem readYmm_updateYmm_mem (f : BitVec 256 → BitVec 256) (s : State) {l : List Reg} {r : Reg} (once : l.Nodup)
    (h : r ∈ l) : readYmm (updateYmm f s l) r = f (readYmm s r) := by
  induction l generalizing s with
  | nil => cases h
  | cons d t ih =>
    obtain ⟨out, once⟩ := List.nodup_cons.mp once
    rw [updateYmm]
    rcases List.mem_cons.mp h with rfl | later
    · rw [readYmm_updateYmm_notMem _ _ out, readYmm_setYmm_self]
    · rw [ih _ once later, readYmm_setYmm_ne _ _ (ne_of_mem_of_not_mem later out)]

theorem nodup_allRegs : allRegs.Nodup := by decide

theorem mem_allRegs (r : Reg) : r ∈ allRegs := by revert r; decide

/-- A register is updated where the mode can name it (00_scope.md R9). -/
theorem readYmm_updateReachable (f : BitVec 256 → BitVec 256) (s : State) (r : Reg) :
    readYmm (updateReachable f s) r = if r.val < s.par.mode.nreg then f (readYmm s r) else readYmm s r := by
  split
  next named =>
    exact readYmm_updateYmm_mem _ _ (nodup_allRegs.filter _) (List.mem_filter.mpr ⟨mem_allRegs r, decide_eq_true named⟩)
  next unnamed => exact readYmm_updateReachable_of_not_names _ _ fun named => unnamed (of_decide_eq_true named)

theorem zero_append {n m : Nat} (x : BitVec n) : (0 : BitVec m) ++ x = x.setWidth (m + n) := by
  refine BitVec.eq_of_getLsbD_eq fun j hj => ?_
  rw [BitVec.getLsbD_append, BitVec.getLsbD_setWidth]
  by_cases h : j < n
  · simp [h, hj]
  · simp [h, BitVec.getLsbD_of_ge x j (by omega)]

/-! ### VLDMXCSR (R168) -/

theorem reserved_eq_zero_iff (v : BitVec 32) : v.extractLsb' 16 16 = 0 ↔ v.toNat < 2 ^ 16 := by
  rw [← BitVec.toNat_inj, BitVec.extractLsb'_toNat, Nat.shiftRight_eq_div_pow]
  have bound := v.isLt
  change v.toNat / 2 ^ 16 % 2 ^ 16 = 0 ↔ _
  omega

/-- VLDMXCSR with a readable operand ends as the check of the reserved bits does. -/
theorem execVldmxcsr_eq {s : State} {m : MemOp} {v : BitVec 32} (h : Reads 32 1 s [] (.mem m) v) :
    execVldmxcsr m s = finish (loadMxcsr s v >>= fun t => .ok (advance t)) := by
  have value : load s (effAddr s m) 32 1 = .ok v := h.value
  rw [execVldmxcsr, needOperands_ok h.named h.place, value]
  rfl

theorem execVldmxcsr_next {s : State} {m : MemOp} {v : BitVec 32} (h : Reads 32 1 s [] (.mem m) v)
    (small : v.toNat < 2 ^ 16) : execVldmxcsr m s = .next (advance { s with mxcsr := v }) := by
  rw [execVldmxcsr_eq h, loadMxcsr, if_pos ((reserved_eq_zero_iff v).mpr small)]
  rfl

theorem execVldmxcsr_reserved {s : State} {m : MemOp} {v : BitVec 32} (h : Reads 32 1 s [] (.mem m) v)
    (large : 2 ^ 16 ≤ v.toNat) : execVldmxcsr m s = .fault .gp0 := by
  rw [execVldmxcsr_eq h, loadMxcsr, if_neg fun zero => by have := (reserved_eq_zero_iff v).mp zero; omega]
  rfl

/-- Settles O59: the registers that the mode can name are updated, and VLDMXCSR ends as its check of bits 31:16 does. -/
theorem registerStateInstructions : Obligations.RegisterStateInstructions := by
  have frame : ∀ f (s : State), let t := advance (updateReachable f s)
      (∀ r, readGpr t r = readGpr s r) ∧ t.flags = s.flags ∧ t.mxcsr = s.mxcsr ∧ (∀ a, readByte t a = readByte s a) ∧
        t.par = s.par ∧ t.pc = nextPc s := fun f s => by
    intro t; simp [t, readGpr, readByte]
  refine ⟨fun s => ⟨_, rfl, fun r => ?all, frame _ s⟩, fun s => ⟨_, rfl, fun r => ?upper, frame _ s⟩, fun s m v h =>
    ⟨fun small => ?small, execVldmxcsr_reserved h⟩⟩
  case all => exact readYmm_updateReachable _ _ _
  case upper =>
    rw [readYmm_advance, readYmm_updateReachable, zero_append]
    rfl
  case small =>
    exact ⟨_, execVldmxcsr_next h small, rfl, rfl, fun _ => rfl, fun _ => rfl, fun _ => rfl, rfl, rfl⟩

/-! ### Tests (R164, R165, R241) -/

section
variable {n : Nat} (x y : BitVec n)

theorem msb_elem (w i : Nat) : (elem w i x).msb = (decide (0 < w) && x.getLsbD (w * i + (w - 1))) := by
  rw [BitVec.msb_eq_getLsbD_last, getLsbD_elem, decide_eq_decide.mpr (show w - 1 < w ↔ 0 < w by omega)]

theorem msb_elem_and (w i : Nat) : (elem w i (x &&& y)).msb = ((elem w i x).msb && (elem w i y).msb) := by
  simp only [msb_elem, BitVec.getLsbD_and]
  cases decide (0 < w) <;> rfl

theorem msb_elem_andNot (w i : Nat) : (elem w i (~~~x &&& y)).msb = (!(elem w i x).msb && (elem w i y).msb) := by
  simp only [msb_elem, BitVec.getLsbD_and, BitVec.getLsbD_not]
  by_cases inside : w * i + (w - 1) < n
  · cases decide (0 < w) <;> simp [inside]
  · simp [inside, BitVec.getLsbD_of_ge y _ (Nat.le_of_not_lt inside)]

theorem anySign_eq_false_iff (w : Nat) : anySign w x = false ↔ ∀ j < n / w, (elem w j x).msb = false := by
  simp [anySign, BitVec.msb_eq_getLsbD_last]

/-- A vector is zero where no element of one bit has its sign bit set. -/
theorem anySign_one_eq_false_iff : anySign 1 x = false ↔ x = 0 := by
  rw [anySign_eq_false_iff]
  refine ⟨fun none => BitVec.eq_of_getLsbD_eq fun j hj => ?_, fun zero => by simp [zero, msb_elem]⟩
  simpa [msb_elem] using none j (by omega)

/-- VPTEST is the sign test of one-bit elements (R241). -/
theorem ptestFlags_eq : ptestFlags x y = signTestFlags 1 x y := by
  have zero : ∀ z : BitVec n, (z == 0) = !anySign 1 z := fun z => by
    rw [Bool.eq_iff_iff, Bool.not_eq_true', anySign_one_eq_false_iff, beq_iff_eq]
  rw [ptestFlags, signTestFlags, zero, zero]

/-- The two flags of a sign test as statements about the elements (R164, R165). -/
theorem signTestFlags_eq (w : Nat) :
    signTestFlags w x y =
      testFlags (decide (∀ j < n / w, ¬((elem w j x).msb = true ∧ (elem w j y).msb = true)))
        (decide (∀ j < n / w, (elem w j y).msb = true → (elem w j x).msb = true)) := by
  have zf : (!anySign w (x &&& y)) = decide (∀ j < n / w, ¬((elem w j x).msb = true ∧ (elem w j y).msb = true)) := by
    rw [Bool.eq_iff_iff, Bool.not_eq_true', anySign_eq_false_iff, decide_eq_true_iff]
    simp [msb_elem_and]
  have cf : (!anySign w (~~~x &&& y)) = decide (∀ j < n / w, (elem w j y).msb = true → (elem w j x).msb = true) := by
    rw [Bool.eq_iff_iff, Bool.not_eq_true', anySign_eq_false_iff, decide_eq_true_iff]
    grind [msb_elem_andNot]
  rw [signTestFlags, zf, cf]

end

/-- Settles O60: all three are sign tests, of elements of 1, 32 and 64 bits. -/
theorem testInstructions : Obligations.TestInstructions := by
  intro s a b zf cf
  refine ⟨fun v h => ?x, fun v h => ?y⟩
  case x | y =>
    exact ⟨testResult_opTest h rfl ((ptestFlags_eq _ v).trans (signTestFlags_eq _ v 1)),
      testResult_opTest h rfl (signTestFlags_eq _ v 32), testResult_opTest h rfl (signTestFlags_eq _ v 64)⟩

end Sys2Proof.Machine

/-! AES and the carry-less product (40_new_instructions.md R163, 42_aes.md R210 to R216): the bytes of each result, and what a
legacy form leaves. -/

namespace Sys2Proof.Machine

/-! ### Legacy destinations (10_state.md R46 c) -/

/-- A legacy form without flags: its result fills bits 127:0 and leaves those above. -/
theorem legacyResult_opLegacy {w k : Nat} {i : Instr} {s : State} {d : Reg} {b : RegMem} {v : BitVec 128}
    {f : BitVec 128 → BitVec 128 → BitVec 128} {g : Nat → BitVec w} (h : Reads 128 16 s [d] b v)
    (he : exec i s = opLegacy f d b s) (hk : w * k = 128) (hg : ∀ j < k, elem w j (f (readVec 128 s d) v) = g j) :
    LegacyResult w k i s d g := by
  have run := frame_next (put := fun t x => writeLegacy t d x) (f := fun v => (f (readVec 128 s d) v, 0)) h.named h.place
    h.value (unmaskedFlags_zero s)
  refine ⟨_, he.trans run, fun j hj => ?low, ?high, by simp, fun r ne => readYmm_writeLegacy_ne _ _ ne, fun _ => rfl, rfl,
    fun _ => rfl, rfl, rfl⟩
  case low =>
    have room : w * j + w ≤ 128 := by
      calc w * j + w = w * (j + 1) := by ring
        _ ≤ w * k := Nat.mul_le_mul_left w hj
        _ = 128 := hk
    rw [← hg j hj]
    refine BitVec.eq_of_getLsbD_eq fun n hn => ?_
    simp only [readYmm_advance, readYmm_writeLegacy_self, getLsbD_elem, BitVec.getLsbD_append]
    simp [show w * j + n < 128 by omega]
  case high =>
    refine BitVec.eq_of_getLsbD_eq fun n hn => ?_
    simp only [readYmm_advance, readYmm_writeLegacy_self, getLsbD_elem, BitVec.getLsbD_append]
    simp [hn]

/-! ### The field (R210): the model's multiples are those of the rule, the factor written in binary -/

section
variable (x : Byte)

theorem gfMul_one : gfMul 1 x = x := by simp [gfMul, Nat.testBit]
theorem gfMul_two : gfMul 2 x = xt x := by simp [gfMul, Nat.testBit]
theorem gfMul_three : gfMul 3 x = times3 x := by simp [gfMul, Nat.testBit, times3, BitVec.xor_comm]
theorem gfMul_nine : gfMul 9 x = times9 x := by simp [gfMul, Nat.testBit, times9, BitVec.xor_comm]
theorem gfMul_eleven : gfMul 11 x = times11 x := by simp [gfMul, Nat.testBit, times11]; ac_rfl
theorem gfMul_thirteen : gfMul 13 x = times13 x := by simp [gfMul, Nat.testBit, times13]; ac_rfl
theorem gfMul_fourteen : gfMul 14 x = times14 x := by simp [gfMul, Nat.testBit, times14]; ac_rfl

end

/-! ### The round functions (R210) -/

theorem elem_bytes16 (g : Nat → Byte) {i : Nat} (hi : i < 16) : elem 8 i (bytes16 g) = g i := elem_vec g hi

/-- Byte `i` of a mixed column, with the four factors of its row. -/
def mixedByte (k0 k1 k2 k3 : Nat) (f : Nat → Byte) (i : Nat) : Byte :=
  let t := fun k => f (i / 4 * 4 + (i + k) % 4)
  gfMul k0 (t 0) ^^^ gfMul k1 (t 1) ^^^ gfMul k2 (t 2) ^^^ gfMul k3 (t 3)

/-- A mixed byte looks at the four bytes of its column, all of them bytes of the value. -/
theorem mixedByte_congr {k0 k1 k2 k3 : Nat} {f g : Nat → Byte} (same : ∀ n < 16, f n = g n) {i : Nat} (hi : i < 16) :
    mixedByte k0 k1 k2 k3 f i = mixedByte k0 k1 k2 k3 g i := by
  have column : ∀ k, f (i / 4 * 4 + (i + k) % 4) = g (i / 4 * 4 + (i + k) % 4) := fun k => same _ (by omega)
  simp only [mixedByte, column]

section
variable (x k : BitVec 128) {i : Nat} (hi : i < 16)
include hi

theorem elem_subBytes : elem 8 i (subBytes x) = subByte (elem 8 i x) := elem_bytes16 _ hi

theorem elem_invSubBytes : elem 8 i (invSubBytes x) = invSubByte (elem 8 i x) := elem_bytes16 _ hi

theorem elem_shiftRows : elem 8 i (shiftRows x) = elem 8 (i % 4 + 4 * ((i / 4 + i % 4) % 4)) x := elem_bytes16 _ hi

theorem elem_invShiftRows : elem 8 i (invShiftRows x) = elem 8 (i % 4 + 4 * ((i / 4 + 4 - i % 4) % 4)) x :=
  elem_bytes16 _ hi

theorem elem_mixColumns : elem 8 i (mixColumns x) = mixedByte 2 3 1 1 (fun n => elem 8 n x) i := by
  rw [mixColumns, elem_bytes16 _ hi]
  simp only [mixedByte, columnByte, gfMul_one, gfMul_two, gfMul_three]

theorem elem_invMixColumns : elem 8 i (invMixColumns x) = mixedByte 14 11 13 9 (fun n => elem 8 n x) i := by
  rw [invMixColumns, elem_bytes16 _ hi]
  simp only [mixedByte, columnByte, gfMul_nine, gfMul_eleven, gfMul_thirteen, gfMul_fourteen]

/-! ### The rounds (R211 to R216) -/

theorem elem_aesEnc :
    elem 8 i (aesEnc x k) =
      mixedByte 2 3 1 1 (fun n => subByte (elem 8 (n % 4 + 4 * ((n / 4 + n % 4) % 4)) x)) i ^^^ elem 8 i k := by
  rw [aesEnc, elem_xor, elem_mixColumns _ hi]
  exact congrArg (· ^^^ _) (mixedByte_congr (fun n hn => by rw [elem_subBytes _ hn, elem_shiftRows _ hn]) hi)

theorem elem_aesEncLast :
    elem 8 i (aesEncLast x k) = subByte (elem 8 (i % 4 + 4 * ((i / 4 + i % 4) % 4)) x) ^^^ elem 8 i k := by
  rw [aesEncLast, elem_xor, elem_subBytes _ hi, elem_shiftRows _ hi]

theorem elem_aesDec :
    elem 8 i (aesDec x k) =
      mixedByte 14 11 13 9 (fun n => invSubByte (elem 8 (n % 4 + 4 * ((n / 4 + 4 - n % 4) % 4)) x)) i ^^^ elem 8 i k := by
  rw [aesDec, elem_xor, elem_invMixColumns _ hi]
  exact congrArg (· ^^^ _) (mixedByte_congr (fun n hn => by rw [elem_invSubBytes _ hn, elem_invShiftRows _ hn]) hi)

theorem elem_aesDecLast :
    elem 8 i (aesDecLast x k) = invSubByte (elem 8 (i % 4 + 4 * ((i / 4 + 4 - i % 4) % 4)) x) ^^^ elem 8 i k := by
  rw [aesDecLast, elem_xor, elem_invSubBytes _ hi, elem_invShiftRows _ hi]

end

/-! ### The key schedule (R216) -/

theorem elem_subWord (x : BitVec 32) {r : Nat} (hr : r < 4) : elem 8 r (subWord x) = subByte (elem 8 r x) := elem_vec _ hr

/-- A rotation by one byte. -/
theorem elem_rotWord (x : BitVec 32) {r : Nat} (hr : r < 4) : elem 8 r (rotWord x) = elem 8 ((r + 1) % 4) x := by
  refine BitVec.eq_of_getLsbD_eq fun j hj => ?_
  simp only [rotWord, getLsbD_elem, BitVec.getLsbD_or, BitVec.getLsbD_ushiftRight, BitVec.getLsbD_shiftLeft, hj,
    decide_true, Bool.true_and]
  rcases Nat.lt_or_ge r 3 with low | top
  · rw [Nat.mod_eq_of_lt (show r + 1 < 4 by omega), show 8 + (8 * r + j) = 8 * (r + 1) + j by ring]
    simp [show 8 * r + j < 24 by omega]
  · obtain rfl : r = 3 := by omega
    rw [BitVec.getLsbD_of_ge x _ (show 32 ≤ 8 + (8 * 3 + j) by omega)]
    simp [show 8 * 3 + j < 32 by omega, show 24 + j - 24 = j by omega]

theorem elem_setWidth_byte (imm : Byte) (r : Nat) : elem 8 r (imm.setWidth 32) = if r = 0 then imm else 0 := by
  rcases Nat.eq_zero_or_pos r with rfl | pos
  · rw [elem_setWidth _ (by omega), elem_zero_self, if_pos rfl]
  · rw [if_neg (by omega)]
    refine BitVec.eq_of_getLsbD_eq fun j hj => ?_
    rw [getLsbD_elem, BitVec.getLsbD_setWidth, BitVec.getLsbD_of_ge imm _ (by omega)]
    simp

theorem elem_aesKeygen (imm : BitVec 8) (x : BitVec 128) {i : Nat} (hi : i < 16) :
    elem 8 i (aesKeygen imm x) =
      let w := 8 * (i / 8) + 4
      if i / 4 % 2 = 0 then subByte (elem 8 (w + i % 4) x)
      else subByte (elem 8 (w + (i + 1) % 4) x) ^^^ (if i % 4 = 0 then imm else 0) := by
  have row : i % 4 < 4 := Nat.mod_lt _ (by omega)
  have next : (i % 4 + 1) % 4 = (i + 1) % 4 := by omega
  have word : ∀ r < 4, elem 8 r (elem 32 (i / 4 / 2 * 2 + 1) x) = elem 8 (8 * (i / 8) + 4 + r) x := fun r hr => by
    rw [elem_elem (p := 4) x _ rfl hr]
    congr 1
    omega
  have outer := elem_elem (v := 8) (p := 4) (aesKeygen imm x) (i / 4) rfl row
  rw [Nat.div_add_mod] at outer
  rw [← outer, aesKeygen, elem_vec _ (show i / 4 < 128 / 32 by omega)]
  dsimp only
  split
  · rw [elem_subWord _ row, word _ row]
  · rw [elem_xor, elem_setWidth_byte, elem_rotWord _ row, elem_subWord _ (by omega), word _ (by omega), next]

/-! ### The carry-less product (R163) -/

/-- A bit of an exclusive or of many is the parity of how many of them have it. -/
theorem getLsbD_xorBits {w : Nat} (g : Nat → BitVec w) (n j : Nat) :
    (xorBits g n).getLsbD j = decide (((List.range n).countP fun i => (g i).getLsbD j) % 2 = 1) := by
  induction n with
  | zero => simp [xorBits]
  | succ n ih =>
    have parity : ∀ m : Nat, decide ((m + 1) % 2 = 1) = !decide (m % 2 = 1) := fun m => by
      rw [Bool.eq_iff_iff]; simp; omega
    rw [xorBits, BitVec.getLsbD_xor, ih, List.range_succ, List.countP_append, List.countP_singleton]
    cases (g n).getLsbD j
    · simp
    · simp [parity]

/-- Bit `k` of a product counts the pairs of bits whose places add up to `k`. -/
theorem getLsbD_pclmul (imm : BitVec 8) (x y : BitVec 128) {k : Nat} (hk : k < 128) :
    (pclmul imm x y).getLsbD k = decide (((List.range 64).countP fun i =>
      y.getLsbD (64 * (imm.toNat / 16 % 2) + i) && decide (i ≤ k ∧ k - i < 64) &&
        x.getLsbD (64 * (imm.toNat % 2) + (k - i))) % 2 = 1) := by
  have first : bitNat imm 0 = imm.toNat % 2 := by rw [bitNat_eq, Nat.pow_zero, Nat.div_one]
  have second : bitNat imm 4 = imm.toNat / 16 % 2 := bitNat_eq imm 4
  rw [pclmul, clmul, getLsbD_xorBits, first, second]
  congr 3
  refine List.countP_congr fun i hi => ?_
  have inside := List.mem_range.mp hi
  have factor : (elem 64 (imm.toNat / 16 % 2) y).getLsbD i = y.getLsbD (64 * (imm.toNat / 16 % 2) + i) := by
    rw [getLsbD_elem, decide_eq_true inside, Bool.true_and]
  have shifted : ∀ z : BitVec 64, (z.setWidth 128 <<< i).getLsbD k =
      (decide (i ≤ k ∧ k - i < 64) && z.getLsbD (k - i)) := fun z => by
    rw [BitVec.getLsbD_shiftLeft, BitVec.getLsbD_setWidth]
    by_cases inside : k - i < 64
    · simp [hk, inside, show k - i < 128 by omega, ← decide_not]
    · simp [inside, BitVec.getLsbD_of_ge z _ (Nat.le_of_not_lt inside)]
  rw [← factor]
  cases (elem 64 (imm.toNat / 16 % 2) y).getLsbD i
  · simp
  · simp +contextual [shifted, getLsbD_elem]

/-- Settles O56: the V forms by the frame that zeroes bits 255:128, the legacy forms by the one that keeps them, both with the
bytes of the same functions. -/
theorem aesAndCarrylessMultiplication : Obligations.AesAndCarrylessMultiplication := by
  intro s d a b imm sr ir mix enc encLast dec decLast imc keygen clmul
  have product : ∀ x y k, k < 128 → elem 1 k (pclmul imm x y) = clmul x y k := fun x y k hk => by
    rw [elem_one, getLsbD_pclmul imm x y hk]
  refine ⟨fun v h => ?three, fun v h => ?two, fun v h => ?legacy⟩
  case three =>
    exact ⟨vecResult_opRVM h rfl (by omega) rfl fun j hj => elem_aesEnc _ v hj,
      vecResult_opRVM h rfl (by omega) rfl fun j hj => elem_aesEncLast _ v hj,
      vecResult_opRVM h rfl (by omega) rfl fun j hj => elem_aesDec _ v hj,
      vecResult_opRVM h rfl (by omega) rfl fun j hj => elem_aesDecLast _ v hj,
      vecResult_opRVM h rfl (by omega) rfl fun j hj => product _ v j hj⟩
  case two =>
    exact ⟨vecResult_opRM h rfl (by omega) rfl fun j hj => elem_invMixColumns v hj,
      vecResult_opRM h rfl (by omega) rfl fun j hj => elem_aesKeygen imm v hj⟩
  case legacy =>
    exact ⟨legacyResult_opLegacy h rfl rfl fun j hj => elem_aesEnc _ v hj,
      legacyResult_opLegacy h rfl rfl fun j hj => elem_aesEncLast _ v hj,
      legacyResult_opLegacy h rfl rfl fun j hj => elem_aesDec _ v hj,
      legacyResult_opLegacy h rfl rfl fun j hj => elem_aesDecLast _ v hj,
      legacyResult_opLegacy (f := fun _ v => invMixColumns v) h rfl rfl fun j hj => elem_invMixColumns v hj,
      legacyResult_opLegacy (f := fun _ v => aesKeygen imm v) h rfl rfl fun j hj => elem_aesKeygen imm v hj,
      legacyResult_opLegacy h rfl rfl fun j hj => product _ v j hj⟩

end Sys2Proof.Machine

/-! The masked moves (40_new_instructions.md R156, R157): which bytes they look at, how their checks end, and what is loaded or
stored. -/

namespace Sys2Proof.Machine

/-! ### The map check (20_memory.md R88) -/

/-- The lowest of some addresses is one of them and, as a number, below none. -/
theorem lowest_spec {l : List Addr} {a : Addr} (h : lowest l = some a) : a ∈ l ∧ ∀ b ∈ l, a.toNat ≤ b.toNat := by
  induction l generalizing a with
  | nil => cases h
  | cons c t ih =>
    rw [lowest] at h
    split at h
    next tail =>
      cases h
      simp [lowest_eq_none tail]
    next b tail =>
      obtain ⟨mem, least⟩ := ih tail
      cases h
      simp only [BitVec.lt_def]
      split <;> grind

theorem checkMap_ok {ok : Addr → Bool} {as : List Addr} (h : ∀ a ∈ as, ok a = true) : checkMap ok as = .ok () := by
  have empty : as.filter (fun a => !ok a) = [] := List.filter_eq_nil_iff.mpr fun a ha => by simp [h a ha]
  rw [checkMap, empty]
  rfl

/-- Where an address fails the map, the check ends in PF with the lowest that does. -/
theorem checkMap_pf {ok : Addr → Bool} {as : List Addr} (h : ∃ a ∈ as, ok a = false) :
    ∃ a ∈ as, ok a = false ∧ (∀ b ∈ as, ok b = false → a.toNat ≤ b.toNat) ∧
      checkMap ok as = .error (.fault (.pf a)) := by
  have failing : ∀ {x}, x ∈ as.filter (fun a => !ok a) ↔ x ∈ as ∧ ok x = false := by simp
  cases found : lowest (as.filter fun a => !ok a) with
  | none =>
    obtain ⟨a, ha, bad⟩ := h
    have := failing.mpr ⟨ha, bad⟩
    rw [lowest_eq_none found] at this
    cases this
  | some a =>
    obtain ⟨mem, least⟩ := lowest_spec found
    obtain ⟨ha, bad⟩ := failing.mp mem
    exact ⟨a, ha, bad, fun b hb bad' => least b (failing.mpr ⟨hb, bad'⟩), by rw [checkMap, found]; rfl⟩

/-! ### The bytes of the selected elements (R156) -/

/-- The address of byte `q` of the memory operand. -/
def maskedAt (s : State) (m : MemOp) (q : Nat) : Addr := wrap s.par.mode (effAddr s m + BitVec.ofNat 64 q)

/-- Element `j` of the mask register has its top bit set. -/
def maskBit (s : State) (a : Reg) (w j : Nat) : Bool := (readYmm s a).getLsbD (w * j + (w - 1))

/-- The elements whose mask bit is set, of `k`. -/
def maskedElems (s : State) (a : Reg) (w k : Nat) : List Nat := (List.range k).filter (maskBit s a w)

theorem wrap_add_wrap (m : Mode) (x y : Addr) : wrap m (wrap m x + y) = wrap m (x + y) := by
  cases m with
  | mode64 => rfl
  | mode32 => simp [wrap, BitVec.setWidth_add]

/-- A byte of the operand is a byte of its element. -/
theorem maskedAt_eq (s : State) (m : MemOp) (w q : Nat) :
    maskedAt s m q =
      wrap s.par.mode (elemAddr s.par.mode (effAddr s m) w (q / (w / 8)) + BitVec.ofNat 64 (q % (w / 8))) := by
  rw [elemAddr, wrap_add_wrap, BitVec.add_assoc, ← BitVec.ofNat_add, Nat.div_add_mod, maskedAt]

theorem maskedAt_inj (s : State) (m : MemOp) {p q : Nat} (hp : p < 2 ^ 32) (hq : q < 2 ^ 32)
    (h : maskedAt s m p = maskedAt s m q) : p = q := wrap_add_inj _ _ hp hq h

theorem mem_spanOf_elemAddr (s : State) (m : MemOp) (w i c : Nat) (x : Addr) :
    x ∈ spanOf s.par.mode (elemAddr s.par.mode (effAddr s m) w i) c ↔ ∃ r < c, maskedAt s m (w / 8 * i + r) = x := by
  simp only [mem_spanOf, elemAddr, wrap_add_wrap, maskedAt, BitVec.ofNat_add, BitVec.add_assoc]

/-! Elements of `w` bits, whole bytes, `k` of which make the operand: what the eight instructions have in common. -/

section
variable {w k : Nat} (s : State) (m : MemOp) (a : Reg)

theorem getLsbD_maskElement (pos : 0 < w) {j : Nat} (hj : j < k) :
    (elem w j (readVec (w * k) s a)).getLsbD (w - 1) = maskBit s a w j := by
  rw [readVec, elem_setWidth _ (Nat.mul_le_mul_left w hj), getLsbD_elem, decide_eq_true (by omega), Bool.true_and, maskBit]

/-- The elements that the model selects are those whose mask bit is set. -/
theorem selected_readVec (pos : 0 < w) :
    selected w (readVec (w * k) s a) = maskedElems s a w k := by
  rw [selected, Nat.mul_div_cancel_left k pos, maskedElems]
  exact List.filter_congr fun i hi => getLsbD_maskElement s a pos (List.mem_range.mp hi)

/-- The bytes of some elements, each by its place in the operand. -/
theorem mem_selectedSpan (pos : 0 < w / 8) (l : List Nat) (x : Addr) :
    x ∈ selectedSpan s.par.mode (effAddr s m) w l ↔ ∃ q, q / (w / 8) ∈ l ∧ maskedAt s m q = x := by
  simp only [selectedSpan, List.mem_flatMap, mem_spanOf_elemAddr]
  constructor
  · rintro ⟨i, hi, r, hr, rfl⟩
    exact ⟨w / 8 * i + r, by rwa [Nat.mul_add_div pos, Nat.div_eq_of_lt hr], rfl⟩
  · rintro ⟨q, hq, rfl⟩
    exact ⟨q / (w / 8), hq, q % (w / 8), Nat.mod_lt _ pos, by rw [Nat.div_add_mod]⟩

theorem nodup_maskedElems : (maskedElems s a w k).Nodup := List.nodup_range.filter _

theorem lt_of_mem_maskedElems {j : Nat} (h : j ∈ maskedElems s a w k) : j < k :=
  List.mem_range.mp (List.mem_filter.mp h).1

theorem div_mem_maskedElems_iff (pos : 0 < w / 8) (q : Nat) :
    q / (w / 8) ∈ maskedElems s a w k ↔ q < w / 8 * k ∧ maskBit s a w (q / (w / 8)) = true := by
  rw [maskedElems, List.mem_filter, List.mem_range, Nat.div_lt_iff_lt_mul pos, Nat.mul_comm]

/-! ### The checks (R156 points 3 and 5; log 20, 21) -/

/-- Every selected element has a canonical address. -/
def CanonicalSelected (w k : Nat) : Prop :=
  ∀ j < k, maskBit s a w j = true → addressOk s.par.mode (maskedAt s m (w / 8 * j)) = true

/-- Every byte of the selected elements meets a condition. -/
def EachSelected (w k : Nat) (ok : Addr → Prop) : Prop :=
  ∀ q < w / 8 * k, maskBit s a w (q / (w / 8)) = true → ok (maskedAt s m q)

/-- Byte `q` belongs to a selected element and fails the map. -/
def FailsAt (w k : Nat) (ok : Addr → Bool) (q : Nat) : Prop :=
  q < w / 8 * k ∧ maskBit s a w (q / (w / 8)) = true ∧ ok (maskedAt s m q) = false

variable {s m a} (pos : 0 < w / 8)

theorem all_addressOk_iff :
    ((maskedElems s a w k).all fun i => addressOk s.par.mode (elemAddr s.par.mode (effAddr s m) w i)) =
        true ↔ CanonicalSelected s m a w k := by
  simp [CanonicalSelected, maskedElems, elemAddr, maskedAt, imp_iff_not_or]

theorem checkSelected_gp0 (ok : Addr → Bool) (outside : ¬ CanonicalSelected s m a w k) :
    checkSelected s.par.mode ok (effAddr s m) w (maskedElems s a w k) = .error (.fault .gp0) := by
  rw [checkSelected, if_neg (mt all_addressOk_iff.mp outside)]
  rfl

include pos

/-- The bytes of the selected elements, each by its place in the operand. -/
theorem mem_maskedSpan_iff (x : Addr) :
    x ∈ selectedSpan s.par.mode (effAddr s m) w (maskedElems s a w k) ↔
      ∃ q, (q < w / 8 * k ∧ maskBit s a w (q / (w / 8)) = true) ∧ maskedAt s m q = x := by
  simp only [mem_selectedSpan s m pos, div_mem_maskedElems_iff s a pos]

theorem forall_selectedSpan_iff (ok : Addr → Prop) :
    (∀ x ∈ selectedSpan s.par.mode (effAddr s m) w (maskedElems s a w k), ok x) ↔ EachSelected s m a w k ok := by
  simp only [mem_maskedSpan_iff pos]
  exact ⟨fun h q hq bit => h _ ⟨q, ⟨hq, bit⟩, rfl⟩, fun h x ⟨q, ⟨hq, bit⟩, eq⟩ => eq ▸ h q hq bit⟩

theorem checkSelected_ok {ok : Addr → Bool} (canonical : CanonicalSelected s m a w k)
    (pass : EachSelected s m a w k fun x => ok x = true) :
    checkSelected s.par.mode ok (effAddr s m) w (maskedElems s a w k) = .ok () := by
  rw [checkSelected, if_pos (all_addressOk_iff.mpr canonical)]
  exact checkMap_ok ((forall_selectedSpan_iff pos _).mpr pass)

theorem checkSelected_pf {ok : Addr → Bool} (canonical : CanonicalSelected s m a w k)
    (fails : ∃ q, FailsAt s m a w k ok q) :
    ∃ q, FailsAt s m a w k ok q ∧ (∀ p, FailsAt s m a w k ok p → (maskedAt s m q).toNat ≤ (maskedAt s m p).toNat) ∧
      checkSelected s.par.mode ok (effAddr s m) w (maskedElems s a w k) = .error (.fault (.pf (maskedAt s m q))) := by
  obtain ⟨p, inside, bit, bad⟩ := fails
  obtain ⟨x, hx, bad, least, stops⟩ := checkMap_pf ⟨_, (mem_maskedSpan_iff pos _).mpr ⟨p, ⟨inside, bit⟩, rfl⟩, bad⟩
  obtain ⟨q, ⟨inside, bit⟩, rfl⟩ := (mem_maskedSpan_iff pos x).mp hx
  refine ⟨q, ⟨inside, bit, bad⟩, fun p ⟨inside, bit, bad⟩ => ?least, ?stops⟩
  case least => exact least _ ((mem_maskedSpan_iff pos _).mpr ⟨p, ⟨inside, bit⟩, rfl⟩) bad
  case stops => rw [checkSelected, if_pos (all_addressOk_iff.mpr canonical), stops]

end

/-! ### The loads (R156 a, b) -/

section
variable {w k : Nat} {s : State} {m : MemOp} {d a : Reg} {i : Instr}

/-- A byte of the loaded value. -/
theorem elem_maskedValue (whole : w = 8 * (w / 8)) (pos : 0 < w / 8) {q : Nat} (hq : q < w / 8 * k) :
    elem 8 q (maskedValue w s (effAddr s m) (readVec (w * k) s a)) =
      if maskBit s a w (q / (w / 8)) then readByte s (maskedAt s m q) else 0 := by
  have row : q % (w / 8) < w / 8 := Nat.mod_lt _ pos
  have column : q / (w / 8) < k := by rwa [Nat.div_lt_iff_lt_mul pos, Nat.mul_comm]
  have outer := elem_elem (maskedValue w s (effAddr s m) (readVec (w * k) s a)) (q / (w / 8)) whole row
  rw [Nat.div_add_mod] at outer
  rw [← outer, maskedValue, elem_vec _ (by rwa [Nat.mul_div_cancel_left k (by omega)]),
    getLsbD_maskElement s a (by omega) column]
  split
  next =>
    have byte := Memory.value_byte w s.mem (spanOf s.par.mode (elemAddr s.par.mode (effAddr s m) w (q / (w / 8))) (w / 8))
      (by rwa [spanOf_length]) (k := q % (w / 8)) (by rwa [spanOf_length])
    rw [elem, byte, spanOf_getElem, ← maskedAt_eq, readByte]
  next => simp [elem]

theorem opMaskedLoad_eq (named : [d, a].all s.par.mode.names = true) (place : memOpNamed s.par.mode m = true)
    (pos : 0 < w) :
    opMaskedLoad (w * k) w d a m s = finish (do
      checkSelected s.par.mode (mapped s.par) (effAddr s m) w (maskedElems s a w k)
      .ok (advance (writeVex s d (maskedValue w s (effAddr s m) (readVec (w * k) s a))))) := by
  rw [opMaskedLoad, needOperands_ok (b := .mem m) named place, selected_readVec s a pos]
  rfl

theorem vecResult_maskedLoad (named : [d, a].all s.par.mode.names = true) (place : memOpNamed s.par.mode m = true)
    (whole : w = 8 * (w / 8)) (pos : 0 < w / 8) (he : exec i s = opMaskedLoad (w * k) w d a m s)
    (fits : w * k ≤ 256) (canonical : CanonicalSelected s m a w k)
    (pass : EachSelected s m a w k fun x => mapped s.par x = true) :
    VecResult 8 (w / 8 * k) i s d fun q => if maskBit s a w (q / (w / 8)) then readByte s (maskedAt s m q) else 0 := by
  have size : 8 * (w / 8 * k) = w * k := by rw [← Nat.mul_assoc, ← whole]
  rw [opMaskedLoad_eq named place (by omega), checkSelected_ok pos canonical pass] at he
  refine ⟨_, he, fun q hq => ?bytes, fun j hj => ?above, rfl, by simpa using vecFrame_of s 0 d _⟩
  case bytes =>
    rw [readYmm_advance, readYmm_writeVex_self, elem_setWidth _ (by omega), elem_maskedValue whole pos hq]
  case above =>
    rw [readYmm_advance, readYmm_writeVex_self, BitVec.getLsbD_setWidth, BitVec.getLsbD_of_ge _ _ (by omega), Bool.and_false]

end

/-! ### The stores (R156 c, d) -/

section
variable {w k : Nat} {s : State} {m : MemOp} {d a : Reg} {i : Instr}

/-- A byte of a selected element is written once, with the byte of the source. -/
theorem read_writeSelected {n : Nat} (whole : w = 8 * (w / 8)) (pos : 0 < w / 8) (x : BitVec n) {mem : Memory}
    (form : mem.wf = true) {l : List Nat} (once : l.Nodup) (small : ∀ j ∈ l, w / 8 * (j + 1) ≤ 2 ^ 32) {q : Nat}
    (hq : q / (w / 8) ∈ l) :
    Memory.read (Memory.writeSelected w s.par.mode (effAddr s m) x mem l) (maskedAt s m q).toNat = elem 8 q x := by
  induction l generalizing mem with
  | nil => cases hq
  | cons j t ih =>
    obtain ⟨out, once⟩ := List.nodup_cons.mp once
    obtain ⟨first, rest⟩ := List.forall_mem_cons.mp small
    rw [Memory.writeSelected]
    rcases List.mem_cons.mp hq with here | later
    · subst here
      have row : q % (w / 8) < w / 8 := Nat.mod_lt _ pos
      have below : ∀ {p}, w / 8 * (p / (w / 8) + 1) ≤ 2 ^ 32 → p < 2 ^ 32 := (Nat.lt_mul_div_succ _ pos).trans_le
      have later : maskedAt s m q ∉ selectedSpan s.par.mode (effAddr s m) w t := fun mem => by
        obtain ⟨p, hp, same⟩ := (mem_selectedSpan s m pos t _).mp mem
        exact out (maskedAt_inj s m (below (rest _ hp)) (below first) same ▸ hp)
      have size : w / 8 ≤ 2 ^ 32 := le_trans (Nat.le_mul_of_pos_right _ (Nat.succ_pos _)) first
      rw [Memory.read_writeSelected_notMem _ _ _ _ _ later, maskedAt_eq s m w q,
        Memory.read_writeBytes_span _ _ _ form size row, byte_of_toNat]
      exact (elem_elem x _ whole row).trans (by rw [Nat.div_add_mod])
    · exact ih (Memory.wf_writeBytes _ _ form) once rest later

theorem opMaskedStore_eq (named : [a, d].all s.par.mode.names = true) (place : memOpNamed s.par.mode m = true)
    (pos : 0 < w) :
    opMaskedStore (w * k) w m a d s = finish (do
      checkSelected s.par.mode (writable s.par) (effAddr s m) w (maskedElems s a w k)
      if (selectedSpan s.par.mode (effAddr s m) w (maskedElems s a w k)).any (inProgram s.par) then
        refuse .storeIntoProgram
      else .ok (advance { s with
        mem := Memory.writeSelected w s.par.mode (effAddr s m) (readVec (w * k) s d) s.mem (maskedElems s a w k) })) := by
  rw [opMaskedStore, needOperands_ok (b := .mem m) named place, selected_readVec s a pos]
  rfl

variable (named : [a, d].all s.par.mode.names = true) (place : memOpNamed s.par.mode m = true)
  (whole : w = 8 * (w / 8)) (pos : 0 < w / 8) (he : exec i s = opMaskedStore (w * k) w m a d s)
  (canonical : CanonicalSelected s m a w k)
include named place whole pos he canonical

theorem maskedStore_next (fits : w * k ≤ 256)
    (pass : EachSelected s m a w k fun x => writable s.par x = true ∧ inProgram s.par x = false)
    (form : s.mem.wf = true) :
    ∃ t, exec i s = .next t ∧
      (∀ q < w / 8 * k, maskBit s a w (q / (w / 8)) = true → readByte t (maskedAt s m q) = elem 8 q (readYmm s d)) ∧
      MemFrame s t (((List.range (w / 8 * k)).filter fun q => maskBit s a w (q / (w / 8))).map (maskedAt s m)) := by
  have size : 8 * (w / 8 * k) = w * k := by rw [← Nat.mul_assoc, ← whole]
  have allowed : EachSelected s m a w k fun x => writable s.par x = true := fun q hq bit => (pass q hq bit).1
  have free : (selectedSpan s.par.mode (effAddr s m) w (maskedElems s a w k)).any (inProgram s.par) = false := by
    rw [List.any_eq_false]
    exact (forall_selectedSpan_iff pos _).mpr fun q hq bit => by rw [(pass q hq bit).2]; exact Bool.false_ne_true
  rw [opMaskedStore_eq named place (by omega), checkSelected_ok pos canonical allowed] at he
  simp only [bind, Except.bind, free] at he
  refine ⟨_, he, fun q hq bit => ?written, fun _ => rfl, fun _ => rfl, rfl, rfl, fun x out => ?kept, rfl, rfl⟩
  case written =>
    have inside : w / 8 * k ≤ 2 ^ 32 := by omega
    refine (read_writeSelected whole pos (readVec (w * k) s d) form (nodup_maskedElems s a) (fun j hj => ?_)
      ((div_mem_maskedElems_iff s a pos q).mpr ⟨hq, bit⟩)).trans ?_
    · exact (Nat.mul_le_mul_left _ (lt_of_mem_maskedElems s a hj)).trans inside
    · rw [readVec, elem_setWidth _ (by omega)]
  case kept =>
    refine Memory.read_writeSelected_notMem _ _ _ _ _ fun mem => out ?_
    obtain ⟨q, ⟨inside, bit⟩, rfl⟩ := (mem_maskedSpan_iff pos _).mp mem
    exact List.mem_map_of_mem (List.mem_filter.mpr ⟨List.mem_range.mpr inside, bit⟩)

theorem maskedStore_intoProgram (allowed : EachSelected s m a w k fun x => writable s.par x = true)
    (hits : ¬ EachSelected s m a w k fun x => inProgram s.par x = false) : exec i s = .refused .storeIntoProgram := by
  have busy : (selectedSpan s.par.mode (effAddr s m) w (maskedElems s a w k)).any (inProgram s.par) = true := by
    rw [← forall_selectedSpan_iff pos] at hits
    simpa using hits
  rw [he, opMaskedStore_eq named place (by omega), checkSelected_ok pos canonical allowed]
  simp only [bind, Except.bind, busy]
  rfl

end

/-! ### The faults of both (log 20, 21) -/

section
variable {w k : Nat} {s : State} {m : MemOp} {a : Reg} {i : Instr} {ok : Addr → Bool} {rest : Unit → Res State}
  (he : exec i s = finish (checkSelected s.par.mode ok (effAddr s m) w (maskedElems s a w k) >>= rest))
include he

theorem masked_gp0 (outside : ¬ CanonicalSelected s m a w k) : exec i s = .fault .gp0 := by
  rw [he, checkSelected_gp0 ok outside]
  rfl

theorem masked_pf (pos : 0 < w / 8) (canonical : CanonicalSelected s m a w k) (fails : ∃ q, FailsAt s m a w k ok q) :
    ∃ q, FailsAt s m a w k ok q ∧ (∀ p, FailsAt s m a w k ok p → (maskedAt s m q).toNat ≤ (maskedAt s m p).toNat) ∧
      exec i s = .fault (.pf (maskedAt s m q)) := by
  obtain ⟨q, bad, least, stops⟩ := checkSelected_pf pos canonical fails
  exact ⟨q, bad, least, by rw [he, stops]; rfl⟩

end

/-- Settles O58: each instruction is the shared load or store at its element width and count. -/
theorem maskedMoves : Obligations.MaskedMoves := by
  intro s d a m named place at_ sel canon each pf loads stores
  have load : ∀ w k i, w = 8 * (w / 8) → 0 < w / 8 → w * k ≤ 256 → exec i s = opMaskedLoad (w * k) w d a m s →
      loads w k i := fun w k i whole pos fits he => by
    have checks := he.trans (opMaskedLoad_eq named place (by omega))
    exact ⟨fun canonical pass => vecResult_maskedLoad named place whole pos he fits canonical pass,
      masked_gp0 checks, masked_pf checks pos⟩
  have swapped : [a, d].all s.par.mode.names = true := by simpa [and_comm] using named
  have store : ∀ w k i, w = 8 * (w / 8) → 0 < w / 8 → w * k ≤ 256 → exec i s = opMaskedStore (w * k) w m a d s →
      stores w k i := fun w k i whole pos fits he => by
    have checks := he.trans (opMaskedStore_eq swapped place (by omega))
    exact ⟨fun canonical pass form => maskedStore_next swapped place whole pos he canonical fits pass form,
      fun canonical allowed hits => maskedStore_intoProgram swapped place whole pos he canonical allowed hits,
      masked_gp0 checks, masked_pf checks pos⟩
  exact ⟨load 32 4 _ rfl (by omega) (by omega) rfl, load 32 8 _ rfl (by omega) (by omega) rfl,
    load 64 2 _ rfl (by omega) (by omega) rfl, load 64 4 _ rfl (by omega) (by omega) rfl,
    store 32 4 _ rfl (by omega) (by omega) rfl, store 32 8 _ rfl (by omega) (by omega) rfl,
    store 64 2 _ rfl (by omega) (by omega) rfl, store 64 4 _ rfl (by omega) (by omega) rfl⟩

end Sys2Proof.Machine

/-! The four-operand multiply-adds (41_fma.md R180 to R200). The two operand orders are one frame, in which the value read from
ModRM.rm is the second factor or the addend: each lemma takes the operands from the function `f` that the frame applies to it. -/

namespace Sys2Proof.Machine

/-! ### Results built of elements with flags -/

/-- An instruction whose result is built of `k` elements, each with its flags. -/
theorem packedOutcome_of_frame {w n k q : Nat} {i : Instr} {s : State} {rs : List Reg} {d : Reg} {b : RegMem} {v : BitVec q}
    {f : BitVec q → BitVec n × FpFlags} {g : Nat → BitVec w × FpFlags} (h : Reads q 1 s rs b v)
    (he : exec i s = frame (readVecMem q 1) (fun t x => writeVex t d x) rs b f s) (hf : f v = vecFpOf n w k g)
    (hn : n ≤ 256) (hk : w * k ≤ n) : PackedOutcome w k i s d g := by
  refine numericOutcome_of_frame h.named h.place h.value he hn hk (fun j hj => ?elements) (fun j hj => ?above) ?flags
  case elements => rw [hf, elem_vecFpOf g hj hk]
  case above => rw [hf]; exact getLsbD_build_above _ hj
  case flags => rw [hf, vecFpOf_flags]

/-- A scalar form builds one element (R183, R184, R187, R188, R191, R192, R195, R196). -/
theorem fmaScalar_eq (N : Numerics) (F : Fmt) (negp negz : Bool) (c : Ctl) (x y z : BitVec F.width) :
    fmaScalar N F negp negz c x y z = vecFpOf 128 F.width 1 fun _ => N.ffma F c negp negz x y z := by
  simp [fmaScalar, vecFpOf, build, unionFlags]

/-! ### The three kinds of form -/

section
variable {n : Nat} {s : State} {rs : List Reg} {b : RegMem} {v : BitVec n} (h : Reads n 1 s rs b v) (hn : n ≤ 256) (F : Fmt)
  {N : Numerics} {c : Ctl} {i : Instr} {d : Reg} {f : BitVec n → BitVec n × FpFlags} {x y z : BitVec n}
  (he : exec i s = frame (readVecMem n 1) (fun t x => writeVex t d x) rs b f s)
include h hn he

/-- A plain packed form: the addend of every element is negated or that of none. -/
theorem packedOutcome_fmaPacked {negp negz : Bool} (hf : f v = fmaPacked N F negp negz c x y z) :
    PackedOutcome F.width (n / F.width) i s d fun j =>
      N.ffma F c negp negz (elem F.width j x) (elem F.width j y) (elem F.width j z) :=
  packedOutcome_of_frame h he hf hn (Nat.mul_div_le n F.width)

/-- An alternating form: the addends of one parity are negated (C13). -/
theorem packedOutcome_fmaAlternate {sub : Nat} (hf : f v = fmaAlternate N F sub c x y z) :
    PackedOutcome F.width (n / F.width) i s d fun j =>
      N.ffma F c false (decide (j % 2 = sub)) (elem F.width j x) (elem F.width j y) (elem F.width j z) :=
  packedOutcome_of_frame h he hf hn (Nat.mul_div_le n F.width)

end

/-- A scalar form: one element, and zero above it. -/
theorem packedOutcome_fmaScalar (F : Fmt) {s : State} {rs : List Reg} {b : RegMem} {v : BitVec F.width}
    (h : Reads F.width 1 s rs b v) {N : Numerics} {c : Ctl} {i : Instr} {d : Reg} {negp negz : Bool}
    {f : BitVec F.width → BitVec 128 × FpFlags} {x y z : BitVec F.width}
    (he : exec i s = frame (readVecMem F.width 1) (fun t x => writeVex t d x) rs b f s)
    (hf : f v = fmaScalar N F negp negz c x y z) :
    PackedOutcome F.width 1 i s d fun _ => N.ffma F c negp negz x y z :=
  packedOutcome_of_frame h he (hf.trans (fmaScalar_eq N F negp negz c x y z)) (by omega) (by cases F <;> decide)

/-! ### The instructions -/

/-- Settles O52: each instruction is a plain or an alternating form of one format, with its operands in the order of its W bit. -/
theorem packedMultiplyAdd : Obligations.PackedMultiplyAdd := by
  intro s d a c b N f alt
  simp only [List.forall_mem_cons]
  refine ⟨fun v h => ?x, fun v h => ?y⟩
  case x | y =>
    have plain := packedOutcome_fmaPacked h (by omega)
    have alternate := packedOutcome_fmaAlternate h (by omega)
    exact ⟨⟨plain .f32 rfl rfl, plain .f32 rfl rfl, plain .f32 rfl rfl, plain .f32 rfl rfl, List.forall_mem_nil _⟩,
      ⟨plain .f32 rfl rfl, plain .f32 rfl rfl, plain .f32 rfl rfl, plain .f32 rfl rfl, List.forall_mem_nil _⟩,
      alternate .f32 rfl rfl, alternate .f32 rfl rfl, alternate .f32 rfl rfl, alternate .f32 rfl rfl,
      ⟨plain .f64 rfl rfl, plain .f64 rfl rfl, plain .f64 rfl rfl, plain .f64 rfl rfl, List.forall_mem_nil _⟩,
      ⟨plain .f64 rfl rfl, plain .f64 rfl rfl, plain .f64 rfl rfl, plain .f64 rfl rfl, List.forall_mem_nil _⟩,
      alternate .f64 rfl rfl, alternate .f64 rfl rfl, alternate .f64 rfl rfl, alternate .f64 rfl rfl⟩

/-- Settles O53: each instruction is the scalar form of its signs, with its operands in the order of its W bit. -/
theorem scalarMultiplyAdd : Obligations.ScalarMultiplyAdd := by
  intro s d a c b N
  simp only [List.forall_mem_cons]
  refine ⟨fun v h => ?single, fun v h => ?double⟩
  case single =>
    have scalar := @packedOutcome_fmaScalar .f32 _ _ _ _ h
    exact ⟨⟨scalar rfl rfl, scalar rfl rfl, scalar rfl rfl, scalar rfl rfl, List.forall_mem_nil _⟩,
      scalar rfl rfl, scalar rfl rfl, scalar rfl rfl, scalar rfl rfl, List.forall_mem_nil _⟩
  case double =>
    have scalar := @packedOutcome_fmaScalar .f64 _ _ _ _ h
    exact ⟨⟨scalar rfl rfl, scalar rfl rfl, scalar rfl rfl, scalar rfl rfl, List.forall_mem_nil _⟩,
      scalar rfl rfl, scalar rfl rfl, scalar rfl rfl, scalar rfl rfl, List.forall_mem_nil _⟩

end Sys2Proof.Machine

/-! The inverse transformations of AES (42_aes.md R210, R212, R214). MixColumns and InvMixColumns multiply a column by two
polynomials over the field, so that one undoes the other is a statement about the four coefficients of their product. -/

namespace Sys2Proof.Machine

/-! ### Multiples are linear (R210) -/

theorem xt_eq (a : Byte) : xt a = a <<< 1 ^^^ (if a.getLsbD 7 then 0x1B else 0) := by
  rw [xt]
  split <;> simp

theorem xt_xor (a b : Byte) : xt (a ^^^ b) = xt a ^^^ xt b := by
  have reduction : ∀ p q : Bool,
      (if p ^^ q then (0x1B : Byte) else 0) = (if p then 0x1B else 0) ^^^ (if q then 0x1B else 0) := by decide
  rw [xt_eq, xt_eq a, xt_eq b, BitVec.shiftLeft_xor_distrib, BitVec.getLsbD_xor, reduction]
  ac_rfl

theorem gfMul_xor (k : Nat) (a b : Byte) : gfMul k (a ^^^ b) = gfMul k a ^^^ gfMul k b := by
  have digit : ∀ (p : Bool) (u v : Byte),
      (if p then u ^^^ v else 0) = (if p then u else 0) ^^^ (if p then v else 0) := by
    intro p u v
    cases p <;> simp
  simp only [gfMul, xt_xor, digit]
  ac_rfl

/-! ### A column (R210) -/

/-- The coefficients of the product of the two polynomials: one at a byte's own place, zero at the three others. The
multiples cancel as they stand, with no reduction in the field. -/
theorem unmix_coefficients (a : Byte) :
    gfMul 14 (gfMul 2 a) ^^^ gfMul 11 (gfMul 1 a) ^^^ gfMul 13 (gfMul 1 a) ^^^ gfMul 9 (gfMul 3 a) = a ∧
    gfMul 14 (gfMul 3 a) ^^^ gfMul 11 (gfMul 2 a) ^^^ gfMul 13 (gfMul 1 a) ^^^ gfMul 9 (gfMul 1 a) = 0 ∧
    gfMul 14 (gfMul 1 a) ^^^ gfMul 11 (gfMul 3 a) ^^^ gfMul 13 (gfMul 2 a) ^^^ gfMul 9 (gfMul 1 a) = 0 ∧
    gfMul 14 (gfMul 1 a) ^^^ gfMul 11 (gfMul 1 a) ^^^ gfMul 13 (gfMul 3 a) ^^^ gfMul 9 (gfMul 2 a) = 0 := by
  have left_comm : ∀ u v w : Byte, u ^^^ (v ^^^ w) = v ^^^ (u ^^^ w) := fun u v w => by ac_rfl
  simp [gfMul_one, gfMul_two, gfMul_three, gfMul_nine, gfMul_eleven, gfMul_thirteen, gfMul_fourteen, times3, times9,
    times11, times13, times14, xt_xor, BitVec.xor_assoc, BitVec.xor_comm, left_comm, xor_cancel_left]

/-- A row of four factors times a column of four bytes. -/
def rowMul (k0 k1 k2 k3 : Nat) (a b c d : Byte) : Byte := gfMul k0 a ^^^ gfMul k1 b ^^^ gfMul k2 c ^^^ gfMul k3 d

theorem rowMul_unmix (a b c d : Byte) :
    rowMul 14 11 13 9 (rowMul 2 3 1 1 a b c d) (rowMul 2 3 1 1 b c d a) (rowMul 2 3 1 1 c d a b)
      (rowMul 2 3 1 1 d a b c) = a := by
  obtain ⟨own, -, -, -⟩ := unmix_coefficients a
  obtain ⟨-, first, -, -⟩ := unmix_coefficients b
  obtain ⟨-, -, second, -⟩ := unmix_coefficients c
  obtain ⟨-, -, -, third⟩ := unmix_coefficients d
  calc
    _ = (gfMul 14 (gfMul 2 a) ^^^ gfMul 11 (gfMul 1 a) ^^^ gfMul 13 (gfMul 1 a) ^^^ gfMul 9 (gfMul 3 a)) ^^^
          (gfMul 14 (gfMul 3 b) ^^^ gfMul 11 (gfMul 2 b) ^^^ gfMul 13 (gfMul 1 b) ^^^ gfMul 9 (gfMul 1 b)) ^^^
          (gfMul 14 (gfMul 1 c) ^^^ gfMul 11 (gfMul 3 c) ^^^ gfMul 13 (gfMul 2 c) ^^^ gfMul 9 (gfMul 1 c)) ^^^
          (gfMul 14 (gfMul 1 d) ^^^ gfMul 11 (gfMul 1 d) ^^^ gfMul 13 (gfMul 3 d) ^^^ gfMul 9 (gfMul 2 d)) := by
      simp only [rowMul, gfMul_xor]
      ac_rfl
    _ = a := by rw [own, first, second, third, xor_zero, xor_zero, xor_zero]

/-- A mixed byte is a row of factors times its column, turned so that the byte itself comes first. -/
theorem mixedByte_eq_rowMul (k0 k1 k2 k3 : Nat) (f : Nat → Byte) (q r : Nat) :
    mixedByte k0 k1 k2 k3 f (q * 4 + r % 4) =
      rowMul k0 k1 k2 k3 (f (q * 4 + r % 4)) (f (q * 4 + (r + 1) % 4)) (f (q * 4 + (r + 2) % 4))
        (f (q * 4 + (r + 3) % 4)) := by
  have column : (q * 4 + r % 4) / 4 = q := by omega
  have own : (q * 4 + r % 4) % 4 = r % 4 := by omega
  have other : ∀ k, (q * 4 + r % 4 + k) % 4 = (r + k) % 4 := by omega
  simp only [mixedByte, rowMul, column, own, other, Nat.add_zero]

theorem mixedByte_mixedByte (f : Nat → Byte) (i : Nat) : mixedByte 14 11 13 9 (mixedByte 2 3 1 1 f) i = f i := by
  have place : i = i / 4 * 4 + i % 4 := by omega
  have turn : ∀ k, (i + (k + 4)) % 4 = (i + k) % 4 := by omega
  rw [place]
  simp only [mixedByte_eq_rowMul, Nat.add_assoc, Nat.reduceAdd, turn 0, turn 1, turn 2, Nat.add_zero]
  exact rowMul_unmix _ _ _ _

/-! ### A 128-bit value (R210) -/

theorem eq_of_bytes_eq {x y : BitVec 128} (same : ∀ i < 16, elem 8 i x = elem 8 i y) : x = y :=
  eq_of_elem_eq (w := 8) (by omega) (by omega) same

section
variable (x k : BitVec 128)

theorem invMixColumns_mixColumns : invMixColumns (mixColumns x) = x := by
  refine eq_of_bytes_eq fun i hi => ?_
  rw [elem_invMixColumns _ hi, mixedByte_congr (fun n hn => elem_mixColumns x hn) hi, mixedByte_mixedByte]

theorem invShiftRows_shiftRows : invShiftRows (shiftRows x) = x := by
  refine eq_of_bytes_eq fun i hi => ?_
  rw [elem_invShiftRows _ hi, elem_shiftRows _ (by omega)]
  congr 1
  omega

/-- The row shift moves whole bytes, so it does not matter whether they are substituted before or after. -/
theorem invShiftRows_subBytes : invShiftRows (subBytes x) = subBytes (invShiftRows x) :=
  eq_of_bytes_eq fun i hi => by
    rw [elem_invShiftRows _ hi, elem_subBytes _ (by omega), elem_subBytes _ hi, elem_invShiftRows _ hi]

/-- The two tables, entry by entry. -/
theorem invSubByte_subByte : ∀ v : Byte, invSubByte (subByte v) = v := by decide

theorem invSubBytes_subBytes : invSubBytes (subBytes x) = x :=
  eq_of_bytes_eq fun i hi => by rw [elem_invSubBytes _ hi, elem_subBytes _ hi, invSubByte_subByte]

/-! ### The last rounds (R212, R214) -/

theorem aesDecLast_aesEncLast : aesDecLast (aesEncLast x k ^^^ k) 0 = x := by
  have added : aesEncLast x k ^^^ k = subBytes (shiftRows x) := xor_cancel_right _ k
  calc
    aesDecLast (aesEncLast x k ^^^ k) 0
    _ = invSubBytes (invShiftRows (subBytes (shiftRows x))) := by rw [added, aesDecLast, xor_zero]
    _ = invSubBytes (subBytes (invShiftRows (shiftRows x))) := by rw [invShiftRows_subBytes]
    _ = x := by rw [invSubBytes_subBytes, invShiftRows_shiftRows]

end

/-- Settles O57: each inverse undoes its transformation byte by byte, and the last rounds are made of two of them. -/
theorem aesTransformationsInvert : Obligations.AesTransformationsInvert :=
  ⟨invSubByte_subByte, invShiftRows_shiftRows, invMixColumns_mixColumns, aesDecLast_aesEncLast⟩

end Sys2Proof.Machine

/-! Shuffles and unpacks (43_sse_on_ymm.md R246, R247, R250 to R253; 47_three_operand_xmm_int_c.md R440 to R447): which element
each of their functions puts at a place. -/

namespace Sys2Proof.Machine

section
variable {n w j : Nat} (x y : BitVec n)

theorem elem_shufPs (imm : BitVec 8) (hj : j < n / 32) :
    elem 32 j (shufPs imm x y) = elem 32 (j / 4 * 4 + imm.toNat / 4 ^ (j % 4) % 4) (if j % 4 < 2 then x else y) := by
  rw [shufPs, elem_vec _ hj, fieldNat_eq, Nat.pow_mul]

theorem elem_shufPd (imm : BitVec 8) (hj : j < n / 64) :
    elem 64 j (shufPd imm x y) = elem 64 (j / 2 * 2 + imm.toNat / 2 ^ j % 2) (if j % 2 = 0 then x else y) := by
  rw [shufPd, elem_vec _ hj, bitNat_eq]

/-- An unpack skips the low half of its lane, or nothing: a multiple of half a lane. -/
theorem elem_unpack (high : Bool) (hj : j < n / w) :
    elem w j (unpack w high x y) =
      let p := 128 / w
      elem w (j / p * p + high.toNat * (p / 2) + j % p / 2) (if j % 2 = 0 then x else y) := by
  have half : (if high then 128 / w / 2 else 0) = high.toNat * (128 / w / 2) := by cases high <;> simp
  rw [unpack, elem_vec _ hj, half]

end

/-- Settles O37: each result element by the lemma about the function of its instruction; at 128 bits the only lane begins
at element 0. -/
theorem shufflesAndUnpacks : Obligations.ShufflesAndUnpacks := by
  intro s d a b imm un
  have onlyLane : ∀ {j k : Nat}, j < k → j / k * k = 0 := fun h => by rw [Nat.div_eq_of_lt h, Nat.zero_mul]
  simp only [List.forall_mem_cons]
  refine ⟨fun v h => ?x, fun v h => ?y⟩
  case x =>
    have unpacked := fun w high i he hw =>
      vecResult_opRVM (w := w) (k := 128 / w) (i := i) h he (by omega) hw fun j hj => elem_unpack _ v high hj
    refine ⟨vecResult_opRVM h rfl (by omega) rfl fun j hj => ?_, vecResult_opRVM h rfl (by omega) rfl fun j hj => ?_,
      ⟨unpacked 32 false _ rfl rfl, unpacked 32 true _ rfl rfl, unpacked 32 false _ rfl rfl, unpacked 32 true _ rfl rfl,
        List.forall_mem_nil _⟩,
      ⟨unpacked 64 false _ rfl rfl, unpacked 64 true _ rfl rfl, unpacked 64 false _ rfl rfl, unpacked 64 true _ rfl rfl,
        List.forall_mem_nil _⟩,
      ⟨unpacked 8 false _ rfl rfl, unpacked 8 true _ rfl rfl, List.forall_mem_nil _⟩,
      unpacked 16 false _ rfl rfl, unpacked 16 true _ rfl rfl, List.forall_mem_nil _⟩
    · rw [elem_shufPs _ v imm hj, onlyLane hj, Nat.mod_eq_of_lt hj, Nat.zero_add]
    · rw [elem_shufPd _ v imm hj, onlyLane hj, Nat.mod_eq_of_lt hj, Nat.zero_add]
  case y =>
    have unpacked := fun w high i he hw =>
      vecResult_opRVM (w := w) (k := 256 / w) (i := i) h he (by omega) hw fun j hj => elem_unpack _ v high hj
    exact ⟨vecResult_opRVM h rfl (by omega) rfl fun j hj => elem_shufPs _ v imm hj,
      vecResult_opRVM h rfl (by omega) rfl fun j hj => elem_shufPd _ v imm hj,
      ⟨unpacked 32 false _ rfl rfl, unpacked 32 true _ rfl rfl, List.forall_mem_nil _⟩,
      unpacked 64 false _ rfl rfl, unpacked 64 true _ rfl rfl, List.forall_mem_nil _⟩

end Sys2Proof.Machine

/-! The packed square roots, roundings and compares (43_sse_on_ymm.md R244, R245, R248, R249; 44_three_operand_xmm_ymm_b.md
R291, R292) and the approximations (05_numerics.md R586). -/

namespace Sys2Proof.Machine

/-! ### Fields of the immediate -/

/-- A rounding takes bits 3:0 of the immediate (R244). -/
theorem roundElem_eq (N : Numerics) (F : Fmt) (imm : BitVec 8) :
    roundElem N F imm = fun c x => N.fround F c (imm.setWidth 4) x := by
  funext c x
  rw [roundElem, BitVec.setWidth_eq_extractLsb' (by omega)]

/-- A compare takes its predicate from bits 4:0 of the immediate (R291). -/
theorem cmpMask_eq (N : Numerics) (F : Fmt) (imm : BitVec 8) :
    cmpMask N F imm = fun c x y =>
      let r := N.fcmp F c (imm.setWidth 5) x y
      (if r.1 then BitVec.allOnes F.width else 0, r.2) := by
  funext c x y
  rw [cmpMask, BitVec.setWidth_eq_extractLsb' (by omega)]
  rfl

/-! ### Element by element -/

section
variable {n : Nat} (hn : n ≤ 256) (F : Fmt) {i : Instr} {s : State} {d a : Reg} {b : RegMem} {v : BitVec n} {N : Numerics}
  {imm : BitVec 8}
include hn

theorem packedOutcome_packed1 {f : Ctl → BitVec F.width → BitVec F.width × FpFlags} (h : Reads n 1 s [d] b v)
    (he : exec i s = opRMfp n n (packed1 f) d b s) :
    PackedOutcome F.width (n / F.width) i s d fun j => f (ctl s) (elem F.width j v) :=
  packedOutcome_of_frame h he rfl hn (Nat.mul_div_le n F.width)

theorem packedOutcome_round (h : Reads n 1 s [d] b v) (he : exec i s = opRMfp n n (packed1 (roundElem N F imm)) d b s) :
    PackedOutcome F.width (n / F.width) i s d fun j => N.fround F (ctl s) (imm.setWidth 4) (elem F.width j v) :=
  packedOutcome_packed1 hn F h (roundElem_eq N F imm ▸ he)

theorem packedOutcome_cmp (h : Reads n 1 s [d, a] b v)
    (he : exec i s = opRVMfp n n (packed2 (cmpMask N F imm)) d a b s) :
    PackedOutcome F.width (n / F.width) i s d fun j =>
      let r := N.fcmp F (ctl s) (imm.setWidth 5) (elem F.width j (readVec n s a)) (elem F.width j v)
      (if r.1 then BitVec.allOnes F.width else 0, r.2) :=
  packedOutcome_of_frame h (cmpMask_eq N F imm ▸ he) rfl hn (Nat.mul_div_le n F.width)

end

/-- Settles O47: each instruction applies one function to every element, a rounding or a compare under its field of the
immediate. -/
theorem packedRootsRoundingsAndCompares : Obligations.PackedRootsRoundingsAndCompares := by
  intro s d a b imm
  refine ⟨fun v h => ?oneX, fun v h => ?oneY, fun v h => ?twoX, fun v h => ?twoY⟩
  case oneX | oneY =>
    exact ⟨packedOutcome_packed1 (by omega) .f32 h rfl, packedOutcome_packed1 (by omega) .f64 h rfl,
      packedOutcome_round (by omega) .f32 h rfl, packedOutcome_round (by omega) .f64 h rfl⟩
  case twoX | twoY =>
    exact ⟨packedOutcome_cmp (by omega) .f32 h rfl, packedOutcome_cmp (by omega) .f64 h rfl⟩

/-! ### Approximations (R586) -/

section
variable {n w : Nat} {i : Instr} {s : State} {d a : Reg} {b : RegMem}

/-- A function of every element of the source, without flags (R242, R243). -/
theorem vecResult_mapVec {v : BitVec n} (g : BitVec w → BitVec w) (h : Reads n 1 s [d] b v)
    (he : exec i s = opRM n n (fun v => vec n w fun j => g (elem w j v)) d b s) (hn : n ≤ 256) (hk : w * (n / w) = n) :
    VecResult w (n / w) i s d fun j => g (elem w j v) :=
  vecResult_opRM h he hn hk fun _ hj => elem_vec _ hj

/-- A function of the second source in element 0, the rest from the first source, without flags (R299, R300). -/
theorem vecResult_setLow {v : BitVec w} (g : BitVec w → BitVec w) (h : Reads w 1 s [d, a] b v)
    (he : exec i s = opRVM 128 w (fun x v => setElem w 0 (g v) x) d a b s) (hk : w * (128 / w) = 128) :
    VecResult w (128 / w) i s d fun j => if j = 0 then g v else elem w j (readVec 128 s a) :=
  vecResult_opRVM h he (by omega) hk fun _ hj => elem_setElem _ _ hj

end

/-- Settles O51: a packed form computes every element, a scalar form replaces element 0. -/
theorem approximationInstructions : Obligations.ApproximationInstructions := by
  intro s d a b N
  refine ⟨fun v h => ?x, fun v h => ?y, fun v h => ?scalar⟩
  case x | y => exact ⟨vecResult_mapVec N.frcp h rfl (by omega) rfl, vecResult_mapVec N.frsqrt h rfl (by omega) rfl⟩
  case scalar => exact ⟨vecResult_setLow N.frcp h rfl rfl, vecResult_setLow N.frsqrt h rfl rfl⟩

end Sys2Proof.Machine

/-! Conversions: packed (43_sse_on_ymm.md R221 to R228), and those to a general register with the sign masks (R237, R238;
49_conversions.md R476, R477, R479, R480). -/

namespace Sys2Proof.Machine

/-! ### Packed conversions -/

/-- Integers to doubles: the flags of the elements are dropped, since the conversion is exact (R221). -/
theorem vecResult_cvtDqPd {n k m : Nat} {N : Numerics} {i : Instr} {s : State} {d : Reg} {b : RegMem} {v : BitVec m}
    (h : Reads m 1 s [d] b v) (he : exec i s = opRMfp n m (cvtDqPd N n) d b s) (hn : n ≤ 256) (hk : 64 * k = n) :
    VecResult 64 k i s d fun j => (N.cvtIF .f64 (ctl s) (elem 32 j v)).1 :=
  vecResult_of_frame h.named h.place h.value he hn (le_of_eq hk) (fun _ hj => elem_vec _ (by omega))
    (fun _ hj => BitVec.getLsbD_of_ge _ _ (by omega)) rfl

/-- Settles O54: each conversion but VCVTDQ2PD is built of its elements with their flags. -/
theorem packedConversions : Obligations.PackedConversions := by
  intro s d b N c
  refine ⟨fun v h => ?from64, fun v h => ?from128, fun v h => ?from256⟩
  case from64 =>
    exact ⟨packedOutcome_of_frame h rfl rfl (by omega) (by omega), vecResult_cvtDqPd h rfl (by omega) rfl⟩
  case from128 =>
    have packed := fun k (fits : 32 * k ≤ 128) g i f he hf =>
      packedOutcome_of_frame (n := 128) (d := d) (g := g) (i := i) (f := f) h he hf (by omega) fits
    exact ⟨packedOutcome_of_frame h rfl rfl (by omega) (by omega), vecResult_cvtDqPd h rfl (by omega) rfl,
      packed 2 (by omega) _ _ _ rfl rfl, packed 2 (by omega) _ _ _ rfl rfl, packed 2 (by omega) _ _ _ rfl rfl,
      packed 4 (by omega) _ _ _ rfl rfl, packed 4 (by omega) _ _ _ rfl rfl, packed 4 (by omega) _ _ _ rfl rfl⟩
  case from256 =>
    have packed := fun n k (wide : n ≤ 256) (fits : 32 * k ≤ n) g i f he hf =>
      packedOutcome_of_frame (d := d) (g := g) (i := i) (f := f) h he hf wide fits
    exact ⟨packed 128 4 (by omega) (by omega) _ _ _ rfl rfl, packed 128 4 (by omega) (by omega) _ _ _ rfl rfl,
      packed 128 4 (by omega) (by omega) _ _ _ rfl rfl, packed 256 8 (by omega) (by omega) _ _ _ rfl rfl,
      packed 256 8 (by omega) (by omega) _ _ _ rfl rfl, packed 256 8 (by omega) (by omega) _ _ _ rfl rfl⟩

/-! ### Sign masks (R237, R238) -/

theorem getLsbD_signBits {n : Nat} (w : Nat) (x : BitVec n) {j : Nat} (hj : j < 32) :
    (signBits w x).getLsbD j = (decide (j < n / w) && x.getLsbD (w * j + (w - 1))) := by
  rw [signBits, getLsbD_build, Nat.one_mul, Nat.div_one, Nat.mod_one, elem_one, BitVec.getLsbD_ofBool]
  simp [hj]

/-- The sign bit of an element that a read of `n` bits holds is that of the register. -/
theorem getLsbD_readVec_sign {n w j : Nat} (s : State) (r : Reg) (hj : j < n / w) :
    (readVec n s r).getLsbD (w * j + (w - 1)) = (readYmm s r).getLsbD (w * j + (w - 1)) := by
  have within : w * j + w ≤ n := (Nat.mul_le_mul_left w hj).trans (Nat.mul_div_le n w)
  have inside : w * j + (w - 1) < n := by
    rcases Nat.eq_zero_or_pos w with rfl | pos
    · simp at hj
    · omega
  rw [readVec, BitVec.getLsbD_setWidth, decide_eq_true inside, Bool.true_and]

/-- A sign-mask move delivers the sign bits, and no flag. -/
theorem gprOutcome_signBits (n w : Nat) {i : Instr} {s : State} {d r : Reg} (named : [d, r].all s.par.mode.names = true)
    (he : exec i s = opToGpr32 n (fun _ v => (signBits w v, 0)) d (.reg r) s) :
    ∃ x : BitVec 32,
      (∀ j < 32, x.getLsbD j = (decide (j < n / w) && (readYmm s r).getLsbD (w * j + (w - 1)))) ∧
        GprOutcome i s d (gprAfter32 s d x) 0 := by
  obtain ⟨destination, source⟩ : s.par.mode.names d = true ∧ s.par.mode.names r = true := by simpa using named
  have read : Reads n 1 s [d] (.reg r) (readVec n s r) := ⟨by simpa using destination, source, rfl⟩
  refine ⟨signBits w (readVec n s r), fun j hj => ?_, gprOutcome_opToGpr32 read he⟩
  rw [getLsbD_signBits w _ hj]
  by_cases below : j < n / w
  · rw [getLsbD_readVec_sign s r below]
  · simp [below]

/-! ### Results in general registers -/

theorem needMode64_mode32 {s : State} (mode : s.par.mode = .mode32) (k : Out) :
    needMode64 s k = .refused .operandNotInMode := by
  rw [needMode64, mode]

section
variable (F : Fmt) {i : Instr} {s : State} {d : Reg} {b : RegMem} {v : BitVec F.width} {N : Numerics} {trunc : Bool}
  (h : Reads F.width 1 s [d] b v)
include h

theorem gprOutcome_cvtToInt32 (he : exec i s = opToGpr32 F.width (cvtToInt N F 32 trunc) d b s) :
    GprOutcome i s d (gprAfter32 s d (N.cvtFI F (ctl s) 32 trunc v).1) (N.cvtFI F (ctl s) 32 trunc v).2 :=
  gprOutcome_opToGpr32 h he

theorem gprOutcome_cvtToInt64 (mode : s.par.mode = .mode64)
    (he : exec i s = opToGpr64 F.width (cvtToInt N F 64 trunc) d b s) :
    GprOutcome i s d (N.cvtFI F (ctl s) 64 trunc v).1 (N.cvtFI F (ctl s) 64 trunc v).2 :=
  gprOutcome_opToGpr64 h mode he

end

/-- Settles O55: each conversion is the shared general-register form of its width, each mask move that of the sign bits. -/
theorem resultsInGeneralRegisters : Obligations.ResultsInGeneralRegisters := by
  intro s d r b N c mask
  simp only [List.forall_mem_cons]
  refine ⟨fun v h => ?single32, fun v h => ?double32, fun mode => ⟨fun v h => ?single64, fun v h => ?double64⟩,
    fun mode => ?refused, fun named => ?masks⟩
  case single32 => exact ⟨gprOutcome_cvtToInt32 .f32 h rfl, gprOutcome_cvtToInt32 .f32 h rfl, List.forall_mem_nil _⟩
  case double32 => exact ⟨gprOutcome_cvtToInt32 .f64 h rfl, gprOutcome_cvtToInt32 .f64 h rfl, List.forall_mem_nil _⟩
  case single64 =>
    exact ⟨gprOutcome_cvtToInt64 .f32 h mode rfl, gprOutcome_cvtToInt64 .f32 h mode rfl, List.forall_mem_nil _⟩
  case double64 =>
    exact ⟨gprOutcome_cvtToInt64 .f64 h mode rfl, gprOutcome_cvtToInt64 .f64 h mode rfl, List.forall_mem_nil _⟩
  case refused =>
    have refuse := needMode64_mode32 mode
    exact ⟨refuse _, refuse _, refuse _, refuse _, List.forall_mem_nil _⟩
  case masks =>
    exact ⟨gprOutcome_signBits 128 32 named rfl, gprOutcome_signBits 256 32 named rfl,
      gprOutcome_signBits 128 64 named rfl, gprOutcome_signBits 256 64 named rfl⟩

end Sys2Proof.Machine

/-! Three-operand arithmetic and bitwise logic on vectors (44_three_operand_xmm_ymm_a.md R261 to R290;
44_three_operand_xmm_ymm_b.md R293 to R296, R301 to R304; 45_three_operand_xmm_fp.md R321 to R328;
46_three_operand_xmm_int_a.md R365 to R368; 49_conversions.md R478, R481). -/

namespace Sys2Proof.Machine

/-! ### Bitwise logic (R283 to R290, R365 to R368) -/

theorem getLsbD_andNot {n : Nat} (x y : BitVec n) (j : Nat) :
    (andNot x y).getLsbD j = (!x.getLsbD j && y.getLsbD j) := by
  rw [andNot, BitVec.getLsbD_and, BitVec.getLsbD_not]
  rcases Nat.lt_or_ge j n with inside | outside
  · simp [inside]
  · simp [BitVec.getLsbD_of_ge y j outside]

/-- An instruction whose result applies one Boolean function to the bits of the two sources. -/
theorem vecResult_bitwise {n : Nat} {i : Instr} {s : State} {d a : Reg} {b : RegMem} {v : BitVec n}
    {f : BitVec n → BitVec n → BitVec n} (op : Bool → Bool → Bool) (h : Reads n 1 s [d, a] b v) (hn : n ≤ 256)
    (bits : ∀ x y j, (f x y).getLsbD j = op (x.getLsbD j) (y.getLsbD j)) (he : exec i s = opRVM n n f d a b s) :
    VecResult 1 n i s d fun j => BitVec.ofBool (op ((readVec n s a).getLsbD j) (v.getLsbD j)) :=
  vecResult_opRVM h he hn (Nat.one_mul n) fun j _ => by rw [elem_one, bits]

/-- Settles O40: each instruction applies the Boolean function of its name to every bit. -/
theorem bitwiseLogic : Obligations.BitwiseLogic := by
  intro s d a b
  simp only [List.forall_mem_cons]
  refine ⟨fun v h => ?x, fun v h => ?y⟩
  all_goals
    have both := fun i => vecResult_bitwise (i := i) (fun x y => x && y) h (by omega) fun _ _ _ => BitVec.getLsbD_and
    have either := fun i => vecResult_bitwise (i := i) (fun x y => x || y) h (by omega) fun _ _ _ => BitVec.getLsbD_or
    have differ := fun i => vecResult_bitwise (i := i) (fun x y => x != y) h (by omega) fun _ _ _ => BitVec.getLsbD_xor
    have complement := fun i => vecResult_bitwise (i := i) (fun x y => !x && y) h (by omega) getLsbD_andNot
  case x =>
    exact ⟨both _ rfl, both _ rfl, both _ rfl, either _ rfl, either _ rfl, either _ rfl, differ _ rfl, differ _ rfl,
      differ _ rfl, complement _ rfl, complement _ rfl, complement _ rfl, List.forall_mem_nil _⟩
  case y =>
    exact ⟨both _ rfl, both _ rfl, either _ rfl, either _ rfl, differ _ rfl, differ _ rfl, complement _ rfl,
      complement _ rfl, List.forall_mem_nil _⟩

/-! ### Packed arithmetic (R261 to R266, R269, R270, R279 to R282) -/

section
variable {n : Nat} {s : State} {d a : Reg} {b : RegMem} {v : BitVec n} (h : Reads n 1 s [d, a] b v) (hn : n ≤ 256) (F : Fmt)
  {i : Instr}
include h hn

/-- An instruction of two vector sources whose result is given element by element. -/
theorem packedOutcome_vecFp {f : Ctl → BitVec n → BitVec n → BitVec n × FpFlags} {g : Nat → BitVec F.width × FpFlags}
    (he : exec i s = opRVMfp n n f d a b s) (hf : f (ctl s) (readVec n s a) v = vecFp n F.width g) :
    PackedOutcome F.width (n / F.width) i s d g :=
  packedOutcome_of_frame h he hf hn (Nat.mul_div_le n F.width)

/-- An instruction that applies a function with flags to each pair of elements of its two sources. -/
theorem packedOutcome_packed2 {f : Ctl → BitVec F.width → BitVec F.width → BitVec F.width × FpFlags}
    (he : exec i s = opRVMfp n n (packed2 f) d a b s) :
    PackedOutcome F.width (n / F.width) i s d fun j =>
      f (ctl s) (elem F.width j (readVec n s a)) (elem F.width j v) :=
  packedOutcome_vecFp h hn F he rfl

end

/-- Settles O46: each instruction applies its function to every pair of elements. -/
theorem packedArithmetic : Obligations.PackedArithmetic := by
  intro s d a b N
  simp only [List.forall_mem_cons]
  refine ⟨fun v h => ?x, fun v h => ?y⟩
  case x | y =>
    have packed := packedOutcome_packed2 h (by omega)
    exact ⟨⟨packed .f32 rfl, packed .f32 rfl, packed .f32 rfl, packed .f32 rfl, packed .f32 rfl, packed .f32 rfl,
        List.forall_mem_nil _⟩,
      packed .f64 rfl, packed .f64 rfl, packed .f64 rfl, packed .f64 rfl, packed .f64 rfl, packed .f64 rfl,
      List.forall_mem_nil _⟩

/-! ### Scalar forms (R267, R268, R271, R272; R293 to R296, R301 to R304; R321 to R328; R478, R481) -/

/-- An instruction whose result replaces element 0 of its first source. -/
theorem scalarOutcome_of_frame {w q : Nat} {i : Instr} {s : State} {rs : List Reg} {d a : Reg} {b : RegMem} {v : BitVec q}
    {f : BitVec q → BitVec 128 × FpFlags} {read : State → RegMem → Res (BitVec q)} {r : BitVec w × FpFlags}
    (named : rs.all s.par.mode.names = true) (place : regMemNamed s.par.mode b = true) (value : read s b = .ok v)
    (he : exec i s = frame read (fun t x => writeVex t d x) rs b f s) (hf : f v = scalarFp w (readVec 128 s a) r)
    (hw : w * (128 / w) = 128) : ScalarOutcome w i s d a r := by
  refine numericOutcome_of_frame named place value he (by omega) (le_of_eq hw) (fun j hj => ?elements)
    (fun j hj => BitVec.getLsbD_of_ge _ _ (by omega)) ?flags
  case elements => rw [hf, scalarFp, elem_setElem _ _ hj]
  case flags => rw [hf, scalarFp]

theorem width_mul_div_width (F : Fmt) : F.width * (128 / F.width) = 128 := by cases F <;> rfl

section
variable {i : Instr} {s : State} {d a : Reg} {b : RegMem}

section
variable (F : Fmt) {v : BitVec F.width} (h : Reads F.width 1 s [d, a] b v)
include h

theorem scalarOutcome_scalar2 {f : Ctl → BitVec F.width → BitVec F.width → BitVec F.width × FpFlags}
    (he : exec i s = opRVMfp 128 F.width (scalar2 f) d a b s) :
    ScalarOutcome F.width i s d a (f (ctl s) (elem F.width 0 (readVec 128 s a)) v) :=
  scalarOutcome_of_frame h.named h.place h.value he rfl (width_mul_div_width F)

theorem scalarOutcome_scalar1 {f : Ctl → BitVec F.width → BitVec F.width × FpFlags}
    (he : exec i s = opRVMfp 128 F.width (scalar1 f) d a b s) : ScalarOutcome F.width i s d a (f (ctl s) v) :=
  scalarOutcome_of_frame h.named h.place h.value he rfl (width_mul_div_width F)

theorem scalarOutcome_round {N : Numerics} {imm : BitVec 8}
    (he : exec i s = opRVMfp 128 F.width (scalar1 (roundElem N F imm)) d a b s) :
    ScalarOutcome F.width i s d a (N.fround F (ctl s) (imm.setWidth 4) v) :=
  scalarOutcome_scalar1 F h (roundElem_eq N F imm ▸ he)

theorem scalarOutcome_cmp {N : Numerics} {imm : BitVec 8}
    (he : exec i s = opRVMfp 128 F.width (scalar2 (cmpMask N F imm)) d a b s) :
    ScalarOutcome F.width i s d a
      (let r := N.fcmp F (ctl s) (imm.setWidth 5) (elem F.width 0 (readVec 128 s a)) v
      (if r.1 then BitVec.allOnes F.width else 0, r.2)) :=
  scalarOutcome_scalar2 F h (cmpMask_eq N F imm ▸ he)

theorem scalarOutcome_cvtScalar (G : Fmt) {N : Numerics}
    (he : exec i s = opRVMfp 128 F.width (cvtScalar N F G) d a b s) :
    ScalarOutcome G.width i s d a (N.cvtFF F G (ctl s) v) :=
  scalarOutcome_of_frame h.named h.place h.value he rfl (width_mul_div_width G)

end

theorem scalarOutcome_cvtFromInt (F : Fmt) {n : Nat} {v : BitVec n} {N : Numerics} (h : ReadsGpr n s [d, a] b v)
    (he : exec i s = opFromGpr n (cvtFromInt N F) d a b s) : ScalarOutcome F.width i s d a (N.cvtIF F (ctl s) v) :=
  scalarOutcome_of_frame h.named h.place h.value he rfl (width_mul_div_width F)

end

theorem needMode64_mode64 {s : State} (mode : s.par.mode = .mode64) (k : Out) : needMode64 s k = k := by
  rw [needMode64, mode]

/-- Settles O48: each instruction replaces element 0 of its first source; the forms from a 64-bit register want Mode64. -/
theorem scalarArithmetic : Obligations.ScalarArithmetic := by
  intro s d a b imm N c x y mask
  simp only [List.forall_mem_cons]
  refine ⟨fun v h => ?single, fun v h => ?double, fun v h => ?from32, fun mode v h => ?from64, fun mode => ?refused⟩
  case single =>
    have two := fun i f => scalarOutcome_scalar2 (i := i) (f := f) .f32 h
    exact ⟨⟨two _ _ rfl, two _ _ rfl, two _ _ rfl, two _ _ rfl, two _ _ rfl, two _ _ rfl, scalarOutcome_scalar1 .f32 h rfl,
        scalarOutcome_round .f32 h rfl, scalarOutcome_cmp .f32 h rfl, List.forall_mem_nil _⟩,
      scalarOutcome_cvtScalar .f32 h .f64 rfl⟩
  case double =>
    have two := fun i f => scalarOutcome_scalar2 (i := i) (f := f) .f64 h
    exact ⟨⟨two _ _ rfl, two _ _ rfl, two _ _ rfl, two _ _ rfl, two _ _ rfl, two _ _ rfl, scalarOutcome_scalar1 .f64 h rfl,
        scalarOutcome_round .f64 h rfl, scalarOutcome_cmp .f64 h rfl, List.forall_mem_nil _⟩,
      scalarOutcome_cvtScalar .f64 h .f32 rfl⟩
  case from32 => exact ⟨scalarOutcome_cvtFromInt .f32 h rfl, scalarOutcome_cvtFromInt .f64 h rfl⟩
  case from64 =>
    have run := needMode64_mode64 mode
    exact ⟨scalarOutcome_cvtFromInt .f32 h (run _), scalarOutcome_cvtFromInt .f64 h (run _)⟩
  case refused =>
    have refuse := needMode64_mode32 mode
    exact ⟨refuse _, refuse _⟩

/-! ### Horizontal and alternating arithmetic (R273 to R278) -/

theorem pairStart_two (j : Nat) : pairStart 2 j = j / 4 * 4 + 2 * (j % 2) := by
  rw [pairStart]
  omega

theorem pairStart_one (j : Nat) : pairStart 1 j = j / 2 * 2 := by
  rw [pairStart]
  omega

/-- A lane has four single-precision elements, two of each source. -/
theorem horizontal_f32 {n : Nat} (f : Ctl → BitVec 32 → BitVec 32 → BitVec 32 × FpFlags) (c : Ctl) (x y : BitVec n) :
    horizontal .f32 (fun _ => f) c x y = vecFp n 32 fun j =>
      let z := if j % 4 < 2 then x else y
      let k := j / 4 * 4 + 2 * (j % 2)
      f c (elem 32 k z) (elem 32 (k + 1) z) := by
  show vecFp n 32 (fun j =>
    let z := if j % 4 < 2 then x else y
    f c (elem 32 (pairStart 2 j) z) (elem 32 (pairStart 2 j + 1) z)) = _
  simp only [pairStart_two]

/-- A lane has two double-precision elements, one of each source. -/
theorem horizontal_f64 {n : Nat} (f : Ctl → BitVec 64 → BitVec 64 → BitVec 64 × FpFlags) (c : Ctl) (x y : BitVec n) :
    horizontal .f64 (fun _ => f) c x y = vecFp n 64 fun j =>
      let z := if j % 2 = 0 then x else y
      f c (elem 64 (j / 2 * 2) z) (elem 64 (j / 2 * 2 + 1) z) := by
  show vecFp n 64 (fun j =>
    let z := if j % 2 < 1 then x else y
    f c (elem 64 (pairStart 1 j) z) (elem 64 (pairStart 1 j + 1) z)) = _
  simp only [pairStart_one, Nat.lt_one_iff]

/-- The parity of an element chooses the function. -/
theorem addSub_eq {n : Nat} (N : Numerics) (F : Fmt) (c : Ctl) (x y : BitVec n) :
    addSub N F c x y = vecFp n F.width fun j =>
      (if j % 2 = 0 then N.fsub F else N.fadd F) c (elem F.width j x) (elem F.width j y) := by
  rw [addSub]
  congr 1
  funext j
  split <;> rfl

/-- Settles O49: each instruction is built of the elements that the lemma about its function gives. -/
theorem horizontalAndAlternatingArithmetic : Obligations.HorizontalAndAlternatingArithmetic := by
  intro s d a b N c h32 h64 s32 s64
  refine ⟨fun v h => ?x, fun v h => ?y⟩
  case x | y =>
    have packed := packedOutcome_vecFp h (by omega)
    exact ⟨packed .f32 rfl (horizontal_f32 _ _ _ _), packed .f32 rfl (horizontal_f32 _ _ _ _),
      packed .f64 rfl (horizontal_f64 _ _ _ _), packed .f64 rfl (horizontal_f64 _ _ _ _),
      packed .f32 rfl (addSub_eq N .f32 _ _ _), packed .f64 rfl (addSub_eq N .f64 _ _ _)⟩

end Sys2Proof.Machine

/-! Moves that replace one part of the first source (44_three_operand_xmm_ymm_b.md R297, R298;
45_three_operand_xmm_fp.md R329 to R334), the packs (44_three_operand_xmm_ymm_b.md R305 to R308) and the insertions
(46_three_operand_xmm_int_a.md R379 to R382). -/

namespace Sys2Proof.Machine

/-! ### Scalar register moves and half moves (R297, R298, R329 to R334) -/

/-- A register that the mode can name can be read at every width. -/
theorem reads_reg (w : Nat) {s : State} {d a b : Reg} (named : [d, a, b].all s.par.mode.names = true) :
    Reads w 1 s [d, a] (.reg b) (readVec w s b) := by
  simp only [List.all_cons, List.all_nil, Bool.and_true, Bool.and_eq_true] at named
  obtain ⟨destination, first, second⟩ := named
  exact ⟨by simp [destination, first], second, rfl⟩

theorem elem_mergeLow {w j : Nat} (x : BitVec 128) (v : BitVec w) (hj : j < 128 / w) :
    elem w j (mergeLow w x v) = if j = 0 then v else elem w j x :=
  elem_setElem x v hj

/-- With the lower half replaced, the upper one is that of the first source. -/
theorem elem_mergeLow_half {j : Nat} (x : BitVec 128) (v : BitVec 64) (hj : j < 2) :
    elem 64 j (mergeLow 64 x v) = if j = 0 then v else elem 64 1 x := by
  rw [elem_mergeLow x v hj]
  obtain rfl | rfl : j = 0 ∨ j = 1 := by omega
  · rfl
  · rfl

/-- With the upper half replaced, the lower one is that of the first source. -/
theorem elem_mergeHigh {j : Nat} (x : BitVec 128) (v : BitVec 64) (hj : j < 2) :
    elem 64 j (mergeHigh x v) = if j = 0 then elem 64 0 x else v := by
  rw [mergeHigh, elem_setElem x v hj]
  obtain rfl | rfl : j = 0 ∨ j = 1 := by omega
  · rfl
  · rfl

section
variable {i : Instr} {s : State} {d a : Reg} {b : RegMem} {q : Nat} {v : BitVec q} (h : Reads q 1 s [d, a] b v)
  (part : BitVec q → BitVec 64)
include h

/-- An instruction that replaces the lower half of its first source by a part of what it reads. -/
theorem vecResult_mergeLow (he : exec i s = opRVM 128 q (fun x v => mergeLow 64 x (part v)) d a b s) :
    VecResult 64 2 i s d fun j => if j = 0 then part v else elem 64 1 (readVec 128 s a) :=
  vecResult_opRVM h he (by omega) rfl fun _ hj => elem_mergeLow_half _ _ hj

/-- An instruction that replaces the upper half of its first source by a part of what it reads. -/
theorem vecResult_mergeHigh (he : exec i s = opRVM 128 q (fun x v => mergeHigh x (part v)) d a b s) :
    VecResult 64 2 i s d fun j => if j = 0 then elem 64 0 (readVec 128 s a) else part v :=
  vecResult_opRVM h he (by omega) rfl fun _ hj => elem_mergeHigh _ _ hj

end

/-- Settles O34: each instruction replaces element 0, the lower half or the upper half of its first source. -/
theorem scalarAndHalfMoves : Obligations.ScalarAndHalfMoves := by
  intro s d a b m A B
  simp only [List.forall_mem_cons]
  refine ⟨fun named => ?registers, fun v h => ?loads⟩
  case registers =>
    have single : elem 32 0 B = readVec 32 s b := elem_zero_readVec s b (by omega)
    have double : elem 64 0 B = readVec 64 s b := elem_zero_readVec s b (by omega)
    have low32 := fun i he => vecResult_opRVM (i := i) (w := 32) (k := 4) (reads_reg 32 named) he (by omega) rfl
      fun _ hj => elem_mergeLow _ _ hj
    have low64 := fun i => vecResult_mergeLow (i := i) (reads_reg 64 named) id
    refine ⟨?single, ?double, vecResult_mergeLow (reads_reg 128 named) (elem 64 1) rfl,
      vecResult_mergeHigh (reads_reg 128 named) (elem 64 0) rfl⟩
    case single =>
      rw [single]
      exact ⟨low32 _ rfl, low32 _ rfl, List.forall_mem_nil _⟩
    case double =>
      rw [double]
      exact ⟨low64 _ rfl, low64 _ rfl, List.forall_mem_nil _⟩
  case loads =>
    exact ⟨⟨vecResult_mergeLow h id rfl, vecResult_mergeLow h id rfl, List.forall_mem_nil _⟩,
      vecResult_mergeHigh h id rfl, vecResult_mergeHigh h id rfl, List.forall_mem_nil _⟩

/-! ### Saturation (00_scope.md R16) -/

theorem clamp_eq {lo hi : Int} (ordered : lo ≤ hi) (v : Int) :
    clamp lo hi v = if v < lo then lo else if v > hi then hi else v := by
  rw [clamp]
  split_ifs <;> omega

theorem satS_eq_clamp (w : Nat) (v : Int) :
    satS w v = BitVec.ofInt w (clamp (-2 ^ (w - 1)) (2 ^ (w - 1) - 1) v) := by
  have positive : (0 : Int) < 2 ^ (w - 1) := by positivity
  rw [clamp_eq (by omega), satS, apply_ite (BitVec.ofInt w), apply_ite (BitVec.ofInt w)]

theorem satU_eq_clamp (w : Nat) (v : Int) : satU w v = BitVec.ofInt w (clamp 0 (2 ^ w - 1) v) := by
  have positive : (0 : Int) < 2 ^ w := by positivity
  have zero : BitVec.ofInt w 0 = 0 := rfl
  rw [clamp_eq (by omega), satU, apply_ite (BitVec.ofInt w), apply_ite (BitVec.ofInt w), zero]

/-! ### Packs (R305 to R308) -/

/-- The low `p` elements of a pack come from the first source, the `p` above them from the second. -/
theorem elem_packWith {w p j : Nat} (sat : Int → BitVec w) (x y : BitVec 128) (hw : w * p = 64) (hj : j < 2 * p) :
    elem w j (packWith w sat x y) = sat (if j < p then elem (2 * w) j x else elem (2 * w) (j - p) y).toInt := by
  have pos : 0 < w := by rcases Nat.eq_zero_or_pos w with rfl | pos <;> omega
  have half : 64 / w = p := by rw [← hw, Nat.mul_div_cancel_left p pos]
  have all : 128 / w = 2 * p := by rw [show 128 = w * (2 * p) by linarith, Nat.mul_div_cancel_left _ pos]
  rw [packWith, elem_vec _ (all ▸ hj), half]
  split
  case isTrue low => rw [Nat.mod_eq_of_lt low]
  case isFalse high => rw [Nat.mod_eq_sub_mod (by omega), Nat.mod_eq_of_lt (by omega)]

/-- An instruction that narrows the elements of its two sources. -/
theorem vecResult_packWith {w p : Nat} {i : Instr} {s : State} {d a : Reg} {b : RegMem} {v : BitVec 128}
    {sat : Int → BitVec w} {g : BitVec (2 * w) → BitVec w} (h : Reads 128 1 s [d, a] b v) (hw : w * p = 64)
    (narrow : ∀ x, sat x.toInt = g x) (he : exec i s = opRVM 128 128 (packWith w sat) d a b s) :
    VecResult w (2 * p) i s d fun j =>
      g (if j < p then elem (2 * w) j (readVec 128 s a) else elem (2 * w) (j - p) v) :=
  vecResult_opRVM h he (by omega) (by linarith) fun j hj => by rw [elem_packWith sat _ v hw hj, narrow]

/-! ### Insertions (46_three_operand_xmm_int_a.md R379 to R382) -/

/-- An instruction that replaces the element of its first source that the immediate names. -/
theorem vecResult_insertElem {w : Nat} {imm : BitVec 8} {i : Instr} {s : State} {d a : Reg} {b : RegMem} {v : BitVec w}
    (h : ReadsGpr w s [d, a] b v) (hw : w * (128 / w) = 128)
    (he : exec i s = opFromGpr w (fun _ x v => (insertElem w imm x v, 0)) d a b s) :
    VecResult w (128 / w) i s d fun j => if j = imm.toNat % (128 / w) then v else elem w j (readVec 128 s a) :=
  vecResult_opFromGpr h he hw fun _ hj => elem_setElem _ _ hj

/-- Settles O44: each pack narrows by its saturation, each insertion replaces the element named; VPINSRQ wants Mode64. -/
theorem packsAndInsertions : Obligations.PacksAndInsertions := by
  intro s d a b imm A S U
  simp only [List.forall_mem_cons]
  refine ⟨fun v h => ?packs, fun v h => vecResult_insertElem h rfl rfl, fun v h => vecResult_insertElem h rfl rfl,
    fun v h => vecResult_insertElem h rfl rfl,
    fun mode v h => vecResult_insertElem h rfl (needMode64_mode64 mode _), fun mode => needMode64_mode32 mode _⟩
  case packs =>
    have signedPack := fun w p i hw =>
      vecResult_packWith (p := p) (i := i) (g := S w) h hw fun x => satS_eq_clamp w x.toInt
    have unsignedPack := fun w p i hw =>
      vecResult_packWith (p := p) (i := i) (g := U w) h hw fun x => satU_eq_clamp w x.toInt
    exact ⟨⟨signedPack 8 8 _ rfl rfl, unsignedPack 8 8 _ rfl rfl, List.forall_mem_nil _⟩,
      signedPack 16 4 _ rfl rfl, unsignedPack 16 4 _ rfl rfl, List.forall_mem_nil _⟩

end Sys2Proof.Machine

/-! Integer vector arithmetic on 128 bits (46_three_operand_xmm_int_a.md, 47_three_operand_xmm_int_b.md R401 to R422,
47_three_operand_xmm_int_c.md R427 to R429): what each function of two elements gives as exact integers, and what each
instruction makes of it. -/

namespace Sys2Proof.Machine

/-! ### Sums and differences of two elements (R342 to R355, R362, R363) -/

section
variable {w : Nat} (x y : BitVec w)

theorem add_eq_ofInt : x + y = BitVec.ofInt w (x.toInt + y.toInt) := by
  rw [BitVec.ofInt_add, BitVec.ofInt_toInt, BitVec.ofInt_toInt]

theorem sub_eq_ofInt : x - y = BitVec.ofInt w (x.toInt - y.toInt) := by
  rw [Int.sub_eq_add_neg, BitVec.ofInt_add, BitVec.ofInt_neg, BitVec.ofInt_toInt, BitVec.ofInt_toInt,
    BitVec.sub_eq_add_neg]

theorem addSatS_eq_clamp :
    addSatS x y = BitVec.ofInt w (clamp (-2 ^ (w - 1)) (2 ^ (w - 1) - 1) (x.toInt + y.toInt)) := satS_eq_clamp w _

theorem subSatS_eq_clamp :
    subSatS x y = BitVec.ofInt w (clamp (-2 ^ (w - 1)) (2 ^ (w - 1) - 1) (x.toInt - y.toInt)) := satS_eq_clamp w _

theorem addSatU_eq_clamp : addSatU x y = BitVec.ofInt w (clamp 0 (2 ^ w - 1) ((x.toNat : Int) + y.toNat)) :=
  satU_eq_clamp w _

theorem subSatU_eq_clamp : subSatU x y = BitVec.ofInt w (clamp 0 (2 ^ w - 1) ((x.toNat : Int) - y.toNat)) :=
  satU_eq_clamp w _

/-! ### Comparisons, extremes, means and signs of two elements (R369 to R378, R403 to R414, R427 to R429) -/

theorem eqMask_eq : eqMask x y = if x.toNat = y.toNat then BitVec.allOnes w else 0 := by
  simp only [eqMask, maskOf, beq_iff_eq, BitVec.toNat_inj]

theorem gtMask_eq : gtMask x y = if x.toInt > y.toInt then BitVec.allOnes w else 0 := by
  simp only [gtMask, maskOf, decide_eq_true_eq, gt_iff_lt]

theorem maxS_eq : maxS x y = BitVec.ofInt w (max x.toInt y.toInt) := by
  rw [max_comm, max_def_lt, apply_ite (BitVec.ofInt w), BitVec.ofInt_toInt, BitVec.ofInt_toInt]
  rfl

theorem minS_eq : minS x y = BitVec.ofInt w (min x.toInt y.toInt) := by
  rw [min_def_lt, apply_ite (BitVec.ofInt w), BitVec.ofInt_toInt, BitVec.ofInt_toInt]
  rfl

theorem maxU_eq : maxU x y = BitVec.ofNat w (max x.toNat y.toNat) := by
  rw [max_comm, max_def_lt, apply_ite (BitVec.ofNat w), BitVec.ofNat_toNat, BitVec.ofNat_toNat, BitVec.setWidth_eq,
    BitVec.setWidth_eq]
  rfl

theorem minU_eq : minU x y = BitVec.ofNat w (min x.toNat y.toNat) := by
  rw [min_def_lt, apply_ite (BitVec.ofNat w), BitVec.ofNat_toNat, BitVec.ofNat_toNat, BitVec.setWidth_eq,
    BitVec.setWidth_eq]
  rfl

theorem average_eq : average x y = BitVec.ofNat w ((x.toNat + y.toNat + 1) / 2) := rfl

theorem signBy_eq :
    signBy x y = BitVec.ofInt w (if y.toInt < 0 then -x.toInt else if y.toInt = 0 then 0 else x.toInt) := by
  have zero : y = 0 ↔ y.toInt = 0 := by rw [← BitVec.toInt_inj, BitVec.ofNat_eq_ofNat, BitVec.toInt_zero]
  have negated : 0 - x = BitVec.ofInt w (-x.toInt) := by
    rw [BitVec.ofInt_neg, BitVec.ofInt_toInt]
    exact BitVec.zero_sub x
  have cleared : (0 : BitVec w) = BitVec.ofInt w 0 := rfl
  rw [apply_ite (BitVec.ofInt w), apply_ite (BitVec.ofInt w), BitVec.ofInt_toInt, ← negated, ← cleared]
  simp only [signBy, zero]

/-! ### Products and differences of two elements (R341, R415 to R419, R422) -/

theorem mul_eq_ofInt : x * y = BitVec.ofInt w (x.toInt * y.toInt) := by
  rw [BitVec.ofInt_mul, BitVec.ofInt_toInt, BitVec.ofInt_toInt]

theorem mulHighS_eq : mulHighS x y = BitVec.ofInt w (x.toInt * y.toInt / 2 ^ w) := rfl

theorem mulHighU_eq : mulHighU x y = BitVec.ofNat w (x.toNat * y.toNat / 2 ^ w) := rfl

theorem absDiff_eq_natAbs : absDiff x y = ((x.toNat : Int) - y.toNat).natAbs := by
  rw [absDiff]
  omega

end

/-- Halving after adding 1 to bits 31:14 is adding 2^14 first (R417). -/
theorem mulRound_eq (x y : BitVec 16) :
    mulRound x y = BitVec.ofInt 16 ((x.toInt * y.toInt + 2 ^ 14) / 2 ^ 15) := by
  have rounded : ∀ p : Int, (p / 2 ^ 14 + 1) / 2 = (p + 2 ^ 14) / 2 ^ 15 := fun p => by omega
  rw [mulRound, rounded]

/-! ### Element by element and by pairs (R356 to R361) -/

section
variable {w : Nat} {i : Instr} {s : State} {d a : Reg} {b : RegMem} {v : BitVec 128} {f g : BitVec w → BitVec w → BitVec w}
  (h : Reads 128 1 s [d, a] b v) (hw : w * (128 / w) = 128)
include h hw

/-- An instruction that applies one function to the elements of its two sources at the same place. -/
theorem vecResult_zipVec (same : ∀ x y, f x y = g x y) (he : exec i s = opRVM 128 128 (zipVec w f) d a b s) :
    VecResult w (128 / w) i s d fun j => g (elem w j (readVec 128 s a)) (elem w j v) :=
  vecResult_opRVM h he (by omega) hw fun _ hj => by rw [elem_zipVec _ _ _ hj, same]

/-- An instruction that applies one function to the pairs of adjacent elements of its two sources. -/
theorem vecResult_horizontalInt (same : ∀ x y, f x y = g x y)
    (he : exec i s = opRVM 128 128 (horizontalInt w f) d a b s) :
    VecResult w (128 / w) i s d fun j =>
      let x := if j < 64 / w then readVec 128 s a else v
      g (elem w (2 * (j % (64 / w))) x) (elem w (2 * (j % (64 / w)) + 1) x) :=
  vecResult_opRVM h he (by omega) hw fun _ hj => by rw [horizontalInt, elem_vec _ hj, same]

end

/-- Settles O41: each instruction applies the exact function of its name to the elements or to their pairs. -/
theorem integerSumsAndDifferences : Obligations.IntegerSumsAndDifferences := by
  intro s d a b v h A add sub addS subS addU subU hz
  simp only [List.forall_mem_cons]
  have zip := fun w hw {f g} same {i} => vecResult_zipVec (w := w) (f := f) (g := g) (i := i) h hw same
  have pairs := fun w hw {f g} same {i} => vecResult_horizontalInt (w := w) (f := f) (g := g) (i := i) h hw same
  refine ⟨?bytes, ?words, ?doublewords, ?quadwords, ?wordPairs, ?doublewordPairs⟩
  case bytes =>
    exact ⟨zip 8 rfl add_eq_ofInt rfl, zip 8 rfl sub_eq_ofInt rfl, zip 8 rfl addSatS_eq_clamp rfl,
      zip 8 rfl subSatS_eq_clamp rfl, zip 8 rfl addSatU_eq_clamp rfl, zip 8 rfl subSatU_eq_clamp rfl,
      List.forall_mem_nil _⟩
  case words =>
    exact ⟨zip 16 rfl add_eq_ofInt rfl, zip 16 rfl sub_eq_ofInt rfl, zip 16 rfl addSatS_eq_clamp rfl,
      zip 16 rfl subSatS_eq_clamp rfl, zip 16 rfl addSatU_eq_clamp rfl, zip 16 rfl subSatU_eq_clamp rfl,
      List.forall_mem_nil _⟩
  case doublewords => exact ⟨zip 32 rfl add_eq_ofInt rfl, zip 32 rfl sub_eq_ofInt rfl, List.forall_mem_nil _⟩
  case quadwords => exact ⟨zip 64 rfl add_eq_ofInt rfl, zip 64 rfl sub_eq_ofInt rfl, List.forall_mem_nil _⟩
  case wordPairs =>
    exact ⟨pairs 16 rfl add_eq_ofInt rfl, pairs 16 rfl sub_eq_ofInt rfl, pairs 16 rfl addSatS_eq_clamp rfl,
      pairs 16 rfl subSatS_eq_clamp rfl, List.forall_mem_nil _⟩
  case doublewordPairs => exact ⟨pairs 32 rfl add_eq_ofInt rfl, pairs 32 rfl sub_eq_ofInt rfl, List.forall_mem_nil _⟩

/-- Settles O42: each instruction applies the function of its name to the elements at the same place. -/
theorem integerComparisons : Obligations.IntegerComparisons := by
  intro s d a b v h A eq gt maxI minI maxN minN avg sign
  simp only [List.forall_mem_cons]
  have zip := fun w hw {f g} same {i} => vecResult_zipVec (w := w) (f := f) (g := g) (i := i) h hw same
  refine ⟨?bytes, ?words, ?doublewords, ?quadwords⟩
  case bytes =>
    exact ⟨zip 8 rfl eqMask_eq rfl, zip 8 rfl gtMask_eq rfl, zip 8 rfl maxS_eq rfl, zip 8 rfl minS_eq rfl,
      zip 8 rfl maxU_eq rfl, zip 8 rfl minU_eq rfl, zip 8 rfl average_eq rfl, zip 8 rfl signBy_eq rfl,
      List.forall_mem_nil _⟩
  case words =>
    exact ⟨zip 16 rfl eqMask_eq rfl, zip 16 rfl gtMask_eq rfl, zip 16 rfl maxS_eq rfl, zip 16 rfl minS_eq rfl,
      zip 16 rfl maxU_eq rfl, zip 16 rfl minU_eq rfl, zip 16 rfl average_eq rfl, zip 16 rfl signBy_eq rfl,
      List.forall_mem_nil _⟩
  case doublewords =>
    exact ⟨zip 32 rfl eqMask_eq rfl, zip 32 rfl gtMask_eq rfl, zip 32 rfl maxS_eq rfl, zip 32 rfl minS_eq rfl,
      zip 32 rfl maxU_eq rfl, zip 32 rfl minU_eq rfl, zip 32 rfl signBy_eq rfl, List.forall_mem_nil _⟩
  case quadwords => exact ⟨zip 64 rfl eqMask_eq rfl, zip 64 rfl gtMask_eq rfl, List.forall_mem_nil _⟩

/-! ### Products of neighbours and sums of differences (R341, R401, R402, R420 to R422) -/

section
variable (x y : BitVec 128) {j : Nat}

theorem elem_mulEvenS (hj : j < 2) :
    elem 64 j (mulEvenS x y) = BitVec.ofInt 64 ((elem 32 (2 * j) x).toInt * (elem 32 (2 * j) y).toInt) := elem_vec _ hj

theorem elem_mulEvenU (hj : j < 2) :
    elem 64 j (mulEvenU x y) = BitVec.ofNat 64 ((elem 32 (2 * j) x).toNat * (elem 32 (2 * j) y).toNat) := elem_vec _ hj

theorem elem_maddWd (hj : j < 4) :
    elem 32 j (maddWd x y) = BitVec.ofInt 32 ((elem 16 (2 * j) x).toInt * (elem 16 (2 * j) y).toInt +
      (elem 16 (2 * j + 1) x).toInt * (elem 16 (2 * j + 1) y).toInt) := elem_vec _ hj

theorem elem_maddUbsw (hj : j < 8) :
    elem 16 j (maddUbsw x y) = BitVec.ofInt 16 (clamp (-2 ^ 15) (2 ^ 15 - 1)
      ((elem 8 (2 * j) x).toNat * (elem 8 (2 * j) y).toInt +
        (elem 8 (2 * j + 1) x).toNat * (elem 8 (2 * j + 1) y).toInt)) :=
  (elem_vec _ hj).trans (satS_eq_clamp 16 _)

theorem elem_sadBw (hj : j < 2) :
    elem 64 j (sadBw x y) = BitVec.ofNat 64
      (sumNat (fun k => ((elem 8 (8 * j + k) x).toNat - (elem 8 (8 * j + k) y).toNat : Int).natAbs) 8) := by
  rw [sadBw, elem_vec _ hj]
  simp only [absDiff_eq_natAbs]

/-- The immediate gives the first bytes of the two sums as numbers. -/
theorem elem_mpsadBw (imm : BitVec 8) (hj : j < 8) :
    elem 16 j (mpsadBw imm x y) = BitVec.ofNat 16 (sumNat (fun k =>
      ((elem 8 (4 * (imm.toNat / 4 % 2) + j + k) x).toNat - (elem 8 (4 * (imm.toNat % 4) + k) y).toNat : Int).natAbs) 4) := by
  rw [mpsadBw, elem_vec _ hj]
  simp only [absDiff_eq_natAbs, bitNat_eq, fieldNat_eq, Nat.pow_zero, Nat.div_one, Nat.reducePow]

end

/-- Settles O43: each result element by the lemma about the function of its instruction. -/
theorem integerProducts : Obligations.IntegerProducts := by
  intro s d a b imm v h A si un diff o1 o2
  have zip := fun w hw {f g} same {i} => vecResult_zipVec (w := w) (f := f) (g := g) (i := i) h hw same
  refine ⟨zip 16 rfl mul_eq_ofInt rfl, zip 32 rfl mul_eq_ofInt rfl, zip 16 rfl mulHighS_eq rfl,
    zip 16 rfl mulHighU_eq rfl, zip 16 rfl mulRound_eq rfl,
    vecResult_opRVM h rfl (by omega) rfl fun _ hj => elem_mulEvenS A v hj,
    vecResult_opRVM h rfl (by omega) rfl fun _ hj => elem_mulEvenU A v hj,
    vecResult_opRVM h rfl (by omega) rfl fun _ hj => elem_maddWd A v hj,
    vecResult_opRVM h rfl (by omega) rfl fun _ hj => elem_maddUbsw A v hj,
    vecResult_opRVM h rfl (by omega) rfl fun j hj => ?eightBytes,
    vecResult_opRVM h rfl (by omega) rfl fun j hj => ?fourBytes⟩
  case eightBytes =>
    rw [elem_sadBw A v hj]
    simp only [sumNat, Nat.zero_add, Nat.add_zero, diff, un]
  case fourBytes =>
    rw [elem_mpsadBw A v imm hj]
    simp only [sumNat, Nat.zero_add, Nat.add_zero, diff, un, o1, o2]

end Sys2Proof.Machine

/-! Shuffles of bytes, words and doublewords, and VPALIGNR (46_three_operand_xmm_int_a.md R364,
47_three_operand_xmm_int_b.md R423 to R426): which element each of their functions puts at a place. -/

namespace Sys2Proof.Machine

/-! ### Shuffles (47_three_operand_xmm_int_b.md R423 to R426) -/

theorem fieldNat_two_mul (imm : BitVec 8) (j : Nat) : fieldNat imm (2 * j) = imm.toNat / 4 ^ j % 4 := by
  rw [fieldNat_eq, Nat.pow_mul]

section
variable (imm : BitVec 8) (x y : BitVec 128) {j : Nat}

theorem elem_shufD (hj : j < 4) : elem 32 j (shufD imm x) = elem 32 (imm.toNat / 4 ^ j % 4) x := by
  rw [shufD, elem_vec _ hj, fieldNat_two_mul]

theorem elem_shufHW (hj : j < 8) :
    elem 16 j (shufHW imm x) = if j < 4 then elem 16 j x else elem 16 (4 + imm.toNat / 4 ^ (j - 4) % 4) x := by
  rw [shufHW, elem_vec _ hj, fieldNat_two_mul]

theorem elem_shufLW (hj : j < 8) :
    elem 16 j (shufLW imm x) = if j < 4 then elem 16 (imm.toNat / 4 ^ j % 4) x else elem 16 j x := by
  rw [shufLW, elem_vec _ hj, fieldNat_two_mul]

/-- Bit 7 and the low four bits of the control byte as a number. -/
theorem elem_shufB (hj : j < 16) :
    elem 8 j (shufB x y) =
      let c := (elem 8 j y).toNat
      if 128 ≤ c then 0 else elem 8 (c % 16) x := by
  have cleared : (elem 8 j y).getLsbD 7 = decide (128 ≤ (elem 8 j y).toNat) :=
    (BitVec.msb_eq_getLsbD_last _).symm.trans (BitVec.msb_eq_decide _)
  rw [shufB, elem_vec _ hj, cleared, BitVec.extractLsb'_toNat, Nat.shiftRight_zero]
  simp only [decide_eq_true_eq]

end

/-! ### VPALIGNR (46_three_operand_xmm_int_a.md R364) -/

theorem elem_past_end {n w k : Nat} (x : BitVec n) (past : n ≤ w * k) : elem w k x = 0 :=
  BitVec.eq_of_getLsbD_eq fun j _ => by
    rw [getLsbD_elem, BitVec.getLsbD_of_ge x _ (by omega), Bool.and_false]
    exact BitVec.getLsbD_zero.symm

/-- Shifted right by whole elements, each element is the one `c` places up. -/
theorem elem_ushiftRight {n w j : Nat} (c : Nat) (x : BitVec n) : elem w j (x >>> (w * c)) = elem w (j + c) x := by
  refine BitVec.eq_of_getLsbD_eq fun r _ => ?_
  rw [getLsbD_elem, getLsbD_elem, BitVec.getLsbD_ushiftRight, show w * c + (w * j + r) = w * (j + c) + r by ring]

/-- The elements of a concatenation: `p` of the low part, those of the high part above them. -/
theorem elem_append {n w p k : Nat} (x : BitVec n) (y : BitVec (w * p)) :
    elem w k (x ++ y) = if k < p then elem w k y else elem w (k - p) x := by
  refine BitVec.eq_of_getLsbD_eq fun r hr => ?_
  rw [getLsbD_elem, BitVec.getLsbD_append]
  rcases Nat.lt_or_ge k p with low | high
  · have inside : w * k + r < w * p := calc
      w * k + r < w * (k + 1) := by rw [Nat.mul_succ]; omega
      _ ≤ w * p := Nat.mul_le_mul_left w low
    rw [if_pos low, if_pos inside, getLsbD_elem]
  · have above : w * p ≤ w * k := Nat.mul_le_mul_left w high
    have place : w * k + r - w * p = w * (k - p) + r := by rw [Nat.mul_sub]; omega
    rw [if_neg (by omega), if_neg (by omega), place, getLsbD_elem]

theorem elem_alignRight (imm : BitVec 8) (x y : BitVec 128) {j : Nat} (hj : j < 16) :
    elem 8 j (alignRight imm x y) =
      let k := j + imm.toNat
      if k < 16 then elem 8 k y else if k < 32 then elem 8 (k - 16) x else 0 := by
  extract_lets k
  rcases Nat.lt_or_ge imm.toNat 32 with inside | beyond
  case inl =>
    have shifted : elem 8 j (alignRight imm x y) = elem 8 k (x ++ y) := by
      rw [alignRight, if_neg (by omega), elem_setWidth _ (by omega), elem_ushiftRight]
    rw [shifted, elem_append (w := 8) (p := 16) x y]
    split_ifs
    · rfl
    · rfl
    · exact elem_past_end x (by omega)
  case inr =>
    rw [alignRight, if_pos beyond, if_neg (by omega), if_neg (by omega)]
    exact BitVec.extractLsb'_zero

/-- Settles O38: each result element by the lemma about the function of its instruction. -/
theorem integerShuffles : Obligations.IntegerShuffles := by
  intro s d a b imm f
  refine ⟨fun v h => ?one, fun v h => ?two⟩
  case one =>
    exact ⟨vecResult_opRM h rfl (by omega) rfl fun _ hj => elem_shufD imm v hj,
      vecResult_opRM h rfl (by omega) rfl fun _ hj => elem_shufHW imm v hj,
      vecResult_opRM h rfl (by omega) rfl fun _ hj => elem_shufLW imm v hj⟩
  case two =>
    exact ⟨vecResult_opRVM h rfl (by omega) rfl fun _ hj => elem_shufB _ v hj,
      vecResult_opRVM h rfl (by omega) rfl fun _ hj => elem_alignRight imm _ v hj⟩

end Sys2Proof.Machine

/-! The checks of an access in their order (60_exceptions.md R511; 20_memory.md R83, R85, R88) and the faults of a step
(60_exceptions.md R502 to R506). -/

namespace Sys2Proof.Machine

/-! ### The checks of an access (60_exceptions.md R511) -/

/-- A canonical address repeats its top bit down to bit 47 (20_memory.md R83). -/
theorem canonical_iff (a : Addr) : canonical a = true ↔ ∀ j, 47 ≤ j → j < 64 → a.getLsbD j = a.getLsbD 63 := by
  have field : ∀ (x : BitVec 17) (b : Bool), (∀ k < 17, x.getLsbD k = b) →
      a.extractLsb' 47 17 = x → ∀ j, 47 ≤ j → j < 64 → a.getLsbD j = b := by
    rintro x b same rfl j low high
    have bit := same (j - 47) (by omega)
    rwa [BitVec.getLsbD_extractLsb', decide_eq_true (by omega), Bool.true_and, Nat.add_sub_cancel' low] at bit
  simp only [canonical, Bool.or_eq_true, beq_iff_eq]
  constructor
  · rintro (zeros | ones) j low high
    · have bits := field 0 false (by decide) zeros
      rw [bits j low high, bits 63 (by omega) (by omega)]
    · have bits := field 0x1FFFF true (by decide) ones
      rw [bits j low high, bits 63 (by omega) (by omega)]
  · intro same
    have repeated : a.extractLsb' 47 17 = BitVec.fill 17 (a.getLsbD 63) := BitVec.eq_of_getLsbD_eq fun k hk => by
      rw [BitVec.getLsbD_extractLsb', decide_eq_true hk, Bool.true_and, same _ (by omega) (by omega),
        BitVec.getLsbD_fill, decide_eq_true hk, Bool.and_true]
    rw [repeated]
    cases a.getLsbD 63
    · exact .inl rfl
    · exact .inr rfl

/-- The mode refuses an address in Mode64 alone, where bits 63:47 are not all equal. -/
theorem addressOk_eq_false_iff (m : Mode) (a : Addr) :
    addressOk m a = false ↔ m = .mode64 ∧ ∃ j, 47 ≤ j ∧ j < 64 ∧ a.getLsbD j ≠ a.getLsbD 63 := by
  cases m with
  | mode32 => simp [addressOk]
  | mode64 => simp [addressOk, ← Bool.not_eq_true, canonical_iff]

theorem checkAccess_of_not_addressOk {m : Mode} {a : Addr} (ok : Addr → Bool) (align n : Nat)
    (outside : addressOk m a = false) : checkAccess m ok align a n = .error (.fault .gp0) := by
  simp [checkAccess, outside, raise]

/-- An aligned access at a canonical address is left to the map. -/
theorem checkAccess_eq_checkMap {m : Mode} {align : Nat} {a : Addr} (ok : Addr → Bool) (n : Nat)
    (address : addressOk m a = true) (aligned : a.toNat % align = 0) :
    checkAccess m ok align a n = checkMap ok (spanOf m a n) := by
  simp [checkAccess, address, aligned]

/-- Settles O15: each check decides only where those before it pass, and the map check finds the lowest failing byte. -/
theorem accessChecksInOrder : Obligations.AccessChecksInOrder := by
  intro m ok align n a badAddress
  have bad : badAddress ↔ addressOk m a = false := (addressOk_eq_false_iff m a).symm
  simp only [bad, Bool.not_eq_false]
  refine ⟨checkAccess_of_not_addressOk ok align n, checkAccess_misaligned ok n, fun address aligned => ?fails,
    fun address aligned pass => ?passes⟩
  case fails =>
    rw [checkAccess_eq_checkMap ok n address aligned]
    exact checkMap_pf
  case passes =>
    rw [checkAccess_eq_checkMap ok n address aligned]
    exact checkMap_ok pass

/-! ### The faults of a step (60_exceptions.md R502 to R506) -/

/-- What stops a fetch is the canonical boundary or an unmapped byte. -/
theorem fetchFrom_stop {s : State} {fuel k : Nat} {e : Stop} (h : (fetchFrom s fuel k).2 = some e) :
    e = .refused .fetchBoundary ∨ ∃ a, e = .fault (.pf a) := by
  induction fuel generalizing k with
  | zero => cases h
  | succ fuel ih =>
    rw [fetchFrom] at h
    split_ifs at h
    · cases h; exact .inl rfl
    · cases h; exact .inr ⟨_, rfl⟩
    · exact ih h

/-- A fault of the fetch is UD, which the bytes decode to, or PF. -/
theorem of_fetch_fault {s : State} {f : Fault} (h : fetch s = .error (.fault f)) :
    (f = .ud ∧ s.par.encGk = true ∧ decode s.par.mode s.par.encFma4 (fetchWindow s).1 = .ud) ∨ ∃ a, f = .pf a := by
  unfold fetch at h
  split at h
  next bytes =>
    unfold fetched at h
    split at h
    next => cases h
    next ud => cases h; exact .inl ⟨rfl, bytes, ud⟩
    next => cases h
    next =>
      split at h
      next e stop =>
        cases h
        obtain boundary | ⟨a, unmapped⟩ := fetchFrom_stop stop
        · cases boundary
        · cases unmapped; exact .inr ⟨a, rfl⟩
      next => cases h
  next =>
    unfold termAt at h
    split at h
    next => cases h
    next => split at h <;> cases h

/-- A step that faults does so in its fetch or in the instruction fetched. -/
theorem of_step_fault {s : State} {f : Fault} (h : step s = .fault f) :
    runOver s = false ∧
      (fetch s = .error (.fault f) ∨ ∃ i len, fetch s = .ok (i, len) ∧ exec i { s with length := len } = .fault f) := by
  unfold step stepWith at h
  split at h
  next => cases h
  next on =>
    refine ⟨by simpa using on, ?_⟩
    unfold afterFetch at h
    split at h
    next i len eq => exact .inr ⟨i, len, eq, h⟩
    next eq => cases h; exact .inl eq
    next => cases h

/-- UD comes from the decoding alone; every other fault is a PF or one that an instruction can raise. -/
theorem step_fault_cases {s : State} {f : Fault} (h : step s = .fault f) :
    (f = .ud ∧ s.par.encGk = true ∧ runOver s = false ∧
        decode s.par.mode s.par.encFma4 (fetchWindow s).1 = .ud) ∨ Raisable s f := by
  obtain ⟨on, fetching | ⟨i, len, -, running⟩⟩ := of_step_fault h
  · obtain ⟨rfl, bytes, ud⟩ | ⟨a, rfl⟩ := of_fetch_fault fetching
    · exact .inl ⟨rfl, bytes, on, ud⟩
    · exact .inr (.pf a)
  · refine .inr ?_
    cases exec_fault running with
    | gp0 => exact .gp0
    | pf a => exact .pf a
    | xm fl unmasked => exact .xm fl unmasked

/-- Bytes that decode to UD end the step with it. -/
theorem step_ud {s : State} (bytes : s.par.encGk = true) (on : runOver s = false)
    (ud : decode s.par.mode s.par.encFma4 (fetchWindow s).1 = .ud) : step s = .fault .ud := by
  have fetching : fetch s = .error (.fault .ud) := by
    rw [fetch, if_pos bytes, ud]
    rfl
  rw [step, stepWith, on, fetching]
  rfl

theorem unmaskedFlags_and_fpMasks (s : State) (fl : FpFlags) : unmaskedFlags s fl &&& fpMasks s = 0 := by
  rw [unmaskedFlags, BitVec.and_assoc, BitVec.and_comm (~~~fpMasks s), BitVec.and_not_self]
  exact BitVec.and_zero

/-- With all six flags masked none is raised and unmasked. -/
theorem unmaskedFlags_of_all_masked {s : State} (masked : fpMasks s = 0x3F) (fl : FpFlags) : unmaskedFlags s fl = 0 := by
  have disjoint := unmaskedFlags_and_fpMasks s fl
  rw [masked] at disjoint
  exact BitVec.and_allOnes.symm.trans disjoint

/-- Settles O11: a fault of a step comes from the decoding, or it is one that an instruction can raise. -/
theorem stepRaisesOnlyListedFaults : Obligations.StepRaisesOnlyListedFaults := by
  intro s
  refine ⟨fun f h => ?listed, ⟨fun h => ?onlyAtDecode, fun ⟨bytes, on, ud⟩ => step_ud bytes on ud⟩, fun masked u h => ?masked⟩
  case listed =>
    obtain ⟨rfl, -⟩ | raised := step_fault_cases h
    · exact .inl rfl
    · cases raised with
      | gp0 => exact .inr (.inl rfl)
      | pf a => exact .inr (.inr (.inl ⟨a, rfl⟩))
      | xm fl unmasked => exact .inr (.inr (.inr ⟨_, rfl, unmasked, unmaskedFlags_and_fpMasks s fl⟩))
  case onlyAtDecode =>
    obtain ⟨-, decoded⟩ | raised := step_fault_cases h
    · exact decoded
    · cases raised
  case masked =>
    obtain ⟨not_xm, -⟩ | raised := step_fault_cases h
    · cases not_xm
    · cases raised with
      | xm fl unmasked => exact unmasked (unmaskedFlags_of_all_masked masked fl)

end Sys2Proof.Machine

/-! Blends and VINSERTPS (48_four_operand.md R461 to R464, R466, R467, R469): which source each element is taken from. -/

namespace Sys2Proof.Machine

/-! ### Elements -/

theorem getLsbD_eq_true_iff {w : Nat} (x : BitVec w) (i : Nat) : x.getLsbD i = true ↔ x.toNat / 2 ^ i % 2 = 1 := by
  rw [← toNat_getLsbD]
  cases x.getLsbD i <;> simp

section
variable {n w j : Nat} (x y : BitVec n) (hj : j < n / w)
include hj

theorem elem_blendImm (imm : BitVec 8) :
    elem w j (blendImm w imm x y) = if imm.toNat / 2 ^ j % 2 = 1 then elem w j y else elem w j x := by
  rw [blendImm, elem_vec _ hj]
  simp only [getLsbD_eq_true_iff]

theorem elem_blendVar (mask : BitVec n) :
    elem w j (blendVar w x y mask) = if (elem w j mask).msb then elem w j y else elem w j x := by
  rw [blendVar, elem_vec _ hj, BitVec.msb_eq_getLsbD_last]

end

theorem elem_insertPs (imm : BitVec 8) (x : BitVec 128) (e : BitVec 32) {j : Nat} (hj : j < 4) :
    elem 32 j (insertPs imm x e) =
      if imm.toNat / 2 ^ j % 2 = 1 then 0 else if j = imm.toNat / 16 % 4 then e else elem 32 j x := by
  rw [insertPs, elem_vec _ hj, elem_setElem x e hj, fieldNat_eq]
  simp only [getLsbD_eq_true_iff, Nat.reducePow]

/-- Bits 7:6 are all that is left of an immediate above bit 5. -/
theorem fieldNat_six (imm : BitVec 8) : fieldNat imm 6 = imm.toNat / 64 := by
  have bound := imm.isLt
  rw [fieldNat_eq]
  omega

/-! ### The instructions -/

section
variable {n w : Nat} {i : Instr} {s : State} {d a c : Reg} {b : RegMem} {v : BitVec n} (hn : n ≤ 256)
  (hw : w * (n / w) = n)
include hn hw

theorem vecResult_blendImm {imm : BitVec 8} (h : Reads n 1 s [d, a] b v)
    (he : exec i s = opRVM n n (blendImm w imm) d a b s) :
    VecResult w (n / w) i s d fun j =>
      if imm.toNat / 2 ^ j % 2 = 1 then elem w j v else elem w j (readVec n s a) :=
  vecResult_opRVM h he hn hw fun _ hj => elem_blendImm _ v hj imm

theorem vecResult_blendVar (h : Reads n 1 s [d, a, c] b v) (he : exec i s = opRVMR n (blendVar w) d a b c s) :
    VecResult w (n / w) i s d fun j =>
      if (elem w j (readVec n s c)).msb then elem w j v else elem w j (readVec n s a) :=
  vecResult_opRVMR h he hn hw fun _ hj => elem_blendVar _ v hj _

end

/-- Settles O39: each blend is one of the two choices at its element width; VINSERTPS has a form for each kind of source. -/
theorem blendsAndInsertPs : Obligations.BlendsAndInsertPs := by
  intro s d a c b imm A C
  refine ⟨fun v h => ?immX, fun v h => ?immY, fun v h => ?varX, fun v h => ?varY, fun r v h => ?register,
    fun m v h => ?memory⟩
  case immX =>
    have blend := fun w hw i => vecResult_blendImm (w := w) (i := i) (imm := imm) (by omega) hw h
    exact ⟨blend 32 rfl _ rfl, blend 64 rfl _ rfl, blend 16 rfl _ rfl⟩
  case immY =>
    have blend := fun w hw i => vecResult_blendImm (w := w) (i := i) (imm := imm) (by omega) hw h
    exact ⟨blend 32 rfl _ rfl, blend 64 rfl _ rfl⟩
  case varX =>
    have blend := fun w hw i => vecResult_blendVar (w := w) (i := i) (by omega) hw h
    exact ⟨blend 32 rfl _ rfl, blend 64 rfl _ rfl, blend 8 rfl _ rfl⟩
  case varY =>
    have blend := fun w hw i => vecResult_blendVar (w := w) (i := i) (by omega) hw h
    exact ⟨blend 32 rfl _ rfl, blend 64 rfl _ rfl⟩
  case register =>
    rw [← fieldNat_six]
    exact vecResult_opRVM (f := fun x v => insertPs imm x (elem 32 (fieldNat imm 6) v)) h rfl (by omega) rfl
      fun _ hj => elem_insertPs imm _ _ hj
  case memory => exact vecResult_opRVM h rfl (by omega) rfl fun _ hj => elem_insertPs imm _ _ hj

end Sys2Proof.Machine

/-! Shifts of elements and of whole registers (47_three_operand_xmm_int_c.md R430 to R439) as arithmetic. -/

namespace Sys2Proof.Machine

/-! ### One element (R432 to R439) -/

section
variable {w : Nat} (n : Nat) (x : BitVec w)

theorem shiftLeft_eq_ofNat : shiftLeft n x = BitVec.ofNat w (x.toNat * 2 ^ n) := by
  have shifted : shiftLeft n x = x <<< n := by
    rw [shiftLeft]
    split
    next past => exact (BitVec.shiftLeft_eq_zero past).symm
    next => rfl
  rw [shifted, ← BitVec.toNat_inj, BitVec.toNat_shiftLeft, Nat.shiftLeft_eq, BitVec.toNat_ofNat]

theorem shiftRight_eq_ofNat : shiftRight n x = BitVec.ofNat w (x.toNat / 2 ^ n) := by
  have shifted : shiftRight n x = x >>> n := by
    rw [shiftRight]
    split
    next past => exact (BitVec.ushiftRight_eq_zero past).symm
    next => rfl
  have small : x.toNat / 2 ^ n < 2 ^ w := (Nat.div_le_self _ _).trans_lt x.isLt
  rw [shifted, ← BitVec.toNat_inj, BitVec.toNat_ushiftRight, Nat.shiftRight_eq_div_pow, BitVec.toNat_ofNat,
    Nat.mod_eq_of_lt small]

/-- A number of fewer than `m` bits and a sign, divided by 2 to a power of `m` or more and rounded down, leaves the sign. -/
theorem ediv_two_pow_of_lt {z : Int} {m n : Nat} (low : -2 ^ m ≤ z) (high : z < 2 ^ m) (past : m ≤ n) :
    z / 2 ^ n = if z < 0 then -1 else 0 := by
  have grow : (2 : Int) ^ m ≤ 2 ^ n := pow_le_pow_right₀ (by decide) past
  split
  next negative => exact Int.ediv_eq_neg_one_of_neg_of_le negative (by omega)
  next positive => exact Int.ediv_eq_zero_of_lt (by omega) (by omega)

theorem shiftArith_eq_ofInt : shiftArith n x = BitVec.ofInt w (x.toInt / 2 ^ n) := by
  have low : -2 ^ (w - 1) ≤ x.toInt := BitVec.le_toInt x
  have high : x.toInt < 2 ^ (w - 1) := BitVec.toInt_lt
  have quotient : x.toInt / 2 ^ min n (w - 1) = x.toInt / 2 ^ n := by
    rcases Nat.le_total n (w - 1) with inside | past
    · rw [Nat.min_eq_left inside]
    · rw [Nat.min_eq_right past, ediv_two_pow_of_lt low high past, ediv_two_pow_of_lt low high le_rfl]
  rw [shiftArith, BitVec.sshiftRight, Int.shiftRight_eq_div_pow]
  exact congrArg (BitVec.ofInt w) (by exact_mod_cast quotient)

end

/-! ### The whole register by bytes (R430, R431) -/

/-- Shifted left by whole elements, each element is the one `c` places down. -/
theorem elem_shiftLeft {n w j : Nat} (c : Nat) (x : BitVec n) (inside : w * j + w ≤ n) :
    elem w j (x <<< (w * c)) = if j < c then 0 else elem w (j - c) x := by
  refine BitVec.eq_of_getLsbD_eq fun r hr => ?_
  rw [getLsbD_elem, BitVec.getLsbD_shiftLeft, decide_eq_true hr, decide_eq_true (by omega)]
  split
  next entering =>
    have below : w * j + r < w * c := calc
      w * j + r < w * (j + 1) := by rw [Nat.mul_succ]; omega
      _ ≤ w * c := Nat.mul_le_mul_left w entering
    simp [below]
  next kept =>
    have above : w * c ≤ w * j := Nat.mul_le_mul_left w (by omega)
    have place : w * j + r - w * c = w * (j - c) + r := by rw [Nat.mul_sub]; omega
    rw [place, getLsbD_elem, decide_eq_true hr, decide_eq_false (by omega)]
    rfl

section
variable (imm : BitVec 8) (x : BitVec 128) {j : Nat} (hj : j < 16)
include hj

theorem elem_byteShiftLeft :
    elem 8 j (byteShiftLeft imm x) = if j < imm.toNat then 0 else elem 8 (j - imm.toNat) x := by
  rw [byteShiftLeft, elem_shiftLeft _ x (by omega)]
  rcases Nat.le_total imm.toNat 16 with inside | past
  · rw [Nat.min_eq_left inside]
  · rw [Nat.min_eq_right past, if_pos hj, if_pos (by omega)]

theorem elem_byteShiftRight :
    elem 8 j (byteShiftRight imm x) = if j + imm.toNat < 16 then elem 8 (j + imm.toNat) x else 0 := by
  rw [byteShiftRight, elem_ushiftRight]
  split
  next inside => rw [Nat.min_eq_left (by omega)]
  next past => exact elem_past_end x (by omega)

end

/-! ### The instructions -/

theorem reads_regSource (w : Nat) {s : State} {d a : Reg} (named : [d, a].all s.par.mode.names = true) :
    Reads w 1 s [d] (.reg a) (readVec w s a) := by
  simp only [List.all_cons, List.all_nil, Bool.and_true, Bool.and_eq_true] at named
  obtain ⟨destination, source⟩ := named
  exact ⟨by simp [destination], source, rfl⟩

section
variable {w : Nat} {i : Instr} {s : State} {d a : Reg} {f : Nat → BitVec w → BitVec w} {g : BitVec w → BitVec w}
  (hw : w * (128 / w) = 128)
include hw

/-- The count is the immediate byte. -/
theorem vecResult_shiftImm {count : Nat} (h : Reads 128 1 s [d] (.reg a) (readVec 128 s a))
    (same : ∀ x, f count x = g x) (he : exec i s = opRM 128 128 (shiftVec w f count) d (.reg a) s) :
    VecResult w (128 / w) i s d fun j => g (elem w j (readVec 128 s a)) :=
  vecResult_opRM h he (by omega) hw fun _ hj => by rw [shiftVec, elem_vec _ hj, same]

/-- The count is bits 63:0 of the second source. -/
theorem vecResult_shiftBy {b : RegMem} {v : BitVec 128} (h : Reads 128 1 s [d, a] b v)
    (same : ∀ x, f (elem 64 0 v).toNat x = g x)
    (he : exec i s = opRVM 128 128 (fun x v => shiftVec w f (countOf v) x) d a b s) :
    VecResult w (128 / w) i s d fun j => g (elem w j (readVec 128 s a)) :=
  vecResult_opRVM h he (by omega) hw fun _ hj => (elem_vec _ hj).trans (same _)

end

/-- Settles O45: each shift is the arithmetic of its direction at its element width, its count from the immediate or the
second source. -/
theorem shifts : Obligations.Shifts := by
  intro s d a b imm A l r q
  simp only [List.forall_mem_cons]
  refine ⟨fun named => ?immediate, fun v h => ?source⟩
  case immediate =>
    have h : Reads 128 1 s [d] (.reg a) A := reads_regSource 128 named
    have shift := fun w hw {f g} same {i} =>
      vecResult_shiftImm (w := w) (count := imm.toNat) (f := f) (g := g) (i := i) hw h same
    refine ⟨?words, ?doublewords, ?quadwords, vecResult_opRM h rfl (by omega) rfl fun _ hj => elem_byteShiftLeft imm A hj,
      vecResult_opRM h rfl (by omega) rfl fun _ hj => elem_byteShiftRight imm A hj⟩
    case words | doublewords =>
      exact ⟨shift _ rfl (shiftLeft_eq_ofNat _) rfl, shift _ rfl (shiftRight_eq_ofNat _) rfl,
        shift _ rfl (shiftArith_eq_ofInt _) rfl, List.forall_mem_nil _⟩
    case quadwords =>
      exact ⟨shift _ rfl (shiftLeft_eq_ofNat _) rfl, shift _ rfl (shiftRight_eq_ofNat _) rfl, List.forall_mem_nil _⟩
  case source =>
    have shift := fun w hw {f g} same {i} => vecResult_shiftBy (w := w) (f := f) (g := g) (i := i) hw h same
    refine ⟨?words, ?doublewords, ?quadwords⟩
    case words | doublewords =>
      exact ⟨shift _ rfl (shiftLeft_eq_ofNat _) rfl, shift _ rfl (shiftRight_eq_ofNat _) rfl,
        shift _ rfl (shiftArith_eq_ofInt _) rfl, List.forall_mem_nil _⟩
    case quadwords =>
      exact ⟨shift _ rfl (shiftLeft_eq_ofNat _) rfl, shift _ rfl (shiftRight_eq_ofNat _) rfl, List.forall_mem_nil _⟩

end Sys2Proof.Machine

/-! Dot products (48_four_operand.md R465, R468; 05_numerics.md R588). -/

namespace Sys2Proof.Machine

/-! ### Products and elements -/

theorem dotProduct_eq (N : Numerics) (F : Fmt) (imm : BitVec 8) (c : Ctl) (x y : BitVec 128) (j : Nat) :
    dotProduct N F imm c x y j =
      if imm.toNat / 2 ^ (4 + j) % 2 = 1 then N.fmul F c (elem F.width j x) (elem F.width j y) else (0, 0) := by
  simp only [dotProduct, getLsbD_eq_true_iff]

theorem unionFlags_one (g : Nat → FpFlags) : unionFlags g 1 = g 0 := BitVec.zero_or

theorem unionFlags_two (g : Nat → FpFlags) : unionFlags g 2 = g 0 ||| g 1 := by rw [unionFlags, unionFlags_one]

theorem expOf_or {F : Fmt} (x y : BitVec F.width) : expOf (x ||| y) = expOf x ||| expOf y := by
  simp only [expOf, BitVec.toNat_or, ← Nat.shiftRight_eq_div_pow, Nat.shiftRight_or_distrib, Nat.or_mod_two_pow]

theorem fracOf_or {F : Fmt} (x y : BitVec F.width) : fracOf (x ||| y) = fracOf x ||| fracOf y := by
  simp only [fracOf, BitVec.toNat_or, Nat.or_mod_two_pow]

/-- Whatever the draw of the free value is, the bits set in it make it a quiet NaN (R588). -/
theorem dotNaN_isQuiet (F : Fmt) (imm : BitVec 8) (c : Ctl) (x y : BitVec 128) (lane j : Nat) :
    isNaN (dotNaN F imm c x y lane j) = true ∧ isSNaN (dotNaN F imm c x y lane j) = false := by
  have top : 2 ^ (F.frac - 1) < 2 ^ F.frac := by cases F <;> decide
  have exponent : expOf (dotNaN F imm c x y lane j) = F.expMax := by
    refine le_antisymm (Nat.le_sub_one_of_lt (expOf_lt _)) ?_
    rw [dotNaN, expOf_or, expOf_pack _ expMax_lt top]
    exact Nat.right_le_or
  have fraction : fracOf (dotNaN F imm c x y lane j) ≠ 0 := by
    rw [dotNaN, fracOf_or, fracOf_pack _ expMax_lt top]
    exact (Nat.lt_of_lt_of_le (by positivity) Nat.right_le_or).ne'
  have quietBit : (dotNaN F imm c x y lane j).getLsbD (F.frac - 1) = true := by
    have packed : (pack F false F.expMax (2 ^ (F.frac - 1))).getLsbD (F.frac - 1) = true := by cases F <;> decide
    rw [dotNaN, BitVec.getLsbD_or, packed, Bool.or_true]
  simp [isNaN, isSNaN, exponent, fraction, quietBit]

/-- What stands in an element for the sum `t` of its lane: the sum, some quiet NaN in place of a NaN, or zero where the
element is not selected. -/
def StandsForSum (F : Fmt) (selected : Bool) (t x : BitVec F.width) : Prop :=
  (selected = false → x = 0) ∧ (selected = true → isNaN t = false → x = t) ∧
    (selected = true → isNaN t = true → isNaN x = true ∧ isSNaN x = false)

theorem dotElem_standsForSum (F : Fmt) (imm : BitVec 8) (c : Ctl) (x y : BitVec 128) (lane j : Nat) (t : BitVec F.width) :
    StandsForSum F (imm.getLsbD j) t (dotElem F imm c x y lane j t) := by
  refine ⟨fun off => ?zero, fun on number => ?sum, fun on nan => ?nan⟩
  case zero => simp [dotElem, off]
  case sum => simp [dotElem, on, number]
  case nan => simpa [dotElem, on, nan] using dotNaN_isQuiet F imm c x y lane j

/-! ### The instructions -/

section
variable {i : Instr} {s : State} {d a : Reg} {b : RegMem} {N : Numerics} {imm : BitVec 8}

/-- VDPPS at either width: lane `m` has elements `4 * m` to `4 * m + 3`. -/
theorem numericOutcome_dotPs {n k : Nat} {v : BitVec n} (h : Reads n 1 s [d, a] b v) (hn : n ≤ 256) (hk : 32 * k = n)
    (he : exec i s = opRVMfp n n (dotPs N imm) d a b s) :
    ∃ g : Nat → BitVec 32,
      (∀ j < k, StandsForSum .f32 (imm.getLsbD (j % 4))
        (dotSum32 N imm (ctl s) (elem 128 (j / 4) (readVec n s a)) (elem 128 (j / 4) v)).1 (g j)) ∧
      NumericOutcome 32 k i s d g
        (unionFlags (fun m => (dotSum32 N imm (ctl s) (elem 128 m (readVec n s a)) (elem 128 m v)).2) (n / 128)) :=
  ⟨_, fun _ _ => dotElem_standsForSum .f32 imm (ctl s) _ _ _ _ _,
    numericOutcome_opRVMfp h he hn hk (fun _ hj => elem_vec _ (by omega)) rfl⟩

theorem numericOutcome_dotPd {v : BitVec 128} (h : Reads 128 1 s [d, a] b v)
    (he : exec i s = opRVMfp 128 128 (dotPd N imm) d a b s) :
    ∃ g : Nat → BitVec 64,
      (∀ j < 2, StandsForSum .f64 (imm.getLsbD j) (dotSum64 N imm (ctl s) (readVec 128 s a) v).1 (g j)) ∧
      NumericOutcome 64 2 i s d g (dotSum64 N imm (ctl s) (readVec 128 s a) v).2 :=
  ⟨_, fun _ _ => dotElem_standsForSum .f64 imm (ctl s) _ _ _ _ _,
    numericOutcome_opRVMfp h he (by omega) rfl (fun _ hj => elem_vec _ hj) rfl⟩

end

/-- Settles O50: each lane holds what stands for its sum, and the 128-bit form is one lane. -/
theorem dotProducts : Obligations.DotProducts := by
  intro s d a b imm N c p32 t32 p64 gives
  have sum32 : ∀ x y, dotSum32 (numerics s) imm (ctl s) x y = t32 x y := fun x y => by
    simp only [dotSum32, dotProduct_eq]
    rfl
  refine ⟨fun v h => ⟨?single, ?double⟩, fun v h => ?wide⟩
  case single =>
    obtain ⟨g, elements, outcome⟩ := numericOutcome_dotPs (i := .vdppsX d a b imm) h (by omega) (k := 4) rfl rfl
    rw [unionFlags_one, elem_zero_self, elem_zero_self, sum32] at outcome
    refine ⟨g, fun j hj => ?_, outcome⟩
    have lane := elements j hj
    rwa [Nat.mod_eq_of_lt hj, Nat.div_eq_of_lt hj, elem_zero_self, elem_zero_self, sum32] at lane
  case double =>
    have both := numericOutcome_dotPd (i := .vdppd d a b imm) h rfl
    simp only [dotSum64, dotProduct_eq] at both
    exact both
  case wide =>
    have lanes := numericOutcome_dotPs (i := .vdppsY d a b imm) h (by omega) (k := 8) rfl rfl
    rw [unionFlags_two] at lanes
    simp only [sum32] at lanes
    exact lanes

end Sys2Proof.Machine
